-- ==== Sys2Proof/Word.lean ====
section
/-! DEFINITION. Bytes and the plainest reading of byte strings (R3: little-endian, bit 0 least significant). -/

namespace Sys2Proof

/-- One byte. -/
abbrev Byte := BitVec 8

/-- A string of bytes, lowest address first. -/
abbrev Bytes := List Byte

end Sys2Proof
end

