-- ==== Sys2Proof/Syntax.lean ====
section
/-! DEFINITION. The commands of the block: one constructor for each row of spec/opcode_table.json, with the operands that
the row's event brings from outside (R9; the chapters named at each constructor). -/

namespace Sys2Proof

/-- How a read of host memory ended (R230, Table 8.11). -/
inductive HostReadOutcome where
  | data (bytes : Bytes)   -- successful completions with all bytes, poison-free
  | poisoned
  | unsupported            -- Unsupported Request
  | completerAbort
deriving DecidableEq, Repr

/-- How a member command ended. -/
inductive MemberOutcome where
  | ok (blocks : List Bytes)   -- success; for a read the 4 KiB blocks in order
  | readError (bad : List Nat) -- unrecovered read error; block offsets within the command
  | failed                     -- any other error status
deriving DecidableEq, Repr

/-- Which register a write without a row of its own goes to (R181, R219, R224, R226, R229). -/
inductive RegTarget where
  | bar0 (offset : Nat)      -- unit registers, queue-pair blocks, mailbox header and buffer
  | bar4 (offset : Nat)      -- MSI-X table
  | maxPayload | maxReadRequest | completionTimeoutValue | relaxedOrdering | tenBitTags
  | msixEnable | msixFunctionMask | ltrEnable | maxSnoop | maxNoSnoop
  | bar (number : Nat)       -- a BAR of the configuration header, by its number
  | expansionRom             -- the expansion ROM BAR
deriving DecidableEq, Repr

/-- Origins of a dictionary write (Table 12.5). -/
inductive Origin where
  | host | peer | net | self | service
deriving DecidableEq, Repr

/-- Routes of a dictionary write (Table 12.7, field route). -/
inductive Route where
  | window | mailbox | queue | adp | firmware | pairMirror | ring
deriving DecidableEq, Repr

/-- Who writes and by which route (R337). -/
structure Writer where
  origin : Origin
  route : Route
  originId : Nat
deriving DecidableEq, Repr

/-- The stripe reference that begins every STRIPE and COMMIT body (Table 11.7). -/
structure StripeRef where
  piste : Nat
  kind : Nat
  outcome : Nat
  acked : Bool
  degraded : Bool
  columnMask : Nat
  stripe : Nat
  generation : Nat
  atStride : Nat
deriving DecidableEq, Repr

/-- The partner heartbeat record (Table 10.3). -/
structure PartnerHb where
  role : Nat
  syncState : Nat
  endorseRequest : Bool
  endorseGrant : Bool
  brace : Bool
  leaving : Bool
  judgeReachable : Bool
  vaultStart : Bool
  lastLaneBlock : Nat
  epoch : Nat
  hbSeq : Nat
  serial : Nat
  sealSeq : Nat
  ownCeiling : Nat
  lastLaneLap : Nat
  acceptanceHigh : Nat
  leaseRemaining : Nat
  dirtyBytes : Nat
deriving DecidableEq, Repr

/-- A lease request (Table 10.4). -/
structure LeaseRequest where
  op : Nat
  role : Nat
  synced : Bool
  pUp : Bool
  partnerAlive : Bool
  epoch : Nat
  pairId : Nat
  serial : Nat
  sealSeq : Nat
  requestSeq : Nat
  leaseUs : Nat
deriving DecidableEq, Repr

/-- A lease reply (Table 10.5). -/
structure LeaseAnswer where
  result : Nat
  op : Nat
  epoch : Nat
  pairId : Nat
  holder : Nat
  requestSeq : Nat
  protectionUs : Nat
  partnerAge : Nat
deriving DecidableEq, Repr

/-- A TIME marker (Table 11.8) with the delays of the copy received. -/
structure MarkerMsg where
  pacerNode : Nat
  accDelayPs : Nat
  stride : Nat
  strideTicks : Nat
  pacerGeneration : Nat
deriving DecidableEq, Repr

/-- A ring heartbeat (Table 11.9). -/
structure RingHbMsg where
  nodeId : Nat
  role : Nat
  syncState : Nat
  timeValid : Bool
  aliases : Nat
  serial : Nat
  pairId : Nat
  epoch : Nat
  partnerNode : Nat
  lap : Nat
deriving DecidableEq, Repr

/-- A HELLO (Table 11.6). -/
structure HelloMsg where
  nodeId : Nat
  serial : Nat
  strideTicks : Nat
  timebaseLocked : Bool
  siliconRevision : Nat
  firmwareVersion : Nat
  lpddrBytes : Nat
  pairMode : Nat
  pairId : Nat
  judgeAddress : Nat
deriving DecidableEq, Repr

/-- One entry of a ROSTER message (Table 11.6). -/
structure RosterEntry where
  nodeId : Nat
  serial : Nat
  strideTicks : Nat
  timeValid : Bool
  delayE : Nat      -- E hop delay in ns
  delayW : Nat      -- W hop delay in ns
  ringState : Nat
deriving DecidableEq, Repr

/-- The record a MIRROR_RECORD carries (Table 11.6, Table 10.8). Numbers and byte images only: the receiving unit stores
them as the state they stand for. -/
inductive MirrorRecord where
  | entryState (slot : Nat) (image : Bytes)               -- sealed journal change: the 128-byte entry (Table 4.2)
  | changeRecord (slot : Nat) (rows : List (Nat × Nat × Nat × Bool))  -- granule, old map entry, new map entry, superseded
  | dirtyLog (logSlot member : Nat) (regions : List Nat)
  | lostRange (piste first count : Nat)
  | lostStripe (image : Bytes)                            -- 32 bytes, Table 6.5
  | rebuildRecord (piste : Nat) (image : Bytes)           -- 384 bytes, Table 6.3
  | fallLine (piste : Nat) (image : Bytes)                -- 64 bytes, Table 6.10
  | deferred (number piste kind firstBlock count carriedBy carriedQueue : Nat) (delivered posted : Bool)
  | dictWrite (index sub : Nat) (value : Bytes)           -- a pair-wide write (R336)
  | acceptance (high : Nat)
deriving DecidableEq, Repr

/-- The content of a MIRROR_BULK message (R292): data or a record. -/
inductive BulkItem where
  | block (piste hostBlock cacheState : Nat) (data : Bytes)
  | mapPage (piste page : Nat) (data : Bytes)            -- a dirty map page (R126, Table 10.8)
  | record (r : MirrorRecord)
  | bulkEnd                                              -- the bulk part ends
deriving DecidableEq, Repr

/-- An authenticated ADP frame's header fields (Table 12.8), its addresses and its tag (R347). -/
structure AdpFrame where
  srcMac : Nat
  dstMac : Nat
  version : Nat
  op : Nat
  reply : Bool
  keySlot : Nat
  status : Nat
  session : Nat
  seq : Nat
  body : Bytes
  tag : Bytes
  etherType : Nat := 0x88B5
  vlan : Bool := false       -- it carries a VLAN tag
  fcsOk : Bool := true       -- its frame check sequence is good
deriving DecidableEq, Repr

/-- What a drive reports when its controller is ready (Table 9.2, Table 9.3, Table 5.1). -/
structure DriveReport where
  meetsTable : Bool          -- every row of Table 9.2 that Identify shows
  conventionalBlocks : Nat   -- 0: no conventional namespace
  zonedBlocks : Nat          -- 0: no zoned namespace
  zoneCount : Nat
  zoneSize : Nat
  zoneCapacity : Nat
  meetsZoned : Bool          -- the rows of Table 5.1 that Identify shows
  labelMagic : Nat
  labelFormat : Nat
  labelPool : Nat
  labelVault : Bool
  labelOwner : Nat
  labelUid : Nat
  labelGeneration : Nat
  labelNguidConventional : Nat
  labelNguidZoned : Nat
  labelNqnCheck : Nat
  labelCrcOk : Bool
  nqn : Bytes
  nguidConventional : Nat
  nguidZoned : Nat
  capTimeoutMs : Nat         -- CAP.TO
  rtd3EntryMs : Nat          -- RTD3 entry latency
  zoneReports : List (Nat × Nat)  -- zone, 0 empty, 1 written, 2 read-only or offline (Report Zones)
  laneBlocks : List (Nat × Bytes) := []   -- lane blocks of the reserved area that hold a lane: block 0, 1 or 2, header and entries (R103)
  maxActive : Nat := 0       -- zones that may be active at once; 0: no limit (Table 5.1)
  lbaConventional : Nat := 4096   -- logical block of the conventional namespace: 4096 or 512 bytes (R43)
  lbaZoned : Nat := 4096          -- of the zoned namespace
deriving DecidableEq, Repr

/-- One lap's readings of the pack and the input (R358, R372). -/
structure LapSample where
  packUv : Nat        -- mean of the lap's BKP_VSENSE samples, microvolts at the pack
  packMinUv : Nat     -- lowest and highest BKP_VSENSE sample of the lap
  packMaxUv : Nat
  tempDc : Int        -- BKP_TSENSE, tenths of a degree C
  vinMinMv : Nat      -- lowest VIN sample of the lap
  vinMeanMv : Nat
deriving DecidableEq, Repr

/-- What a memory location held when it failed (Table 14.3). -/
inductive MemoryContent where
  | cacheBlock (piste block : Nat)
  | frozenBlock (piste block : Nat)     -- its FROZEN version, beneath a newer one (R71)
  | mapPage (piste page : Nat)
  | relocationPage (piste slot page : Nat)
  | journalSlot (slot : Nat) (otherCopyGood : Bool)
  | vaultRecords (otherCopyGood : Bool)
  | zoneFigures (piste : Nat)
  | zoneRecord (slot zone : Nat)
  | companionIndex
  | strideBuffer
  | engineLocal (engine : Nat)
  | coreCode
  | coreData
  | recorderBuffer (seq : Nat)
  | dictShadow
  | other                     -- a location that holds nothing Table 14.3 names
deriving DecidableEq, Repr

/-- DMA channels (Table 15.2). -/
inductive DmaChannel where
  | host | member (slot : Nat) | utofer (port : Nat) | vault
deriving DecidableEq, Repr

/-- An image found in a boot flash (R432). -/
structure FlashImage where
  signatureOk : Bool
  securityVersion : Nat
  length : Nat
  firmwareVersion : Nat
  digestPrefix : Nat
  present : Bool
deriving DecidableEq, Repr, Inhabited

/-- What the unit finds at a start before any settings are loaded (R428 to R432, R445, R397). -/
structure StartInputs where
  strapMemberX4 : Bool
  strapNodeId : Nat
  strapBootSel : Bool
  presence : List Nat            -- slots whose presence input reads 1
  powered : List Nat             -- slots found powered with power-good set (R265)
  packMv : Nat
  tempDc : Int
  selfCheckOk : Bool             -- the collector's self-check
  referenceOk : Bool             -- the 25 MHz reference is present (R450)
  railsOk : Bool                 -- R447
  sparesUsed : Nat               -- spares switched in from both maps
  spareExhausted : List (Nat × Nat)  -- entries whose macro has no spare left: region, macro number
deriving DecidableEq, Repr, Inhabited

/-- The commands. One constructor for each row of the table, in the table's order. -/
inductive Instr where
  -- stride clock and scheduler (02)
  | strideBoundary (handed : Option Nat)
  | planCutoff
  | engineStepComplete (engine step : Nat)
  | lapBoundary (sample : LapSample)
  | timebaseUnlock
  | timebaseRelock
  | marker (port : Nat) (m : MarkerMsg) (arrivalPs : Int)
  | markerLoss
  | holdoverExpiry
  | pacerElection
  -- queue commands (07)
  | read (queue cid : Nat)
  | write (queue cid : Nat)
  | flush (queue cid : Nat)
  | deallocate (queue cid : Nat)
  | writeZeroes (queue cid : Nat)
  | abort (cid : Nat)
  | getLog (cid : Nat)
  | dictRead (cid : Nat)
  | dictWrite (cid : Nat)
  | pisteCreate (cid : Nat)
  | pisteDelete (cid : Nat)
  | pisteReshape (cid : Nat)
  | rebuildStart (cid : Nat)
  | sweep (cid : Nat)
  | groomForce (cid : Nat)
  | memberRemove (cid : Nat)
  | memberAdd (cid : Nat)
  | handleQuery (cid : Nat)
  | handleCancel (cid : Nat)
  | vaultTest (cid : Nat)
  | undefinedOpcode (queue : Nat)
  -- queue interface registers (07, 08)
  | sqTailDoorbell (queue value requester : Nat)
  | cqHeadDoorbell (queue value : Nat)
  | queueEnable (queue : Nat)
  | queueDisable (queue : Nat)
  | queueDrained (queue : Nat)
  | cqiEnable (value : Bool)
  | eventsDroppedClear
  | registerWrite (target : RegTarget) (size value : Nat)
  | submissionFetch
  | hostReadCompletion (tag : Nat) (outcome : HostReadOutcome)
  | completionTimeout (tag : Nat)
  | tagQuarantineExpiry (tag : Nat)
  | windowWrite (offset size value requester : Nat)
  | mailboxRead
  | mailboxWrite (requester : Nat)
  | msixUnmask (vector : Option Nat)
  | busMasterDisable
  | busMasterEnable
  | bmeClearLimitExpiry
  | powerStateD3hot
  | powerStateD0
  | functionLevelReset
  | flrComplete
  | hostLinkDown
  | hotReset
  | perstNAssert
  | perstNRelease
  | hostLinkReady (speed width : Nat) (flit : Bool)
  -- write path and journal (04), groomed media (05), degraded service (06), directory (03)
  | gateAdmit
  | allowanceAdmit (piste : Nat)
  | gateWaitFallback (piste : Nat)
  | writeBackResume (piste : Nat)
  | cacheModeWriteBack (piste : Nat)
  | partialHoldExpiry (piste stripe : Nat)
  | memberCommandComplete (slot id : Nat) (outcome : MemberOutcome)
  | journalReplay
  | replayDone
  | zoneVerify (slot zone : Nat)
  | mapWritebackDue (piste page : Nat)
  | zoneReclaim (slot zone : Nat)
  | groomVictim (piste : Nat)
  | censusComplete (piste : Nat)
  | readDeadlineMiss (slot id : Nat)
  | errorBucketLeak
  | graceExpiry (slot : Nat)
  | resyncDone (slot : Nat)
  | rebuildSlotDone (piste slot : Nat)
  | priorityPassEnd (piste item : Nat)
  | drainDone (slot : Nat)
  | copybackDone (piste slot : Nat)
  | lostHoldExpiry (piste stripe : Nat)
  | sweepEnd (handle : Nat)
  | groomForceDone (handle : Nat)
  | pisteZeroingDone (piste : Nat)
  | pisteStopped (piste : Nat)
  | pisteDeleteDone (piste : Nat)
  | pisteStop (piste : Nat) (writer : Writer)
  | pisteStart (piste : Nat) (writer : Writer)
  | directoryChangeDurable (generation : Nat)
  | reshapeFinish (piste : Nat)
  | reshapeResume (piste : Nat)
  -- member ports and bays (09)
  | memberCommandTimeout (slot id : Nat)
  | abortTimeout (slot id : Nat)
  | memberLinkFault (slot cause : Nat)
  | containmentRelease (slot : Nat) (writer : Writer) (linkUp identityOk : Bool)
  | containmentAutoRelease (slot : Nat) (linkUp identityOk : Bool)
  | containmentWindowExpiry (slot : Nat)
  | containedPresenceLoss (slot : Nat)
  | sgpioFrame (stream : Nat) (inputs : List (Bool × Bool × Bool))
  | buttonPress (slot : Nat)
  | removalWindowEnd (slot : Nat)
  | refusalSignalEnd (slot : Nat)
  | shutdownComplete (slot : Nat)
  | shutdownWaitExpiry (slot : Nat)
  | surpriseRemoval (slot : Nat)
  | presenceDebounced (slot : Nat)
  | slotPowerGroup
  | powerGood (slot : Nat)
  | powerGoodTimeout (slot : Nat)
  | insertionWaitTimeout (slot : Nat)
  | controllerReady (slot : Nat) (report : DriveReport)
  | slotEnable (slot : Nat) (value : Bool) (writer : Writer)
  -- pair and judge (10)
  | partnerHb (hb : PartnerHb)
  | partnerSilent
  | leaseReply (src : Nat) (reply : LeaseAnswer)
  | lease (src : Nat) (request : LeaseRequest)
  | judgeAcquireWindowEnd (record : Nat)
  | judgeProtectionEnd (record : Nat)
  | leaseWriteStop
  | leaseExpiry
  | takeoverServing
  | fenceHoldEnd
  | handover (writer : Writer)
  | handoverDrained
  | syncComplete
  | forceTakeover (writer : Writer)
  | watchHbLoss
  | watchDeadline
  -- Utofer and ring (11)
  | utoferLinkUp (port lanes : Nat)
  | flitReceive (port : Nat) (raw : Bytes)
  | utoferAckTimeout (port : Nat)
  | utoferRecoveryTimeout (port : Nat)
  | pLinkUp (peer : HelloMsg) (lanes : Nat)
  | mirrorData (seq piste hostBlock cacheState : Nat) (data : Bytes)
  | mirrorRecord (seq : Nat) (record : MirrorRecord)
  | strideEnd (stride lastSeq : Nat)
  | mirrorAccept (seq : Nat)
  | mirrorBulk (item : BulkItem)
  | ringHb (src : Nat) (hb : RingHbMsg)
  | ringMemberLost (node : Nat)
  | echoReq (port t1 t2 t3 : Nat)
  | echoReply (port t1 turnaround t4 : Nat)
  | hello (port : Nat) (h : HelloMsg)
  | roster (src : Nat) (entries : List RosterEntry)
  | nodeAlias (src claimed claimant epoch : Nat) (claim : Bool)
  | unitResetMsg (src target logSeq : Nat)
  | pisteCheck (src tag : Nat) (descriptor : Bytes)
  | pisteCheckReply (src tag result : Nat)
  | stripRead (src : Nat) (ref : StripeRef) (first count cls tag : Nat)
  | stripData (src : Nat) (ref : StripeRef) (tag : Nat) (blocks : List Bytes)
  | stripWrite (src : Nat) (ref : StripeRef) (memberSet : Bytes) (parityCheck first count : Nat) (columns : List (List Bytes))
  | stripFail (src : Nat) (ref : StripeRef) (tag reason : Nat)
  | written (src : Nat) (ref : StripeRef)
  | call (src : Nat) (ref : StripeRef)
  | report (src : Nat) (ref : StripeRef)
  | recall (src : Nat) (ref : StripeRef)
  | state (src : Nat) (ref : StripeRef)
  | missed (src : Nat) (ref : StripeRef)
  | resolve (src : Nat) (ref : StripeRef)
  | commitRetryExpiry (piste stripe generation : Nat)
  | missedRepeat (piste stripe generation : Nat)
  | ringResetNode (node : Nat) (writer : Writer)
  -- management network and dictionary (12)
  | discover (frame : AdpFrame)
  | syncReq (frame : AdpFrame)
  | adpRead (frame : AdpFrame)
  | adpWrite (frame : AdpFrame)
  | pairWrite (frame : AdpFrame)
  | vaultHb (frame : AdpFrame)
  | vaultEnd (frame : AdpFrame)
  | safeNotice (frame : AdpFrame)
  | adpReply (frame : AdpFrame)
  | adpRequestTimeout (toJudge : Bool)
  | phyResetDetected (readBackOk : Bool) (badRegister : Nat)
  | rightsSet (value : Nat) (writer : Writer)
  | adpKeyWrite (slot : Nat) (key : Bytes) (writer : Writer)
  | settingsCommit
  | dictWriteOther (index sub : Nat) (value : Bytes) (writer : Writer)
  -- supply and pack (13)
  | vinWarn (mv : Nat)
  | vinSwitch (mv : Nat)
  | vinReset (mv : Nat)
  | braceExit
  | vaultComplete (durationMs : Nat)
  | vaultCutoff
  | vaultDriveLost (drive : Nat)
  | vaultInputRecovered
  | packLeavesConnected (cause : Nat)
  | chargerCv
  | startRestEnd (packUv : Nat) (tempDc : Int) (moved60sUv : Nat)
  | resistanceStepMeasure (deltaUv : Nat) (tempDc : Int)
  | chargerPauseStart
  | chargerPauseEnd (packUv : Nat) (tempDc : Int)
  | pauseWindowFail
  | packReplaced (writer : Writer)
  | vaultTestEnd (rateMbs writtenMib durationMs : Nat) (sagUv : Option Nat)
  | shipMode (value : Nat) (writer : Writer)
  | shipModeOpen
  | packReconnect (packUv : Nat) (tempDc : Int)
  -- memory integrity (14)
  | memoryCorrected (region address bit : Nat)
  | memoryUncorrectable (region address : Nat) (content : MemoryContent) (channel : Option DmaChannel)
  | mergeEntryTimeout (entry region address : Nat) (oldCorrectable : Bool) (content : MemoryContent)
  | dmaHaltRestart (channel : DmaChannel)
  | scrubStart (descriptor : Bytes) (writer : Writer)
  | scrubCancel (writer : Writer)
  | scrubEnd
  | patrolScrub (lines : Nat)
  -- faults and recorder (15)
  | faultMessage (source kind : Nat) (address : Option Nat)
  | faultTimerExpiry (source : Nat)
  | faultClear (value : Nat) (writer : Writer)
  | faultForce (source kind : Nat) (writer : Writer)
  | recorderFlush (writer : Writer)
  | recorderFlushPeriodic
  | recorderCheckpoint
  -- start and reset (16, 17)
  | coldPowerOn (inputs : StartInputs)
  | resetNAssert (us : Nat)
  | resetNRelease (inputs : StartInputs)
  | firmwareStart
  | memberWaitEnd
  | unitReset (value : Nat) (writer : Writer)
  | railFault
  | imageChunk (payload : Bytes) (writer : Writer)
  | imageCommit (found : FlashImage) (writer : Writer)
  -- rows at the table's end
  | memberLinkUp (slot speed width : Nat)
  | presenceLost (slot : Nat)
  | vinResetRelease
  | packConnected (packMv : Nat) (tempDc : Int)
  | adpUnsupported (frame : AdpFrame)
deriving DecidableEq, Repr

end Sys2Proof
end

