-- ==== Sys2Proof/Config.lean ====
section
/-! DEFINITION. What an implementation fixes and what the spec leaves open: opaque constants, of which nothing in Lean can
evaluate or prove a value. Each has a row in notes/assumptions. -/

namespace Sys2Proof.Config

/-- unit_serial, from eFuses (Table 12.12). [DESIGN CHOICE, notes/assumptions/7.md] -/
opaque unitSerial : Nat
/-- What fixes the order code. [DESIGN CHOICE, notes/assumptions/7.md] -/
opaque orderCodeRaw : Nat
/-- order_code (Table 12.12, Table 0.1): 0 or 1. [DESIGN CHOICE, notes/assumptions/7.md] -/
def orderCode : Nat := orderCodeRaw % 2
/-- boot_rom_version (Table 12.12). [DESIGN CHOICE, notes/assumptions/7.md] -/
opaque bootRomVersion : Nat
/-- dictionary_version (Table 12.12). [DESIGN CHOICE, notes/assumptions/7.md] -/
opaque dictionaryVersion : Nat
/-- What fixes the main memory fitted. [DESIGN CHOICE, notes/assumptions/7.md] -/
opaque lpddrFitted : Nat
/-- lpddr6_bytes: main memory fitted (Table 12.12), 96 GiB to 384 GiB (Table 0.5). [DESIGN CHOICE, notes/assumptions/7.md] -/
def lpddrBytes : Nat := 96 * 2 ^ 30 + lpddrFitted % (288 * 2 ^ 30 + 1)
/-- device_area_bytes: LPDDR6 held for the device's own structures, fixed at start (Table 4.9). [DESIGN CHOICE, notes/assumptions/7.md] -/
opaque deviceAreaBytes : Nat
/-- The random source: seeds, uids, sessions and nonces (R62, R69, R249, R348); draw number to value. [DESIGN CHOICE, notes/assumptions/6.md] -/
opaque draw : Nat → Nat
/-- Clocks left of the step an engine has not finished at a stride boundary (Table 2.4), before the bound its estimate sets: draw
number to value. [DESIGN CHOICE, notes/assumptions/6.md; DESIGN CHOICE, notes/assumptions/101.md] -/
opaque stepLeft : Nat → Nat
/-- exp(-x) of R373 as the supervisor cores compute it. [DESIGN CHOICE, notes/assumptions/6.md] -/
opaque expNeg : Rat → Rat
/-- A quotient of the estimator whose divisor is 0 (R372, R373, R377, R380): the spec states no result.
[DESIGN CHOICE, notes/assumptions/6.md] -/
opaque divZero : Rat → Rat
/-- OCVinv of a voltage outside the points of the OCV table (R372). [DESIGN CHOICE, notes/assumptions/6.md] -/
opaque ocvOutside : Rat → Rat
/-- zcut of R373 where no table point keeps the cut-off voltage under load. [DESIGN CHOICE, notes/assumptions/6.md] -/
opaque zcutNone : Rat
/-- Rounding of an estimator figure to the whole number an object reports (R373, Table 13.13).
[DESIGN CHOICE, notes/assumptions/6.md; DEDUCED, notes/assumptions/74.md] -/
opaque toReport : Rat → Nat
/-- The device's estimate of the laps until it is ready (R351, R437).
[DESIGN CHOICE, notes/assumptions/6.md; DEDUCED, notes/assumptions/71.md] -/
opaque readyEstimate : Nat → Nat
/-- Contents of READ buffer bytes the spec calls undefined (R195): draw number to byte string. [DESIGN CHOICE, notes/assumptions/6.md] -/
opaque undefinedBytes : Nat → Bytes
/-- member_base and map_base the device chooses (R62, R124), relocation_base (R158), and capacity for a request of 0: a choice
among the extents that pass the checks; draw number to value. [DESIGN CHOICE, notes/assumptions/6.md; DESIGN CHOICE, notes/assumptions/21.md] -/
opaque chooseBase : Nat → Nat
/-- The byte an entry whose scatter list breaks R190 or R191 names in bits 15:0 of its result: R193 numbers no byte of a list.
[DESIGN CHOICE, notes/assumptions/6.md; DESIGN CHOICE, notes/assumptions/34.md] -/
opaque breachByte : Nat
/-- progress_permille of a running operation (Table 7.11), which the spec does not define: draw number to value.
[DESIGN CHOICE, notes/assumptions/6.md; DESIGN CHOICE, notes/assumptions/48.md] -/
opaque progress : Nat → Nat
/-- Bytes of a vault image written so far, which only the drives tell: draw number to value.
[DESIGN CHOICE, notes/assumptions/6.md; DEDUCED, notes/assumptions/77.md] -/
opaque vaultWritten : Nat → Nat
/-- Lines a scrub had read when it was ended early, which only the scrub engine tells: draw number to value.
[DESIGN CHOICE, notes/assumptions/6.md; DEDUCED, notes/assumptions/85.md] -/
opaque scrubRead : Nat → Nat
/-- Whether a contained port's link has retrained with the same drive behind it, asked for by a write that has no row of its own
(R253): draw number to answer. [DESIGN CHOICE, notes/assumptions/6.md; DESIGN CHOICE, notes/assumptions/54.md] -/
opaque releaseFound : Nat → Bool
/-- What the image written by image_chunk reads as at a commit by a write that has no row of its own (R432): draw number to image.
[DESIGN CHOICE, notes/assumptions/6.md; DESIGN CHOICE, notes/assumptions/54.md] -/
opaque imageFound : Nat → FlashImage
/-- How the SAFE_TO_REMOVE event records a drive that did not complete its shutdown (R262): by slot.
[DESIGN CHOICE, notes/assumptions/6.md; DESIGN CHOICE, notes/assumptions/52.md] -/
opaque lateShutdown : Nat → Nat
/-- The result of a lease request to which no row of Table 10.6 gives an answer: number to value.
[DESIGN CHOICE, notes/assumptions/6.md; DEDUCED, notes/assumptions/55.md] -/
opaque judgeOther : Nat → Nat
/-- The node reached from a node's E port: how the ring is cabled, which no message tells (R310, R313).
[DESIGN CHOICE, notes/assumptions/6.md] -/
opaque eastOf : Nat → Nat

end Sys2Proof.Config
end

