-- ==== Sys2Proof/Machine/Types.lean ====
section
/-! DEFINITION. The parts State is built from: plain data, one structure for each unit of the chip (R9) and each table of the
spec that software or another unit can see. -/

namespace Sys2Proof.Machine

/-- A map from numbers to values: pairs with keys strictly rising; a key that is not listed holds the default value that the
reader names. -/
abbrev KMap (β : Type) := List (Nat × β)

/-! ### Straps and identity (R242, R445) -/

structure Straps where
  memberX4 : Bool      -- STRAP_MEMBER_X4, read at cold power-on only
  nodeId : Nat         -- STRAP_NODE_ID[4:0], read at cold power-on only
  bootSel : Bool       -- STRAP_BOOT_SEL, read at every start
deriving DecidableEq, Repr, Inhabited

/-! ### Stride clock (R16 to R41) -/

/-- Ring sync states (Table 2.6). -/
inductive SyncState where
  | free | acquiring | locked | holdover
deriving DecidableEq, Repr, Inhabited

structure Clock where
  running : Bool            -- the stride clock runs (from the 150 ms step, R429)
  ticks : Nat               -- 0x1201 stride_ticks: the stride in force
  stride : Nat              -- 0x1202 stride_number
  locked : Bool             -- 0x1204 timebase_locked
  sync : SyncState          -- 0x1210 sync_state
  phasePs : Int             -- 0x1211 phase_error_ps
  phaseMaxLap : Nat         -- largest |e| in the lap under way
  phaseMaxLast : Nat        -- 0x1212: in the last complete lap
  offset : Int              -- 0x1213 stride_offset
  shift : Int               -- sum of the differences by which the stride number was replaced: timers do not move (R37)
  lapDone : Bool            -- the duties of this lap boundary have been performed
  missed : Nat              -- 0x1214 missed_markers
  good : Nat                -- consecutive markers with |e| <= 16 ns
  bad : Nat                 -- consecutive markers with |e| > 16 ns
  sinceMarker : Nat         -- strides since the last valid marker
  markStride : Nat          -- the stride of the last marker used, the delay of its copy, and the counts before it (R316)
  markAcc : Nat
  markGood : Nat
  markBad : Nat
  correction : Int          -- ticks by which the next stride is lengthened (negative: shortened)
  holdStrides : Nat         -- strides spent in HOLDOVER
  pacer : Bool              -- this node is the pacer (R315)
  pacerNode : Nat           -- 0x3C06; 255 if none
  pacerChanges : Nat        -- 0x3C07
  sinceLower : Nat          -- strides since a marker from a member with a lower node ID
  lowerRun : Nat            -- consecutive strides with a valid marker from a lower node
  lowerThis : Bool          -- such a marker arrived in the stride under way
  awaitLap : Bool           -- ACQUIRING: 4 good markers seen, waiting for one on a lap boundary
  opNs : Nat                -- operating time since manufacture in ns (STAMP, bits 79:32 in ms)
  cycles : Nat              -- power-cycle count (STAMP, bits 31:0)
  startNs : Nat             -- opNs at time zero of the start in force (R428)
deriving DecidableEq, Repr, Inhabited

/-! ### Member commands, engine steps, gathers -/

/-- What a member command does on the drive. zoned tells the namespace. -/
inductive MOp where
  | readBlocks (zoned : Bool) (block count : Nat)
  | writeBlocks (zoned : Bool) (block : Nat) (data : List Bytes) (fua : Bool)
  | writeZeroes (zoned : Bool) (block count : Nat)
  | zoneReset (zone : Nat)
  | zoneFinish (zone : Nat)
  | nvmeAbort (id : Nat)
  | shutdown
deriving DecidableEq, Repr, Inhabited

/-- Why the device issues a member command: where its completion goes. -/
inductive Purpose where
  | gather (job column : Nat)                 -- one column of a gather
  | entryWrite (entry column : Nat)           -- a column write of a journal entry
  | lane (lap : Nat)                          -- journal-lane write (R100)
  | logWrite (log : Nat)                      -- dirty-region log copy (R149)
  | directory (generation : Nat)              -- piste directory copy (R68)
  | zeroing (piste : Nat)                     -- Write Zeroes of a creation or reshape (R27)
  | zoneWork (zone : Nat)                     -- zone reset or finish
  | zoneRecord (zone : Nat)                   -- zone record write (R112)
  | verify (zone group : Nat)                 -- read-back verification (R115)
  | localRepair (job column : Nat)            -- zone-strip parity repair reads (R116)
  | mapPage (piste page : Nat)                -- map page fill (R125)
  | remoteStrip (src tag : Nat) (ref : StripeRef) (first count : Nat)   -- a STRIP_READ served for a home unit (R319)
  | flushLog                                  -- recorder flush (R426)
  | label                                     -- member label write (R249)
  | vault (chunk : Nat)                       -- vault image chunk (R365)
  | none
deriving DecidableEq, Repr, Inhabited

/-- A member command, queued or outstanding (R24 to R27, R245). -/
structure MCmd where
  id : Nat
  cls : Nat                 -- traffic class (Table 2.3)
  op : MOp
  bytes : Nat               -- payload bytes charged (R27: 0 for a command that moves none; Write Zeroes count*4096)
  deadline : Option Nat     -- strides left of the read deadline (R140)
  admitted : Nat            -- operating ns at admission
  aborted : Option Nat      -- operating ns at which its NVMe Abort was sent (R245)
  readSeq : Nat             -- acceptance number of the READ it serves; 0 if none
  purpose : Purpose
  lba : Nat × Nat := (0, 0) -- as handed to the port: first logical block of the namespace, and how many (R43)
deriving DecidableEq, Repr, Inhabited

/-- A step of a stripe engine (R30). -/
structure EngineStep where
  id : Nat
  cls : Nat                 -- class of the work, its priority
  bytes : Nat               -- input bytes, at most 32,768
  clocks : Nat              -- estimate
  job : Nat                 -- gather or entry the step belongs to
deriving DecidableEq, Repr, Inhabited

structure Engine where
  running : List EngineStep -- steps of the stride under way
  loaded : List EngineStep  -- steps loaded at the cutoff for the next stride
  carried : Nat             -- clocks of unfinished steps charged to the budget of the stride under way (Table 2.4)
  overrunIds : List Nat     -- steps found unfinished at the last boundary
  clocksLap : Nat
  clocksLast : Nat          -- 0x1250
deriving DecidableEq, Repr, Inhabited

structure Scheduler where
  requests : List EngineStep     -- engine work not yet in a plan
  moved : List EngineStep        -- steps an overrun moved: the front of the next plan (Table 2.4)
  engines : KMap Engine          -- 0..23
  frozen : Bool                  -- plan n+1 is frozen
  heldPlan : Bool                -- plan n+1 was not frozen: nothing is issued in stride n+1
  unhanded : List (Nat × MCmd)   -- admissions not handed to the ports by tick 256
  overrunsLap : Nat
  derateLaps : Nat
  overrunOpen : Bool             -- carried-forward work of a reported overrun is still unfinished
  rebuiltLap : Nat               -- bytes of rebuild entries opened beyond what the rate cap has earned (R157)
  stuck : Bool                   -- the pending fault is of a step or plan unfinished at a second boundary (R32)
  nextId : Nat                   -- next command, step and gather identifier
  spare : Nat := 20              -- 0x2840 spare_zone_permille as the last lap applied it (R113, R139)
  planId : Nat                   -- commands below this number were queued before the cutoff and are in plan n+1
deriving DecidableEq, Repr, Inhabited

/-- What a set of strips is gathered for. -/
inductive GatherFor where
  | hostRead (acc block : Nat)       -- strip data of a READ, from a host block on (R141)
  | entry (slot : Nat)               -- old data, P, Q or missing columns of a journal entry (R87, R88)
  | replay (slot : Nat)              -- R104
  | check (handle : Nat)             -- stripe check of a sweep (R167)
  | relocate (slot : Nat)            -- drain or copy-back source (R161, R162)
  | granule (piste granule : Nat)    -- missing blocks of a granule to be destaged (R120)
  | copy (piste granule entry : Nat) -- a live granule to be copied, from the place its map entry names (R131)
  | mapPage (piste page : Nat)
deriving DecidableEq, Repr, Inhabited

/-- Strips of one stripe being collected over one block range. -/
structure Gather where
  id : Nat
  why : GatherFor
  cls : Nat                   -- traffic class of its own reads (Table 2.3)
  piste : Nat
  newGeom : Bool              -- stripe number is in a reshape's new geometry
  area : Nat                  -- 0 host stripes, 1 map area, 2 + slot relocation area
  stripe : Nat
  first : Nat                 -- first block within the strip
  count : Nat
  want : List Nat             -- columns wanted
  got : KMap (List Bytes)     -- columns in the stride buffers
  waiting : List Nat          -- columns with a read outstanding
  unknown : List Nat          -- columns that are unknown
  far : List Nat              -- of these, the ones that are unknown because their unit is unreachable (R61)
  uncounted : Nat             -- missed deadlines whose reconstruction has not yet been issued (R142, R143)
  late : List Nat             -- columns whose own read is still out behind a reconstruction
  solving : Bool              -- an engine has the work of its reconstruction
  holdFor : Option Nat        -- waits for the COMMITTED seal of this entry (R142)
  errors : List Nat           -- columns whose member reported an unrecovered read error (R144)
deriving DecidableEq, Repr, Inhabited

/-! ### Members and slots (R242 to R271, R145 to R150) -/

/-- Member redundancy states (Table 6.2). -/
inductive MemberState where
  | inService | failed | resyncing | rebuilding | rebuilt | draining | copyback
deriving DecidableEq, Repr, Inhabited

/-- Slot states (Table 9.6). -/
inductive SlotState where
  | empty | debounce | powering | training | ready | inUse | held | unusable | removalPending | quiescing
  | safeToRemove | powerFault | disabled | contained
deriving DecidableEq, Repr, Inhabited

/-- Member label fields the device uses (Table 9.3). -/
structure Label where
  pool : Nat               -- 0 BLANK, 1 MEMBER, 2 SPARE
  vault : Bool
  owner : Nat
  uid : Nat
  slot : Nat
  node : Nat
  generation : Nat
  nqnCheck : Nat
  nguidConventional : Nat
  nguidZoned : Nat
deriving DecidableEq, Repr, Inhabited

/-- Zone record (Table 5.2), with the model's live figures (R128). -/
structure Zone where
  zstate : Nat             -- Table 5.3: 0 EMPTY 1 OPEN 2 FULL 3 OFFLINE
  role : Nat               -- 0 DATA, 1 COMPANION
  parityMode : Nat
  piste : Nat
  resetCount : Nat
  firstSerial : Nat
  finishLap : Nat
  fill : Nat               -- strips (DATA) or parity blocks (COMPANION) written
  live : Nat               -- L(Z)
  slots : Nat              -- N(Z)
  kill : Nat               -- kill(Z)
  repaired : Bool          -- a block was repaired or a verification failed: next victim (R116)
  verified : Bool          -- read-back verification passed (R115)
  verifyLeft : Nat         -- groups still to verify
  verifyBad : Bool         -- a group failed its verification
  working : Bool           -- a reset or finish is outstanding
deriving DecidableEq, Repr, Inhabited

/-- Dirty-region log (R149). -/
structure DirtyLog where
  open_ : Bool
  slot : Nat               -- the member
  rows : List (Nat × Nat)  -- fixed pistes: (piste, row div 4096)
  zones : List Nat         -- groomed pistes: zones opened, written or reset
  durRows : List (Nat × Nat)
  durZones : List Nat      -- what the last durable copy holds
  pendRows : List (Nat × Nat)
  pendZones : List Nat
  writesOut : Nat
  pos : Nat                -- resync: next row, or next strip of the zone, within the first region of the log
  issued : Bool            -- resync: its entries have been opened
deriving DecidableEq, Repr, Inhabited

structure Member where
  -- budgets (R24 to R28)
  credit : Int
  ccred : List Int
  queues : List (List MCmd)       -- by class
  outstanding : List MCmd
  -- redundancy
  mstate : MemberState
  cause : Nat                     -- Table 6.1
  bucket : Nat                    -- R146
  lateReads : Nat
  failNs : Option Nat             -- operating ns at failure (grace timer, R148)
  failCycles : Nat
  graceOver : Bool
  inRotation : Bool               -- lane rotation (R101)
  ranResync : Bool                -- a resync or rebuild has run since it left the rotation
  -- slot and sideband
  slot : SlotState
  prevSlot : SlotState            -- state to return to after a refused removal
  presence : Bool                 -- debounced
  rawPresence : Bool
  powerEnable : Bool
  powerSent : Bool                -- the power enable the last power frame carried
  powerGood : Bool
  shutting : Bool                 -- the shutdown notification has been sent (R262)
  linkSpeed : Nat
  linkWidth : Nat
  linkUp : Bool
  presses : Nat
  refusals : Nat
  refusedNs : Option Nat          -- refusal signal running since
  windowNs : Option Nat           -- removal window running since
  timerNs : Nat                   -- start of the wait in force (power-good, link-up, controller, shutdown)
  lastIoNs : Nat
  contCause : Nat                 -- Table 9.5
  contCount : Nat
  contNs : Option Nat
  contAttempts : Nat
  waitPower : Bool                -- waits for a power group
  -- drive
  report : Option DriveReport     -- what the drive last reported
  figures : Option DriveReport    -- what the slot's recorded member reported, once another drive stands in the slot
  label : Label
  recorded : Option Nat           -- member_uid of the member the directory records for this slot
  replaces : Option Nat           -- slot of the member this drive is the designated replacement of
  zones : KMap Zone
  wearZone : Option Nat           -- wear move running (R134)
  wearing : Bool := false         -- moves continue until the spread is at most the limit less the hysteresis (R134)
deriving DecidableEq, Repr, Inhabited

/-! ### Pistes (R42 to R69), rebuild and reshape (R151 to R177), map and grooming (R110 to R138) -/

/-- Piste states (Table 3.7). -/
inductive PisteState where
  | absent | creating | stopped | online | stopping | deleting
deriving DecidableEq, Repr, Inhabited

/-- Stripe geometry (Table 3.1). -/
structure Geometry where
  k : Nat
  n : Nat
  stripCode : Nat
  f : Nat
  base : Nat
  rows : Nat
  zoneParity : Nat
deriving DecidableEq, Repr, Inhabited

/-- Rebuild slot (Table 6.3, Table 6.4). -/
structure RebuildSlot where
  index : Nat
  state : Nat              -- 0 WAITING 1 PRIORITY 2 MAIN 3 DONE 4 COPYBACK
  drain : Bool
  start : Nat
  mark : Nat
  wrapped : Bool           -- the pass has passed the last row once
  base : Nat               -- relocation_base
  pausedByTable : Bool     -- WAITING because the lost-stripe table is full (R166)
  cancelled : Bool         -- WAITING by HANDLE_CANCEL (R204)
  was : Nat                -- pass it was in before a table pause
  copyMark : Nat           -- copy-back mark (R162)
  copySaved : Nat          -- copy-back mark at the last checkpoint
  copyDurable : Nat        -- and at the last durable one (R162, R174)
  strip : Nat              -- groomed: next strip of the zone at the mark
  issued : Bool            -- copy-back, or a groomed walk: the entries of the place it stands at have been opened
  target : Option Nat      -- slot of the replacement drive
  reloc : KMap (Nat × Nat × Nat)   -- relocation entries: strip number -> (member index, zone, offset)
  recs : KMap Zone         -- virtual zone records (R158)
  unwritten : List (Nat × Nat) := []   -- pages of the relocation area to be written back, oldest change first: key, lap of the change
  area : KMap Bytes := []  -- what the relocation area holds, by page key
deriving DecidableEq, Repr, Inhabited

/-- Priority item (Table 6.3). -/
structure PriorityItem where
  peerA : Nat
  peerB : Nat
  mark : Nat
  strip : Nat              -- groomed: next strip of the zone at the mark
deriving DecidableEq, Repr, Inhabited

/-- Rebuild record (Table 6.3). -/
structure RebuildRecord where
  generation : Nat
  checkpointStride : Nat
  slots : List RebuildSlot
  items : List PriorityItem
  sinceCheckpoint : Nat    -- stripes rebuilt since the last checkpoint
  issued : Bool            -- the entries of the row the pass stands at have been opened
deriving DecidableEq, Repr, Inhabited

/-- Fall-line record (Table 6.10). -/
structure FallLine where
  state : Nat              -- 0 NONE 1 RUNNING 2 PAUSED 3 FINISHING
  old : Geometry
  new : Geometry
  position : Nat
  saved : Nat              -- the position of the last checkpoint
  durable : Nat            -- Fc: the position of the last durable checkpoint (R174)
  qSwitch : Nat
  generation : Nat
  checkpointStride : Nat
  newList : List (Nat × Nat)
  zeroLeft : Nat           -- Write Zeroes of the new extent still to complete
  capacity : Nat
  movedStride : Nat := 0   -- one more than the stride in which F last advanced (R173); 0 before
  finish : Nat := 0        -- FINISHING: the directory change that carries the new geometry (R175); 0 before it
deriving DecidableEq, Repr, Inhabited

/-- A map page in the map cache (R123 to R127). -/
structure MapPage where
  entries : KMap Nat       -- slot -> 64-bit map entry (Table 5.5); unlisted: 0, UNMAPPED
  dirty : Bool
  firstChangeLap : Nat
  changeSeq : Nat          -- journal_seal_seq at the oldest unwritten change
  present : Bool
  lastUse : Nat
  reserved : Bool                -- counted at the gate for an admitted write (R126)
deriving DecidableEq, Repr, Inhabited

structure Piste where
  state : PisteState
  groomed : Bool
  uid : Nat
  name : Bytes
  granuleCode : Nat
  geom : Geometry
  seed : Nat
  capacity : Nat
  list : List (Nat × Nat)        -- member list: (slot, node)
  repl : List Nat                -- replacement list E
  home : Nat
  spanning : Bool
  zeroLeft : Nat                 -- Write Zeroes still to complete (R64)
  releaseLeft : Nat              -- zone resets still to complete (R67)
  handle : Nat                   -- handle slot + 1 of the running create, delete or reshape; 0 none
  dirGen : Nat                   -- directory generation of its latest change (R68)
  newName : Option Bytes         -- a name whose directory change is not yet made
  -- conditions owned by other chapters (Table 3.10)
  unitMissing : Bool
  -- cache (R82, R102)
  fellBack : Bool
  lowLaps : Nat                  -- consecutive laps at or below the exit level
  lapHigh : Bool                 -- dirty bytes rose above the exit level in this lap
  throughUntilLane : Bool        -- moved to write-back, waiting for a durable lane (R102)
  laneNamed : Bool               -- such a lane is durable
  generation : Nat               -- next stripe generation (R96)
  committedGen : KMap Nat        -- committed generation of each stripe written so far
  readBlocks : Nat
  writeBlocks : Nat
  -- rebuild and reshape
  rebuild : RebuildRecord
  rebuildSaved : RebuildRecord   -- as the last directory change of the piste carries it (R152)
  rebuildDurable : RebuildRecord -- as the last directory change that counts as made carries it
  fall : FallLine
  rebuiltBytes : Nat
  -- groomed
  nextQ : Nat
  mapBase : Nat
  mapGeom : Geometry             -- the geometry the map and relocation areas are laid out with
  pages : KMap MapPage
  liveCount : KMap (Nat × Nat)   -- stripe q -> (live granules, granule slots)
  held : KMap (List Nat)         -- stripe q -> the granules mapped to it
  groomState : Nat               -- Table 5.6
  suspended : Bool               -- census under way (R133)
  censusLeft : Nat
  space : Nat                    -- Table 5.8
  allowance : Int                -- H of R130, in bytes
  ratioNum : Nat                 -- ρ as a fraction num/den; den 0: not applied
  ratioDen : Nat
  victim : Option (Nat × Nat)    -- member-list index and zone being groomed
  forced : List (Nat × Nat × Nat)  -- GROOM_FORCE: handle, member slot, zones still to free
  copyQueue : List Nat           -- granules queued for GROOM_COPY
  lastHostWriteLap : Nat
  companion : KMap (Nat × Nat)   -- companion index: (slot*2^24+zone)*2^20+group -> companion zone, block
  partial_ : KMap Bytes          -- XOR of the group so far: (slot*2^24+zone)*2^20+group
  serialBase : KMap Int          -- what R176 adds to serial_new, by member-list index
  serialBaseOld : KMap Int       -- the same for the stripes below q_switch while a reshape runs
  copyFrom : KMap Nat := []      -- granule queued for GROOM_COPY -> the stripe whose copy of it is wanted
  copyData : KMap (Nat × List Bytes) := []  -- granules read for a copy: the map entry they were read from, and the blocks (R131)
  parityDue : List (Nat × Nat × Bytes) := []  -- companion blocks not yet appended: member-list index, group, XOR (R115)
  offer : Bool := false          -- holder: recorded at its PISTE_CHECK, its home not yet heard of (R59, R458)
  remote : KMap (KMap Zone)      -- home of a spanning piste: zone chains of members on other units, by index
deriving DecidableEq, Repr, Inhabited

/-! ### Cache (R70, R71) and journal (R91 to R102) -/

/-- Cache block states (Table 4.1), FREE being no version. -/
inductive CacheState where
  | clean | dirty | frozen | through
deriving DecidableEq, Repr, Inhabited

/-- One version of a host block in the cache. -/
structure Version where
  state : CacheState
  data : Bytes
  acc : Nat                  -- acceptance number of the write it came from; 0 for a fill
  dirtyLap : Nat             -- lap in which it became DIRTY
  entry : Nat                -- journal slot + 1 of the entry that froze it; 0 none
  lost : Bool                -- a lost range (R108)
  landed : Bool := false     -- THROUGH data whose entry has committed before its write has completed (R77)
deriving DecidableEq, Repr, Inhabited

/-- Entry states (Table 4.3). -/
inductive EntryState where
  | free | open_ | dataDurable | parityDurable | committed
deriving DecidableEq, Repr, Inhabited

/-- A row of a change record (R121). -/
structure ChangeRow where
  granule : Nat
  oldEntry : Nat             -- map entry (Table 5.5) when the entry opened
  newEntry : Nat
  superseded : Bool
deriving DecidableEq, Repr, Inhabited

/-- Cross-unit commit of one spanning entry (R319 to R323). -/
structure CommitRound where
  writtenFrom : List Nat     -- nodes whose WRITTEN has arrived
  callStride : Option Nat    -- s of the CALL in force
  reports : List Nat         -- nodes whose DURABLE report has arrived
  reported : Bool            -- this unit has reported
  lockedAt1 : Bool           -- LOCKED at the boundary of s + 1
  missedSent : Bool
  sentWritten : Bool
  sinceLap : Nat             -- lap since which it has been PARITY_DURABLE without a CALL
  retryLap : Option Nat      -- home: lap after which the resolution runs (R322)
  states : KMap Nat          -- answers to RECALL by node
  recalling : Bool           -- home: answers to RECALL are out; participant: the RECALL is not yet answered
  rewrite : Bool := false    -- its columns are written again: WRITTEN goes out once more when they are durable (R323)
deriving DecidableEq, Repr, Inhabited

/-- Journal entry (Table 4.2) with what the unit holds behind it. -/
structure Entry where
  state : EntryState         -- as recorded
  sealed_ : EntryState       -- as last sealed (R93)
  piste : Nat
  kind : Nat                 -- Table 4.4
  acked : Bool
  spanning : Bool
  degraded : Bool
  stripMask : Nat
  stripe : Nat
  generation : Nat
  stride : Nat
  parityCheck : Nat
  first : Nat
  count : Nat
  durableMask : Nat
  memberSet : KMap (Nat × Nat)   -- column -> (slot, node)
  newGeom : Bool
  -- admission conditions (R94)
  openMirror : Nat           -- mirror sequence number of the OPEN seal
  laneDurable : Bool
  computed : Bool            -- P and Q are computed
  columns : KMap (List Bytes)  -- data to be written, by column
  issued : List Nat          -- columns whose write is admitted or queued
  blocks : List Nat          -- host blocks (or pages) frozen for it
  change : List ChangeRow
  round : CommitRound
  inherited : Bool           -- found at replay or takeover (R142)
  through : List Nat         -- acceptance numbers of write-through writes that wait for it
  delta : Bool               -- P and Q are corrected from old and new data (R87), not computed from all columns
  overlay : KMap Bytes       -- frozen blocks the entry writes: column * 2^16 + block within the strip
  oldCols : KMap (List Bytes)  -- what was read or solved over the range, by column
  touched : Bool             -- changed since its last seal
  farMask : Nat              -- home of a spanning stripe: columns written by other units (R98)
  again : Nat := 0           -- columns to be written once more before it advances (R104, R461)
  remade : Bool := false     -- its recomputed parity_check is not yet sealed (R104, R461)
deriving DecidableEq, Repr, Inhabited

/-- A journal lane as written (Table 4.6), kept with the members that hold it (R100). -/
structure Lane where
  lap : Nat
  node : Nat
  sealSeq : Nat
  block : Nat                -- lane block 0, 1 or 2
  entries : KMap Entry
  writeBack : List Nat
  slots : List Nat           -- members that hold it durably
  targets : List Nat         -- members it was sent to
  failed : List Nat
deriving DecidableEq, Repr, Inhabited

/-- Solved blocks to be written back in place once the stripe's open entry has committed (R144, R167). -/
structure Repair where
  piste : Nat
  newGeom : Bool
  stripe : Nat
  generation : Nat           -- generation of the entry it waits for; 0 none
  col : Nat
  blocks : KMap Bytes        -- by block within the strip
  afterError : Bool          -- it follows a read error (R144), not a check (R167)
deriving DecidableEq, Repr, Inhabited

/-- What a block is rebuilt from zone-strip parity for. -/
inductive LocalFor where
  | gather (id col : Nat)
  | verify (group : Nat)                                  -- a read-back verification (R115)
  | remote (src tag : Nat) (ref : StripeRef)              -- a STRIP_READ served for a home unit (R319)
deriving DecidableEq, Repr, Inhabited

/-- A block being rebuilt from zone-strip parity (R116). -/
structure LocalRepair where
  id : Nat
  why : LocalFor
  piste : Nat
  slot : Nat
  zone : Nat
  asked : List Nat           -- data offsets wanted
  bad : List Nat             -- data offsets of the failed blocks, each in a group of its own
  left : List Nat            -- data offsets still to be read; 2^40 + g names the parity block of group g
  parts : KMap Bytes         -- what has been read, by data offset
deriving DecidableEq, Repr, Inhabited

structure Journal where
  repairs : List Repair
  localRepairs : List LocalRepair
  entries : KMap Entry
  sealSeq : Nat              -- 0x2442
  lastOwn : Option Nat       -- lap of the newest durable lane of this unit or found at start
  lastBlock : Nat            -- its lane block
  pendingLane : Option Lane  -- lane whose writes are outstanding
  issuedBlock : Nat          -- block of the last lane issued (Table 10.3)
  issuedLap : Nat
  lanesAllowed : Bool        -- replay has ended (R100)
  lapOffset : Nat            -- 0x3823
  avoidBlock : Option Nat    -- fence hold: the former active's lane block (R287)
deriving DecidableEq, Repr, Inhabited

/-- A lost-stripe table entry (Table 6.5). -/
structure LostStripe where
  piste : Nat
  cause : Nat
  groomed : Bool
  newGeom : Bool
  columns : Nat
  stripe : Nat
  first : Nat
  count : Nat
  deferred : Nat
  seq : Nat
  sinceLap : Nat
  held : Bool
  logSeq : Nat               -- sequence number of its record (R211)
  wrote : Nat := 0           -- columns the last rewrite of the whole stripe went to (R165); 0 before any
deriving DecidableEq, Repr, Inhabited

/-- A lost-range table entry (R108): the range, and the blocks in it that were lost themselves. -/
structure LostRange where
  piste : Nat
  first : Nat
  count : Nat
  blocks : List Nat
  seq : Nat                  -- sequence number of its record (R211)
deriving DecidableEq, Repr, Inhabited

structure Cache where
  blocks : KMap (List Version)   -- key piste*2^64 + block; newest version first
  ceiling : Nat                  -- 0x2410, in force
  nextCeiling : Option Nat       -- takes effect at the next boundary
  own : Nat                      -- own of R80
  lostRanges : List LostRange
  lostStripes : List LostStripe
  lostSeq : Nat
  gateClosed : Bool              -- no new dirty bytes (R381)
  mapLimit : Option Nat := none  -- map_cache_limit as the start took it (R109, R125); none before one
deriving DecidableEq, Repr, Inhabited

/-! ### Queue interface (07) -/

/-- Queue pair block (Table 7.3) with its doorbells. -/
structure QueuePair where
  sqBase : Nat
  cqBase : Nat
  sqEntriesM1 : Nat
  cqEntriesM1 : Nat
  vector : Nat
  irqEnable : Bool
  relaxed : Bool
  burst : Nat
  enable : Bool
  qstate : Nat                   -- 0 DISABLED 1 ENABLED 2 DRAINING 3 ERROR
  qerror : Nat
  sqHead : Nat
  cqTail : Nat
  cqPhase : Bool
  sqTail : Nat                   -- last tail doorbell
  cqHead : Nat                   -- last head doorbell
  fetching : Nat                 -- entries being fetched
  wrote : Bool                   -- entries written in the stride under way (R186)
  msixDue : Bool
  accepted : Nat
  errors : Nat
  usable : Bool                  -- completions can be posted on the ring
deriving DecidableEq, Repr, Inhabited

/-- A completion entry (Table 7.8) or event before it is written. -/
structure CqEntry where
  result : Nat
  acc : Nat
  cid : Nat
  queue : Nat
  status : Nat
  event : Bool
  piste : Option Nat             -- piste named by an accepted command (R208)
  handleEnd : Option Nat         -- slot whose HANDLE_END this is
  record : Option (Nat × Bytes)  -- end record to be written to host memory before it (R203)
  data : List (Nat × Bytes)      -- data writes that go ahead of it
deriving DecidableEq, Repr, Inhabited

/-- Stages of an accepted command. -/
inductive Stage where
  | fresh            -- accepted, not begun
  | waitOverlap      -- READ waiting for earlier writes (R199)
  | gated            -- waiting at the energy gate (R81)
  | allowance        -- waiting for groom allowance (R130)
  | fetching         -- write data being fetched
  | whole            -- write data whole: waiting for its mirror-accept
  | through          -- write-through: waiting for the destage of its blocks
  | reading          -- READ: member reads or cache reads under way
  | moving           -- READ data to host
  | waiting          -- FLUSH or ABORT waiting
  | aborted401       -- affected by Bus Master Enable (R233)
deriving DecidableEq, Repr, Inhabited

/-- An accepted command not yet completed. -/
structure Cmd where
  queue : Nat
  cid : Nat
  acc : Nat
  opcode : Nat
  piste : Nat
  arg0 : Nat
  arg1 : Nat
  arg2 : Nat
  arg3 : Nat
  dataMode : Nat
  dataAddr : Nat
  dataLen : Nat
  stage : Stage
  waited : Nat                   -- strides waited at the gate (R82)
  newBytes : Nat                 -- bytes admitted by the gate and not yet released (R70)
  growBytes : Nat                -- new granule bytes (R130)
  through : Bool                 -- handled under R77
  spans : List (Nat × Nat × Bool)  -- host address, bytes, bit bucket; in order
  segment : Option (Nat × Nat)   -- next scatter segment: address, entries
  segData : Bytes                -- bytes of it that have arrived
  segGot : Nat
  segments : Nat                 -- segments read so far
  data : KMap Bytes              -- write data by 4 KiB block; READ data by block
  dataAcc : KMap Nat             -- READ: acceptance number of the write each block's data came from
  got : Nat                      -- bytes of write data arrived
  lastSeq : Nat                  -- highest mirror sequence number of its blocks
  need : List Nat                -- READ: blocks still to come
  failBlock : Option (Nat × Nat) -- READ: first failed block and status
  value : Bytes                  -- descriptor or dictionary value
  target : Option (Nat × Nat)    -- ABORT target
  dead : Bool                    -- ended without a completion (R237), data still whole
deriving DecidableEq, Repr, Inhabited

/-- A read of host memory outstanding (R228 to R231). -/
inductive HostReadFor where
  | entry (queue index : Nat)
  | segment (acc offset : Nat)   -- a later scatter-list segment of an accepted command
  | writeData (acc offset : Nat) -- write data, by offset within the transfer
  | preAccept (queue offset : Nat)   -- descriptor, DICT_WRITE value or first segment (R196, R228)
  | refetch (acc offset : Nat)   -- THROUGH block fetched again (Table 14.3)
deriving DecidableEq, Repr, Inhabited

structure HostRead where
  tag : Nat
  why : HostReadFor
  bytes : Nat
  dead : Bool                    -- data is to be discarded (R230, R233, R236)
deriving DecidableEq, Repr, Inhabited

/-- Handles (Table 7.10, Table 7.11). -/
structure Handle where
  value : Nat                    -- 0: slot free
  generation : Nat
  state : Nat                    -- 0 RUNNING 1 DONE 2 FAILED 3 CANCELLED
  piste : Nat                    -- 0xFF if none
  endStatus : Nat
  progress : Nat
  acc : Nat
  endStride : Nat
  detail : Bytes
  recordAddr : Nat               -- arg3
  cancelling : Bool
  members : List Nat             -- member slots the operation concerns
  slots : List (Nat × Nat)       -- rebuild slots it started or released: (piste, index)
deriving DecidableEq, Repr, Inhabited

/-- Deferred errors (Table 7.16). -/
structure Deferred where
  number : Nat
  piste : Nat
  kind : Nat
  pending : Bool
  delivered : Bool
  posted : Bool
  closed : Bool
  first : Nat
  count : Nat
  logSeq : Nat
  carriedBy : Nat
  carriedQueue : Nat
  source : Nat
  markSeq : Nat                  -- mirror number of the record that marks it delivered (R289); 0 none
deriving DecidableEq, Repr, Inhabited

/-- A running sweep (R168, R169). -/
structure Sweep where
  handle : Nat
  piste : Nat
  first : Nat
  last : Nat                     -- one past the last host block
  flags : Nat
  stripe : Nat                   -- next to visit: a groomed stripe, on a fixed piste a host block
  blocksRead : Nat
  corrected : Nat
  rebuilt : Nat
  lost : Nat
  checked : Nat
  unlocated : Nat
  startStride : Nat
  cancelled : Bool
deriving DecidableEq, Repr, Inhabited

/-- A submission entry that has arrived and is not yet accepted (R196, R228). -/
structure Fetched where
  queue : Nat
  index : Nat
  bytes : Bytes
  phase : Nat                    -- 0 nothing asked, 1 a segment is being read, 2 its data is being read, 3 all at hand
  spans : List (Nat × Nat × Bool) -- what its segments have given so far
  next : Option (Nat × Nat)      -- a segment still to read: address, entries
  segments : Nat                 -- segments read so far
  host : Bytes                   -- what has arrived of the segment or the data
  left : Nat                     -- bytes of it outstanding
  status : Nat                   -- status of a failed read of it (Table 8.11); 0
  breach : Bool                  -- its scatter list breaks R190 or R191
deriving DecidableEq, Repr, Inhabited

structure Cqi where
  enable : Bool
  unitState : Nat                -- 0 STARTING 1 SERVING 2 NOT_ACTIVE 3 SAFE
  droppedBit : Bool
  nextAcc : Nat                  -- next_acceptance_seq
  accepted : Nat                 -- accepted since cold power-on
  queues : KMap QueuePair
  turn : Nat                     -- queue number whose turn of arbitration is next
  arrived : List Fetched         -- entries that have arrived, in the order of arrival
  cmds : List Cmd                -- accepted, uncompleted commands, by acceptance order
  held : List CqEntry            -- completions and events not yet written, in the order they arose
  eventSeq : Nat
  dropCount : Nat                -- drops since the last EVENTS_DROPPED event
  eventLog : List (CqEntry × Nat × Nat)   -- entry, sequence number, sq_head when it was written
  errorLog : List (CqEntry × Nat × Nat × Nat)   -- entry, sequence number, deferred number, sq_head when it was written
  handles : KMap Handle
  pendingEnds : List (Nat × Nat) -- HANDLE_END written and not passed: (ring index, slot)
  deferred : List Deferred
  nextDeferred : Nat
  sweeps : List Sweep
  lastSummary : Bytes
  lastRequester : Nat            -- requester of the last queue-0 tail doorbell (Table 12.5)
deriving DecidableEq, Repr, Inhabited

/-! ### Host port (08) -/

structure MsixEntry where
  address : Nat
  data : Nat
  mask : Bool
  pending : Bool
deriving DecidableEq, Repr, Inhabited

structure Mailbox where
  index : Nat
  sub : Nat
  op : Nat
  offset : Nat
  length : Nat
  status : Nat
  reason : Nat
  objectLength : Nat
  returned : Nat
  changes : Nat
  logSeq : Nat
  buffer : KMap Byte
deriving DecidableEq, Repr, Inhabited

structure HostPort where
  ready : Bool
  bar0 : Nat                     -- base address of BAR0 and BAR1 (R219)
  bar4 : Nat                     -- and of BAR4 and BAR5
  perst : Bool                   -- PERST_N is asserted
  busMaster : Bool
  bmeSinceNs : Option Nat        -- Bus Master Enable clear since
  d3 : Bool
  flr : Option Nat               -- operating ns at which a function-level reset began
  maxPayload : Nat
  maxRead : Nat
  timeoutCode : Nat
  relaxed : Bool
  tenBit : Bool
  msixEnable : Bool
  msixMask : Bool
  ltrEnable : Bool
  ltrCap : Nat                   -- Max Snoop Latency of the LTR capability (R232)
  ltrCapNoSnoop : Nat            -- and its Max No-Snoop Latency
  ltrState : Nat
  speed : Nat
  width : Nat
  flit : Bool
  msix : KMap MsixEntry
  reads : List HostRead
  toRead : List (HostReadFor × Nat × Nat)  -- reads not yet issued: purpose, address, bytes
  quarantine : List Nat
  nextTag : Nat
  mailbox : Mailbox
  subsystem : Nat                -- subsystem_id as taken at the last cold power-on
  releaseNs : Option Nat         -- PERST_N release, or time zero (R240)
deriving DecidableEq, Repr, Inhabited

/-! ### Dictionary (12) -/

/-- A change-log record (Table 12.7). -/
structure ChangeRec where
  seq : Nat
  cycles : Nat
  ms : Nat
  index : Nat
  sub : Nat
  origin : Nat
  route : Nat
  secret : Bool
  reason : Nat
  detail : Nat
  originId : Nat
  old : Nat
  new : Nat
  repeats : Nat
  lap : Nat
deriving DecidableEq, Repr, Inhabited

structure Dict where
  values : KMap Nat              -- stored values by index*256 + sub, where they differ from the default
  octets : KMap Bytes            -- stored values longer than 8 bytes
  rights : KMap Nat              -- masks set by rights_set, by index
  changes : KMap Nat             -- change counts by index*256 + sub
  log : List ChangeRec
  refused : Nat
  uncommitted : List (Nat × Bytes × Nat)  -- key, value, log_seq: persistent writes not yet in both flashes
  flash : KMap Bytes             -- the settings area of the boot flashes, by key
  flashRights : KMap Nat
  commitSeq : Nat
  keys : KMap Bytes              -- adp_key slots
deriving DecidableEq, Repr, Inhabited

/-! ### Pair and judge (10) -/

/-- Roles (Table 10.1). -/
inductive Role where
  | alone | active | standby | fenced
deriving DecidableEq, Repr, Inhabited

/-- What a judge keeps for one pair (R281, R299). -/
structure JudgeRecord where
  pairId : Nat
  holder : Nat                   -- serial; 0 none
  epoch : Nat
  protectUs : Nat                -- end of protection, in µs of the judge's clock; 0 none
  stale : Bool                   -- the unit that is not the holder is marked stale
  heard : KMap Nat               -- serial -> time last heard, µs
  pending : Option (Nat × LeaseRequest)     -- latest PENDING TAKEOVER or ACQUIRE and its sender
  acquires : List (Nat × LeaseRequest)      -- ACQUIREs collected
  acquireUs : Nat                -- when the first of them arrived
  maxEpoch : Nat                 -- highest epoch heard since the judge's start
  lapUs : Nat                    -- the pair's lap, from the lease length
deriving DecidableEq, Repr, Inhabited

structure Pair where
  role : Role
  pairId : Nat
  epoch : Nat
  partnerSerial : Nat
  sync : Nat                     -- Table 10.9, of this unit's copy
  peerSync : Nat                 -- the partner's copy
  formed : Bool
  refused : Bool                 -- the check of R274 failed
  lastHb : Option PartnerHb
  sinceHb : Nat                  -- strides since the last valid heartbeat
  silent : Bool
  hbSeq : Nat
  ringAge : Nat                  -- laps since the partner's RING_HB
  judgeAge : Nat                 -- partner_age of the judge's last reply
  -- lease
  leaseNs : Option Nat           -- expiry on this unit's timebase
  source : Nat                   -- 0x3817
  reqSeq : Nat
  lastOp : Nat
  lastReqNs : Nat
  lastReqLap : Nat
  answered : Bool
  sinceGrant : Nat               -- laps since a judge grant
  sinceReply : Nat               -- laps since a judge reply
  endorsing : Bool
  endorseUntil : Nat             -- a STANDBY sends no TAKEOVER before this time (ns)
  pursue : Nat                   -- operation being pursued: 0 none, or an op of Table 10.4
  takeoverLaps : Nat
  writeStop : Bool               -- R282
  asked : Bool                   -- the heartbeat of the stride before carried endorse_request
  soleDue : Bool                 -- no write is acknowledged until SOLE is granted (R288)
  -- takeover
  grantNs : Option Nat
  takeoverNs : Option Nat        -- start of the fence hold
  former : Option PartnerHb
  serving : Bool
  handover : Bool
  leaving : Bool
  vaultStart : Bool
  -- mirror (R74, R290)
  mirrorSeq : Nat
  mirrorAcc : Nat
  mirrorQueue : List (Nat × BulkItem)   -- mirror data of the stride under way, not yet sent
  recvSeq : Nat                  -- highest mirror number held in LPDDR6
  lapBytes : Nat                 -- bytes the stream has carried in the lap under way
  bulkEnded : Bool
  toldSeq : Nat                  -- last mirror number the holder has announced
  syncTotal : Nat
  syncSent : Nat
  -- watch (R296)
  watchNs : Option Nat
  watchHbNs : Nat
  watchLimitNs : Nat
  -- judge
  judges : List JudgeRecord
deriving DecidableEq, Repr, Inhabited

/-! ### Utofer ports and ring (11) -/

/-- A flit before its sequence number, acknowledgement and checks (Table 11.3). -/
structure TxFlit where
  cls : Nat
  src : Nat
  dst : Nat
  broadcast : Bool
  hops : Nat
  first : Bool
  last : Bool
  payload : Bytes
deriving DecidableEq, Repr, Inhabited

structure Port where
  pstate : Nat                   -- Table 11.12: 0 DOWN 1 TRAINING 2 UP 3 RECOVERY
  lanes : Nat
  peer : Nat                     -- 255 none
  nextFsn : Nat
  delivered : Option Nat         -- fsn of the last sequenced flit delivered
  retry : List (Nat × TxFlit)    -- flits kept until acknowledged
  txq : List TxFlit              -- flits that wait to be sent
  turn : Nat                     -- class of MIRROR and STRIPE whose turn is next
  nakRun : Nat
  nakFsn : Nat
  nakSent : Bool                 -- discarding until the resent flit arrives
  credits : KMap Nat             -- send credit by class
  rxUsed : KMap Nat              -- receive credit to return by class
  delayPs : Nat
  samples : List Nat
  partial_ : KMap (List TxFlit)  -- flits of the message arriving, by class
  downNs : Nat
deriving DecidableEq, Repr, Inhabited

/-- What the unit knows of a ring node. -/
structure Node where
  serial : Nat
  sync : Nat                     -- Table 2.6, from its RING_HB
  ticks : Nat
  timeValid : Bool
  delayE : Nat
  delayW : Nat
  ringState : Nat
  role : Nat
  aliases : Nat
  pairId : Nat
  epoch : Nat
  partner : Nat
  sinceLaps : Nat                -- laps since it was last heard (any of the three messages)
  hbLaps : Nat                   -- laps since its RING_HB
  known : Bool
deriving DecidableEq, Repr, Inhabited

/-- A PISTE_CHECK the unit has asked others (R458). -/
structure SpanCheck where
  tag : Nat
  queue : Nat
  cid : Nat
  waiting : List Nat
  worst : Nat
  sinceLap : Nat
  reshape : Bool
  body : Bytes := []         -- the descriptor sent, with what the device chooses filled in (R458)
deriving DecidableEq, Repr, Inhabited

structure Ring where
  joined : Bool                  -- it has been a LOCKED member since it joined the ring (R326)
  stale : Bool                   -- the model's own: what the command changed asks for the ring's state to be worked out again
  ports : KMap Port              -- 0 P, 1 E, 2 W
  rstate : Nat                   -- Table 11.12: 0 NONE 1 BUILDING 2 CLOSED 3 OPEN 4 REFUSED
  nodes : KMap Node
  members : List Nat
  refused : List Nat             -- nodes refused membership (R312)
  twice : List (Nat × Nat)       -- node IDs two nodes carry: laps since both were heard
  span : Nat
  aliases : List (Nat × Nat)     -- node IDs this unit claims, with the epoch
  claims : KMap (Nat × Nat)      -- node -> (claimant, epoch)
  seen : List (Nat × Nat)        -- (src, msg_id) accepted, newest first
  msgId : Nat
  lastRosterStride : Nat
  rosterDue : Bool
  checks : List SpanCheck
  reads : List (Nat × Nat × Nat × Option Nat) -- STRIP_READ outstanding as home: tag, gather, column, strides of deadline left
  nextReqTag : Nat
  unrouted : Nat                 -- flits for nodes that no path reaches, discarded (R310)
deriving DecidableEq, Repr, Inhabited

/-! ### Management network (12) -/

/-- A session held as receiver (R348, R349). -/
structure Session where
  id : Nat
  mac : Nat
  highest : Nat
  stored : Option AdpFrame       -- the reply sent to the highest seq
  lastLap : Nat
deriving DecidableEq, Repr, Inhabited

/-- A session as requester (R348, R350). -/
structure Requester where
  id : Nat                       -- 0: none open
  nonce : Nat                    -- latest nonce sent; 0 none
  seq : Nat
  outstanding : Option AdpFrame
  sentLap : Nat
  tries : Nat
  retryLap : Option Nat          -- after BUSY
  waiting : List (Nat × Bytes)   -- requests not yet sent: operation, body
deriving DecidableEq, Repr, Inhabited

/-- A pair-wide write passed to the holder, and the writer that waits for its outcome (R336). -/
structure PairWait where
  index : Nat
  sub : Nat
  value : Bytes
  writer : Writer
  cid : Nat                      -- of the DICT_WRITE that waits
  frame : Option AdpFrame        -- the ADP_WRITE that waits
deriving DecidableEq, Repr

structure Adp where
  astate : Nat                   -- 0x4002: 0 DOWN 1 NO_KEY 2 UP 3 PHY_FAULT
  sessions : List Session
  toPartner : Requester
  toJudge : Requester
  partnerMac : Nat
  phy : KMap Nat                 -- MMD 31 registers by address (R344)
  plcaStatus : Bool
  rtts : List (Nat × Nat)        -- lease round trips of the last 64 laps: lap, µs
  pairWait : List PairWait           -- pair-wide writes passed to the holder
deriving DecidableEq, Repr, Inhabited

/-! ### Supply and pack (13) -/

/-- Supply states (Table 13.2). -/
inductive Supply where
  | normal | brace | vault | watch | down | exposed
deriving DecidableEq, Repr, Inhabited

/-- What a copy of the directory says of a piste (R59, R66, R68, R152, R172). -/
structure DirPiste where
  state : PisteState
  groomed : Bool
  uid : Nat
  name : Bytes
  granuleCode : Nat
  geom : Geometry
  seed : Nat
  capacity : Nat
  list : List (Nat × Nat)
  home : Nat
  spanning : Bool
  offer : Bool
  mapBase : Nat
  mapGeom : Geometry
  serialBase : KMap Int
  serialBaseOld : KMap Int
  rebuild : RebuildRecord
  fall : FallLine
deriving DecidableEq, Repr, Inhabited

/-- What it says of a member (R460): its redundancy state, the cause and the STAMP of its failure. -/
structure DirMember where
  mstate : MemberState
  cause : Nat
  failNs : Option Nat
  failCycles : Nat
deriving DecidableEq, Repr, Inhabited

/-- The contents of a copy of the directory (R68). -/
structure DirImage where
  pistes : KMap DirPiste
  members : KMap DirMember
deriving DecidableEq, Repr, Inhabited

/-- A vault image of one region (R364 to R369). -/
structure VaultImage where
  status : Nat                   -- Table 13.5
  striped : Bool
  serial : Nat
  pairId : Nat
  epoch : Nat
  sealSeq : Nat
  cycles : Nat
  ms : Nat
  bytes : Nat
  durationMs : Nat
  journal : KMap Entry
  blocks : KMap (List Version)
  pages : List (Nat × KMap MapPage)      -- dirty map pages by piste
  rebuilds : List (Nat × RebuildRecord × FallLine)
  logs : List DirtyLog
  lostRanges : List LostRange
  lostStripes : List LostStripe
  deferred : List Deferred
  nextDeferred : Nat
  nextAcc : Nat
  eventSeq : Nat
  recSeq : Nat
  lostSlots : List (Nat × Nat × Nat)     -- lost-slots record: slot, piste, generation (R418)
  lostBlocks : List (Nat × Nat)          -- LOST data blocks (R396): piste, block
  settings : List (Nat × Bytes × Nat)
  estimator : Bytes              -- the estimator's state (R375)
  drives : List Nat
  dirGen : Nat := 0              -- the vault's copy of the directory (R68)
  directory : DirImage := { pistes := [], members := [] }
  relocPages : List (Nat × Nat × Nat × Bytes) := []   -- dirty relocation pages: piste, slot, page, bytes (R158)
deriving DecidableEq, Repr, Inhabited

structure Power where
  supply : Supply
  vinNow : Nat
  vinMin : Nat
  goodLaps : Nat                 -- complete laps with every sample at or above warn + 200 mV
  braceLaps : Nat
  braceMin : Nat
  holdup : Bool                  -- HOLDUP_SW
  chgEn : Bool                   -- CHG_EN
  packSw : Bool                  -- PACK_SW is high: the pulse that opens the pack switch (R449)
  packSwNs : Nat                 -- when it went high
  packState : Nat                -- Table 13.5
  packUv : Nat
  tempDc : Int
  first : Bool                   -- no estimate made yet (R374)
  zc : Rat
  zv : Rat
  zr : Rat
  vrc : Rat                      -- volts
  q : Rat                        -- coulombs
  k : Rat
  ec : Rat                       -- joules
  ev : Rat
  usable : Rat
  charger : Nat                  -- Table 13.9
  restNs : Nat                   -- the charger was last in CC or CV, or the supply last not NORMAL, before this time
  window : List (Nat × Nat × Nat)  -- lap samples of the last 10 minutes: ns, lowest and highest µV
  lastRest : Option Rat          -- zv at the last rest point
  lastRestCycles : Nat
  lastRestMs : Nat
  restPointNs : Nat
  integral : Rat                 -- ∫ I dt since the last rest point, coulombs
  learn : Nat                    -- Table 13.9
  learnBefore : Nat              -- learn state before SUSPENDED
  mismatchLaps : Nat
  mismatch : Bool
  pause : Nat                    -- 0x4422
  pauseDueNs : Nat
  pauseNs : Option Nat
  startRest : Option Nat         -- start hold of the charger since (R376)
  shipPending : Bool
  shipArmed : Bool               -- SHIP at this start: the charger may run after the start rest
  -- vault
  vaultNs : Option Nat
  vaultStep : Nat                -- R364: 0 none, 1 the switch level reached, 2 announced, 3 lanes down, 4 the image is being written
  vaultDirty : Nat               -- dirty bytes when it began
  vaultRegion : Nat
  vaultDrives : List Nat
  safeVault : Bool               -- a safe-state vault (R418)
  vaultLost : List (Nat × Nat)   -- blocks found uncorrectable during the vault (R396): piste, block
  lostSlots : List (Nat × Nat × Nat) -- journal slots Table 14.3 left unrepairable: slot, piste, generation (R418)
  images : KMap VaultImage       -- regions 0 and 1
  wroteMs : Nat
  test : Option Nat              -- handle of the running VAULT_TEST
  recovered : Bool               -- the input has recovered during a vault
  resetHeld : Bool               -- RESET_N held off (R440)
  vinReset : Bool                -- held in reset by the reset level (R363)
  figStored : Nat                -- lap of the last write of the vault figures to flash
deriving DecidableEq, Repr, Inhabited

/-! ### Memory integrity (14) -/

structure Region where
  bucket : Nat
  armed : Bool                   -- the next crossing reports
deriving DecidableEq, Repr, Inhabited

structure Scrub where
  state : Nat                    -- 0x4841
  target : Nat
  region : Nat
  repair : Bool
  first : Nat
  length : Nat
  read : Nat
  corrected : Nat
  uncorrectable : Nat
  retired : Nat
  endReason : Nat
  startStride : Nat
  endStride : Nat
  firstUe : Option Nat
  cancel : Bool
deriving DecidableEq, Repr, Inhabited

structure Mem where
  regions : KMap Region
  history : List (Nat × List Nat)   -- page -> laps with corrected errors, newest page first
  retired : List Nat             -- LPDDR6 pages retired
  postponed : List Nat           -- retirements postponed by a vault
  softFuse : List (Nat × Nat × Nat) -- region, row address or column, 0 row / 1 column
  pendingFuses : Nat
  corrected : List (Nat × Nat × Nat) -- SRAM words with a corrected error: region, address, bit
  hard : List (Nat × Nat × Nat)  -- hard faults recorded
  withdrawn : List Nat           -- stride-buffer slices withdrawn
  poisoned : List Nat            -- LPDDR6 lines whose metadata has poison set (Table 14.1)
  halted : List DmaChannel
  scrub : Scrub
  patrol : Nat
deriving DecidableEq, Repr, Inhabited

/-! ### Faults and recorder (15) -/

structure PendingFault where
  message : Nat
  occurrence : Nat
  left : Nat                     -- strides left
  started : Bool                 -- the first boundary after arrival has passed
  repeats : Nat
  kind : Nat
  forced : Bool
deriving DecidableEq, Repr, Inhabited

/-- History entry (Table 15.4). -/
structure HistEntry where
  message : Nat
  occurrence : Nat
  disposition : Nat
  stride : Nat
  cycles : Nat
  ms : Nat
  source : Nat
deriving DecidableEq, Repr, Inhabited

structure Faults where
  pending : KMap PendingFault
  occurrences : Nat
  history : List HistEntry       -- oldest first, at most 32
  safe : Bool
  selfCheck : Bool               -- the collector's self-check has passed
  lockstep : Nat                 -- lockstep mismatches since the last start
  stopped : Bool                 -- the supervisor pair is stopped for good
  safeCause : Bytes
  afterSafe : Bool               -- this start follows the safe state (R419)
deriving DecidableEq, Repr, Inhabited

/-- An event record (Table 15.7). -/
structure Rec where
  seq : Nat
  cycles : Nat
  ms : Nat
  code : Nat
  suppressed : Nat
  only : Bool
  permanent : Bool
  stride : Nat
  snaps : List (Nat × Nat)       -- selector (index*256 + sub) and the first 8 bytes of its value
  body : Bytes                   -- CHANGE: the change record
deriving DecidableEq, Repr, Inhabited

structure Recorder where
  seq : Nat                      -- last sequence number assigned
  saved : Nat                    -- highest saved value
  savedMs : Nat                  -- highest saved operating time (R422)
  permanent : List Rec
  circ : List Rec                -- newest 4,096, oldest first
  waiting : List Rec             -- offered beyond the capacity of the stride
  thisStride : Nat
  lapCount : KMap Nat            -- by code
  suppressed : KMap Nat          -- suppression count by code
  suppressedLap : List Nat       -- codes that suppressed records in the lap
  storedLap : List Nat           -- codes that stored records in the lap
  flushed : Nat
  flushDue : Bool
  lastFlushLap : Nat
  priorAreas : KMap (List Rec)   -- flushed permanent areas by start count
  logged : List Rec              -- records durable in the log region
  flushOut : List Nat            -- drives of the flush writes outstanding, one entry for each write
  flushBad : List Nat            -- drives on which a write of the flush has failed
  logNext : Nat                  -- next block of the circulating log (Table 15.9)
  logCopy : Nat                  -- copy of the log header written next
  flushUpTo : Nat
deriving DecidableEq, Repr, Inhabited

/-! ### Start (16) -/

/-- What a command leads to once its own effect is done: nothing, a start, the unit's own reset, the chip held in reset, or the loss
of power. -/
inductive AfterEffect where
  | none
  | restart (kind : Nat) (i : StartInputs)
  | unit (kind : Nat)
  | held
  | lost
deriving DecidableEq, Repr, Inhabited

structure Start where
  due : AfterEffect                      -- the model's own: what the command under way leads to
  phase : Nat                    -- Table 16.2
  powered : Bool                 -- rails within limits
  resetN : Bool                  -- RESET_N held
  retained : Bool                -- LPDDR6 was retained
  lostMemory : Bool
  presence : List Nat            -- slots with presence at time zero
  kind : Nat                     -- reset kind of this start (Table 16.3)
  images : KMap FlashImage       -- boot flashes 0 and 1
  written : KMap Bytes           -- image bytes written by image_chunk, by offset
  running : Nat                  -- flash the running image came from
  secVersion : Nat
  raiseTo : Nat
  frames : KMap Nat              -- SGPIO frames sent on each stream since time zero
  powerOrder : List Nat          -- slots waiting for a power group, in order
  nextGroupNs : Nat
  replayed : Bool
  lanesFound : List Lane         -- lanes on the members
  inputs : StartInputs           -- what the start in force found
deriving DecidableEq, Repr, Inhabited

/-- The piste directory as held by the members (R68). -/
structure Directory where
  generation : Nat
  durable : Nat                  -- highest generation that counts as made
  copies : KMap (List Nat)       -- generation -> slots that hold it
  images : KMap DirImage         -- generation -> what its copies hold
deriving DecidableEq, Repr, Inhabited

/-! ### What leaves the block -/

inductive Output where
  | hostWrite (address : Nat) (data : Bytes) (relaxed : Bool)
  | completion (queue index : Nat) (entry : CqEntry) (phase : Bool) (sqHead deferred : Nat)
  | hostRead (tag address bytes : Nat)
  | msix (vector address data : Nat)
  | ltr (ns : Nat)
  | memberCommand (slot : Nat) (cmd : MCmd)
  | message (port dst cls type : Nat) (body : Bytes)   -- port 3: E and W; dst 32: broadcast on the ring, 33: one link
  | delivered (port src cls type : Nat) (body : Bytes) -- handed up by the link layer
  | flit (port : Nat) (raw : Bytes)
  | partnerHb (hb : PartnerHb)
  | marker (port : Nat) (m : MarkerMsg)
  | ringHb (hb : RingHbMsg)
  | echo (port t1 : Nat) (turnaround : Option Nat)
  | stripe (dst type : Nat) (ref : StripeRef) (body : Bytes)   -- body: what follows the stripe reference (Table 11.6)
  | commit (dst type : Nat) (ref : StripeRef)
  | mirror (seq : Nat) (item : BulkItem)
  | strideEnd (stride seq : Nat)
  | mirrorAccept (seq : Nat)
  | leaseReply (dst : Nat) (body : Bytes)       -- Table 10.5, in the session and under the seq of its request
  | adp (frame : AdpFrame)
  | sgpio (stream : Nat) (powerFrame active : Bool) (bits : List (Bool × Bool × Bool))
  | mdio (register value : Nat)
  | flashWrite (kind : Nat)
  | unitReset (dst target logSeq : Nat)
  | linkTrain (port : Nat)
  | hostTrain
deriving DecidableEq, Repr, Inhabited

end Sys2Proof.Machine
end

