-- ==== Sys2Proof/Machine/KMap.lean ====
section
/-! DEFINITION. Operations on the sorted association lists that hold every numbered collection of the state. -/

namespace Sys2Proof.Machine

/-- What the map lists for a key. -/
def KMap.find {β : Type} : KMap β → Nat → Option β
  | [], _ => none
  | (a, b) :: r, k => if a = k then some b else KMap.find r k

/-- The value of a key; `d` where the map lists none. -/
def KMap.getD {β : Type} (m : KMap β) (k : Nat) (d : β) : β := (KMap.find m k).getD d

/-- Put a value at a key, keeping the keys strictly rising. -/
def KMap.put {β : Type} : KMap β → Nat → β → KMap β
  | [], k, v => [(k, v)]
  | (a, b) :: r, k, v =>
    if k < a then (k, v) :: (a, b) :: r
    else if a = k then (k, v) :: r
    else (a, b) :: KMap.put r k v

/-- Take a key off the map. -/
def KMap.drop {β : Type} : KMap β → Nat → KMap β
  | [], _ => []
  | (a, b) :: r, k => if a = k then KMap.drop r k else (a, b) :: KMap.drop r k

/-- Put a value, or take the key off where the value is the one an unlisted key reads as. -/
def KMap.store {β : Type} [DecidableEq β] (m : KMap β) (k : Nat) (v d : β) : KMap β :=
  if v = d then KMap.drop m k else KMap.put m k v

/-- Replace the value of a key by a function of it. -/
def KMap.upd {β : Type} (m : KMap β) (k : Nat) (d : β) (f : β → β) : KMap β :=
  KMap.put m k (f (KMap.getD m k d))

/-- Change every listed value. -/
def KMap.mapVal {β : Type} (f : Nat → β → β) (m : KMap β) : KMap β := m.map (fun p => (p.1, f p.1 p.2))

/-- The listed keys. -/
def KMap.keys {β : Type} (m : KMap β) : List Nat := m.map Prod.fst

/-- The listed values. -/
def KMap.vals {β : Type} (m : KMap β) : List β := m.map Prod.snd

/-- The canonical form: keys strictly rising. -/
def KMap.wf {β : Type} : KMap β → Bool
  | [] => true
  | [_] => true
  | (a, _) :: (b, y) :: r => decide (a < b) && KMap.wf ((b, y) :: r)

/-- Add to a list without repeats. -/
def addNew (l : List Nat) (x : Nat) : List Nat := if x ∈ l then l else l ++ [x]

/-- Add a number to an ascending list without repeats. -/
def insertAsc : List Nat → Nat → List Nat
  | [], x => [x]
  | a :: r, x => if x < a then x :: a :: r else if x = a then a :: r else a :: insertAsc r x

/-- The least member of a list; `d` where it is empty. -/
def minOf (l : List Nat) (d : Nat) : Nat :=
  match l with
  | [] => d
  | a :: r => r.foldl min a

/-- The greatest member of a list; 0 where it is empty. -/
def maxOf (l : List Nat) : Nat := l.foldl max 0

/-- The sum of a function over a list. -/
def sumOf {α : Type} (l : List α) (f : α → Nat) : Nat := l.foldl (fun a x => a + f x) 0

/-- How many members of a list meet a test. -/
def countOf {α : Type} (l : List α) (p : α → Bool) : Nat := (l.filter p).length

/-- Fold over 0 … n-1. -/
def forN {α : Type} (n : Nat) (f : α → Nat → α) (a : α) : α := (List.range n).foldl f a

/-- The bits of a number that are set, below `n`. -/
def bitsOf (n v : Nat) : List Nat := (List.range n).filter (fun i => v.testBit i)

/-- The number whose set bits are a list. -/
def maskOf (l : List Nat) : Nat := l.foldl (fun a i => a ||| 2 ^ i) 0

/-- Ceiling of a quotient. -/
def ceilDiv (a b : Nat) : Nat := (a + b - 1) / b

/-- The list with the member at a place replaced. -/
def setAt {α : Type} : List α → Nat → α → List α
  | [], _, _ => []
  | _ :: r, 0, x => x :: r
  | a :: r, n + 1, x => a :: setAt r n x

/-- The member of a list at a place; `d` past its end. -/
def atD {α : Type} : List α → Nat → α → α
  | [], _, d => d
  | a :: _, 0, _ => a
  | _ :: r, n + 1, d => atD r n d

end Sys2Proof.Machine
end

