-- ==== Sys2Proof/Machine/Bits.lean ====
section
/-! DEFINITION. Byte strings, bit fields, checks and the arithmetic of parity: little-endian fields (R3), CRC-32C, the
CRC-64 of flits and parity checks (R95, R303), GF(2^8) under 0x11D (R47), P and Q (R48) and the solving of lost strips
(R50). -/

namespace Sys2Proof.Machine

/-- The low `n` bytes of a number, least significant first (R3). -/
def leBytes : Nat → Nat → Bytes
  | 0, _ => []
  | n + 1, v => BitVec.ofNat 8 v :: leBytes n (v / 256)

/-- The number a byte string spells, least significant first (R3). -/
def leNat : Bytes → Nat
  | [] => 0
  | b :: r => b.toNat + 256 * leNat r

/-- The byte at a place of a string that reads as zero past its end. -/
def byteAt (b : Bytes) (i : Nat) : Byte := atD b i 0

/-- `n` bytes of a string from an offset, zeros past its end. -/
def slice (b : Bytes) (off n : Nat) : Bytes :=
  let r := (b.drop off).take n
  r ++ List.replicate (n - r.length) 0

/-- The field of `n` bytes at an offset, as a number. -/
def leAt (b : Bytes) (off n : Nat) : Nat := leNat (slice b off n)

/-- Bits `lo` to `lo + n - 1` of a number. -/
def bitsAt (v lo n : Nat) : Nat := v / 2 ^ lo % 2 ^ n

/-- A two's-complement number of `n` bits. -/
def signed (n v : Nat) : Int := if v % 2 ^ n < 2 ^ (n - 1) then (v % 2 ^ n : Int) else (v % 2 ^ n : Int) - 2 ^ n

/-- The two's-complement image of an integer in `n` bits. -/
def twos (n : Nat) (v : Int) : Nat := (v % (2 ^ n : Int)).toNat

/-- A string cut or padded with zeros to `n` bytes. [DESIGN CHOICE, notes/assumptions/20.md; DESIGN CHOICE, notes/assumptions/91.md] -/
def fit (n : Nat) (b : Bytes) : Bytes := slice b 0 n

/-- Overwrite part of a string, growing it with zeros. -/
def patch (b : Bytes) (off : Nat) (d : Bytes) : Bytes := slice b 0 off ++ d ++ b.drop (off + d.length)

/-- The characters of a name as bytes. -/
def ascii (l : List Nat) : Bytes := l.map (BitVec.ofNat 8)

/-- XOR of two byte strings, the shorter padded with zeros. -/
def xorBytes : Bytes → Bytes → Bytes
  | [], b => b
  | a, [] => a
  | x :: a, y :: b => (x ^^^ y) :: xorBytes a b

/-- XOR of two lists of blocks. -/
def xorBlocks : List Bytes → List Bytes → List Bytes
  | [], b => b
  | a, [] => a
  | x :: a, y :: b => xorBytes x y :: xorBlocks a b

/-! ### Checks -/

/-- One reflected CRC step over a bit. -/
def crcBit (poly : Nat) (c : Nat) : Nat := if c % 2 = 1 then (c / 2) ^^^ poly else c / 2

/-- Eight reflected CRC steps. -/
def crcByte (poly : Nat) (c : Nat) (b : Byte) : Nat :=
  (List.range 8).foldl (fun x _ => crcBit poly x) (c ^^^ b.toNat)

/-- CRC-32C of a string. -/
def crc32c (b : Bytes) : Nat := (b.foldl (crcByte 0x82F63B78) 0xFFFFFFFF) ^^^ 0xFFFFFFFF

/-- CRC-64 of a string: ECMA-182 polynomial, reflected, initial value and final XOR all ones. -/
def crc64 (b : Bytes) : Nat :=
  (b.foldl (crcByte 0xC96C5795D7870F42) 0xFFFFFFFFFFFFFFFF) ^^^ 0xFFFFFFFFFFFFFFFF

/-! ### GF(2^8) (R47) -/

/-- Multiplication by g = 2. -/
def xtime (a : Byte) : Byte := if a.getLsbD 7 then (a <<< 1) ^^^ 0x1D else a <<< 1

/-- g to a power. -/
def gpow : Nat → Byte
  | 0 => 1
  | n + 1 => xtime (gpow n)

/-- Multiplication by g^n. -/
def xpow : Nat → Byte → Byte
  | 0, b => b
  | n + 1, b => xtime (xpow n b)

/-- Multiplication, over the low `n` bits of the first factor. -/
def gmulN : Nat → Byte → Byte → Byte
  | 0, _, _ => 0
  | n + 1, a, b => (if a.getLsbD n then xpow n b else 0) ^^^ gmulN n a b

/-- Multiplication in GF(2^8) under 0x11D. -/
def gmul (a b : Byte) : Byte := gmulN 8 a b

/-- a to the power 2^n. -/
def gsq : Nat → Byte → Byte
  | 0, a => a
  | n + 1, a => let s := gsq n a; gmul s s

/-- The inverse: a^254 (0 for 0). -/
def ginv (a : Byte) : Byte :=
  gmul (gsq 1 a) (gmul (gsq 2 a) (gmul (gsq 3 a) (gmul (gsq 4 a) (gmul (gsq 5 a) (gmul (gsq 6 a) (gsq 7 a))))))

/-- A block multiplied by a constant. -/
def gscale (c : Byte) (b : Bytes) : Bytes := b.map (gmul c)

/-- A strip multiplied by a constant. -/
def gscaleBlocks (c : Byte) (l : List Bytes) : List Bytes := l.map (gscale c)

/-! ### P and Q (R48) -/

/-- P of the data strips, in column order. -/
def parityP (cols : List (List Bytes)) : List Bytes := cols.foldl xorBlocks []

/-- Q of the data strips: the sum of g^c times strip c, by Horner's rule. -/
def parityQ : List (List Bytes) → List Bytes
  | [] => []
  | d :: r => xorBlocks d (gscaleBlocks 2 (parityQ r))

/-- A column of a stripe, with what is known of it: data columns 0 … k-1, P at k, Q at k+1. -/
abbrev Columns := KMap (List Bytes)

/-- The XOR of the known data columns other than those in `skip`. -/
def knownP (k : Nat) (cs : Columns) (skip : List Nat) : List Bytes :=
  parityP ((List.range k).map (fun i => if i ∈ skip then [] else cs.getD i []))

/-- The Q sum of the known data columns other than those in `skip`. -/
def knownQ (k : Nat) (cs : Columns) (skip : List Nat) : List Bytes :=
  parityQ ((List.range k).map (fun i => if i ∈ skip then [] else cs.getD i []))

/-- Table 3.4: solve the unknown columns of a stripe from the others. `none` where more than two are unknown, or a column
the case needs is not at hand. -/
def solve (k : Nat) (unknown : List Nat) (cs : Columns) : Option Columns :=
  let d := unknown.filter (fun c => decide (c < k))
  let p := decide (k ∈ unknown)
  let q := decide (k + 1 ∈ unknown)
  let fillPQ := fun (m : Columns) =>
    let cols := (List.range k).map (fun i => m.getD i [])
    let m := if p then m.put k (parityP cols) else m
    if q then m.put (k + 1) (parityQ cols) else m
  match d with
  | [] => some (fillPQ cs)
  | [x] =>
    if p && q then none
    else if p then
      let s := xorBlocks (cs.getD (k + 1) []) (knownQ k cs [x])
      some (fillPQ (cs.put x (gscaleBlocks (ginv (gpow x)) s)))
    else
      some (fillPQ (cs.put x (xorBlocks (cs.getD k []) (knownP k cs [x]))))
  | [x, y] =>
    if p || q then none
    else
      let a := xorBlocks (cs.getD k []) (knownP k cs [x, y])
      let b := xorBlocks (cs.getD (k + 1) []) (knownQ k cs [x, y])
      let den := ginv (gpow x ^^^ gpow y)
      let dx := gscaleBlocks den (xorBlocks (gscaleBlocks (gpow y) a) b)
      some ((cs.put x dx).put y (xorBlocks a dx))
  | _ => none

end Sys2Proof.Machine
end

