-- ==== Sys2Proof/Machine/Reset.lean ====
section
/-! DEFINITION. The value every part of the state has after power is applied (R6, R441, the Default columns of the object
tables, the Reset columns of the field maps). A member, piste, queue pair, port or node that no map lists has the value
given here. Where the spec gives no value the entry is named in notes/assumptions/3.md. -/

namespace Sys2Proof.Machine

def Straps.reset : Straps := { memberX4 := false, nodeId := 0, bootSel := false }

/-- [DESIGN CHOICE, notes/assumptions/3.md; DESIGN CHOICE, notes/assumptions/5.md] -/
def Clock.reset : Clock where
  running := false
  ticks := 4096
  stride := 0
  locked := true
  sync := .free
  phasePs := 0
  phaseMaxLap := 0
  phaseMaxLast := 0
  offset := 0
  shift := 0
  lapDone := false
  missed := 0
  good := 0
  bad := 0
  sinceMarker := 0
  markStride := 0
  markAcc := 0
  markGood := 0
  markBad := 0
  correction := 0
  holdStrides := 0
  pacer := false
  pacerNode := 255
  pacerChanges := 0
  sinceLower := 0
  lowerRun := 0
  lowerThis := false
  awaitLap := false
  opNs := 0
  cycles := 0
  startNs := 0

def Engine.reset : Engine :=
  { running := [], loaded := [], carried := 0, overrunIds := [], clocksLap := 0, clocksLast := 0 }

def Scheduler.reset : Scheduler where
  requests := []
  moved := []
  engines := []
  frozen := false
  heldPlan := false
  unhanded := []
  overrunsLap := 0
  derateLaps := 0
  overrunOpen := false
  rebuiltLap := 0
  stuck := false
  nextId := 1
  planId := 1

def Label.reset : Label :=
  { pool := 0, vault := false, owner := 0, uid := 0, slot := 0, node := 0, generation := 0, nqnCheck := 0,
    nguidConventional := 0, nguidZoned := 0 }

def Zone.reset : Zone :=
  { zstate := 0, role := 0, parityMode := 0, piste := 0, resetCount := 0, firstSerial := 0, finishLap := 0, fill := 0,
    live := 0, slots := 0, kill := 0, repaired := false, verified := false, verifyLeft := 0, verifyBad := false,
    working := false }

def DirtyLog.reset : DirtyLog :=
  { open_ := false, slot := 0, rows := [], zones := [], durRows := [], durZones := [], pendRows := [], pendZones := [],
    writesOut := 0, pos := 0, issued := false }

/-- [DESIGN CHOICE, notes/assumptions/3.md] -/
def Member.reset : Member where
  credit := 0
  ccred := List.replicate 8 0
  queues := List.replicate 8 []
  outstanding := []
  mstate := .inService
  cause := 0
  bucket := 0
  lateReads := 0
  failNs := none
  failCycles := 0
  graceOver := false
  inRotation := true
  ranResync := false
  slot := .empty
  prevSlot := .empty
  presence := false
  rawPresence := false
  powerEnable := false
  powerSent := false
  shutting := false
  powerGood := false
  linkSpeed := 0
  linkWidth := 0
  linkUp := false
  presses := 0
  refusals := 0
  refusedNs := none
  windowNs := none
  timerNs := 0
  lastIoNs := 0
  contCause := 0
  contCount := 0
  contNs := none
  contAttempts := 0
  waitPower := false
  report := none
  figures := none
  label := Label.reset
  recorded := none
  replaces := none
  zones := []
  wearZone := none

def Geometry.reset : Geometry := { k := 0, n := 0, stripCode := 0, f := 0, base := 0, rows := 0, zoneParity := 0 }

def RebuildRecord.reset : RebuildRecord :=
  { generation := 0, checkpointStride := 0, slots := [], items := [], sinceCheckpoint := 0, issued := false }

def FallLine.reset : FallLine :=
  { state := 0, old := Geometry.reset, new := Geometry.reset, position := 0, saved := 0, durable := 0, qSwitch := 0, generation := 0,
    checkpointStride := 0, newList := [], zeroLeft := 0, capacity := 0 }

def MapPage.reset : MapPage :=
  { entries := [], dirty := false, firstChangeLap := 0, changeSeq := 0, present := false, lastUse := 0, reserved := false }

/-- [DESIGN CHOICE, notes/assumptions/3.md] -/
def Piste.reset : Piste where
  state := .absent
  groomed := false
  uid := 0
  name := []
  granuleCode := 0
  geom := Geometry.reset
  seed := 0
  capacity := 0
  list := []
  repl := []
  home := 0
  spanning := false
  zeroLeft := 0
  releaseLeft := 0
  handle := 0
  dirGen := 0
  newName := none
  unitMissing := false
  fellBack := false
  lowLaps := 0
  lapHigh := false
  throughUntilLane := false
  laneNamed := false
  generation := 0
  committedGen := []
  readBlocks := 0
  writeBlocks := 0
  rebuild := RebuildRecord.reset
  rebuildSaved := RebuildRecord.reset
  rebuildDurable := RebuildRecord.reset
  fall := FallLine.reset
  rebuiltBytes := 0
  nextQ := 0
  mapBase := 0
  mapGeom := Geometry.reset
  pages := []
  liveCount := []
  held := []
  groomState := 0
  suspended := false
  censusLeft := 0
  space := 0
  allowance := 0
  ratioNum := 0
  ratioDen := 0
  victim := none
  forced := []
  copyQueue := []
  lastHostWriteLap := 0
  companion := []
  partial_ := []
  serialBase := []
  serialBaseOld := []
  remote := []

def CommitRound.reset : CommitRound :=
  { writtenFrom := [], callStride := none, reports := [], reported := false, lockedAt1 := false,
    missedSent := false, sentWritten := false, sinceLap := 0, retryLap := none, states := [], recalling := false }

def Entry.reset : Entry where
  state := .free
  sealed_ := .free
  piste := 0
  kind := 0
  acked := false
  spanning := false
  degraded := false
  stripMask := 0
  stripe := 0
  generation := 0
  stride := 0
  parityCheck := 0
  first := 0
  count := 0
  durableMask := 0
  memberSet := []
  newGeom := false
  openMirror := 0
  laneDurable := false
  computed := false
  columns := []
  issued := []
  blocks := []
  change := []
  round := CommitRound.reset
  inherited := false
  through := []
  delta := false
  overlay := []
  oldCols := []
  touched := false
  farMask := 0

def Journal.reset : Journal :=
  { repairs := [], localRepairs := [], entries := [], sealSeq := 0, lastOwn := none, lastBlock := 0, pendingLane := none, issuedBlock := 0, issuedLap := 0,
    lanesAllowed := false, lapOffset := 0, avoidBlock := none }

def Cache.reset : Cache :=
  { blocks := [], ceiling := 0, nextCeiling := none, own := 0, lostRanges := [], lostStripes := [], lostSeq := 0,
    gateClosed := false }

def QueuePair.reset : QueuePair where
  sqBase := 0
  cqBase := 0
  sqEntriesM1 := 0
  cqEntriesM1 := 0
  vector := 0
  irqEnable := false
  relaxed := false
  burst := 8
  enable := false
  qstate := 0
  qerror := 0
  sqHead := 0
  cqTail := 0
  cqPhase := true
  sqTail := 0
  cqHead := 0
  fetching := 0
  wrote := false
  msixDue := false
  accepted := 0
  errors := 0
  usable := false

def Handle.reset : Handle :=
  { value := 0, generation := 0, state := 0, piste := 0xFF, endStatus := 0, progress := 0, acc := 0, endStride := 0,
    detail := [], recordAddr := 0, cancelling := false, members := [], slots := [] }

/-- [DESIGN CHOICE, notes/assumptions/3.md] -/
def Cqi.reset : Cqi where
  enable := false
  unitState := 0
  droppedBit := false
  nextAcc := 1
  accepted := 0
  queues := []
  turn := 0
  arrived := []
  cmds := []
  held := []
  eventSeq := 0
  dropCount := 0
  eventLog := []
  errorLog := []
  handles := []
  pendingEnds := []
  deferred := []
  nextDeferred := 1
  sweeps := []
  lastSummary := []
  lastRequester := 0

def MsixEntry.reset : MsixEntry := { address := 0, data := 0, mask := true, pending := false }

def Mailbox.reset : Mailbox :=
  { index := 0, sub := 0, op := 0, offset := 0, length := 0, status := 0, reason := 0, objectLength := 0, returned := 0,
    changes := 0, logSeq := 0, buffer := [] }

/-- [DESIGN CHOICE, notes/assumptions/3.md; PRESUMED, notes/assumptions/9.md] -/
def HostPort.reset : HostPort where
  ready := false
  bar0 := 0
  bar4 := 0
  perst := true
  busMaster := false
  bmeSinceNs := none
  d3 := false
  flr := none
  maxPayload := 128
  maxRead := 512
  timeoutCode := 0
  relaxed := true
  tenBit := false
  msixEnable := false
  msixMask := false
  ltrEnable := false
  ltrCap := 0
  ltrCapNoSnoop := 0
  ltrState := 0
  speed := 0
  width := 0
  flit := false
  msix := []
  reads := []
  toRead := []
  quarantine := []
  nextTag := 0
  mailbox := Mailbox.reset
  subsystem := 0x1E4F0001
  releaseNs := none

def Dict.reset : Dict :=
  { values := [], octets := [], rights := [], changes := [], log := [], refused := 0, uncommitted := [], flash := [],
    flashRights := [], commitSeq := 0, keys := [] }

def JudgeRecord.reset : JudgeRecord :=
  { pairId := 0, holder := 0, epoch := 0, protectUs := 0, stale := false, heard := [], pending := none, acquires := [],
    acquireUs := 0, maxEpoch := 0, lapUs := 0 }

/-- [DESIGN CHOICE, notes/assumptions/3.md] -/
def Pair.reset : Pair where
  role := .alone
  pairId := 0
  epoch := 0
  partnerSerial := 0
  sync := 0
  peerSync := 0
  formed := false
  refused := false
  lastHb := none
  sinceHb := 0
  silent := false
  hbSeq := 0
  ringAge := 0xFFFF
  judgeAge := 0xFFFF
  leaseNs := none
  source := 0
  reqSeq := 0
  lastOp := 0
  lastReqNs := 0
  lastReqLap := 0
  answered := false
  sinceGrant := 0
  sinceReply := 0xFFFF
  endorsing := false
  endorseUntil := 0
  pursue := 0
  takeoverLaps := 0
  writeStop := false
  asked := false
  soleDue := false
  grantNs := none
  takeoverNs := none
  former := none
  serving := false
  handover := false
  leaving := false
  vaultStart := false
  mirrorSeq := 0
  mirrorAcc := 0
  mirrorQueue := []
  recvSeq := 0
  lapBytes := 0
  bulkEnded := false
  toldSeq := 0
  syncTotal := 0
  syncSent := 0
  watchNs := none
  watchHbNs := 0
  watchLimitNs := 0
  judges := []

/-- [DEDUCED, notes/assumptions/61.md] -/
def Port.reset : Port where
  pstate := 0
  lanes := 0
  peer := 255
  nextFsn := 0
  delivered := none
  retry := []
  txq := []
  turn := 1
  nakRun := 0
  nakFsn := 0
  nakSent := false
  credits := []
  rxUsed := []
  delayPs := 0
  samples := []
  partial_ := []
  downNs := 0

def Node.reset : Node where
  serial := 0
  sync := 0
  ticks := 0
  timeValid := false
  delayE := 0
  delayW := 0
  ringState := 0
  role := 0
  aliases := 0
  pairId := 0
  epoch := 0
  partner := 255
  sinceLaps := 0xFFFF
  hbLaps := 0xFFFF
  known := false

/-- [DESIGN CHOICE, notes/assumptions/3.md] -/
def Ring.reset : Ring where
  joined := false
  stale := false
  ports := []
  rstate := 0
  nodes := []
  members := []
  refused := []
  twice := []
  span := 0
  aliases := []
  claims := []
  seen := []
  msgId := 0
  lastRosterStride := 0
  rosterDue := false
  checks := []
  reads := []
  nextReqTag := 1
  unrouted := 0

def Requester.reset : Requester :=
  { id := 0, nonce := 0, seq := 0, outstanding := none, sentLap := 0, tries := 0, retryLap := none, waiting := [] }

/-- [DESIGN CHOICE, notes/assumptions/3.md] -/
def Adp.reset : Adp :=
  { astate := 0, sessions := [], toPartner := Requester.reset, toJudge := Requester.reset, partnerMac := 0, phy := [],
    plcaStatus := false, rtts := [], pairWait := [] }

def VaultImage.reset : VaultImage where
  status := 0
  striped := false
  serial := 0
  pairId := 0
  epoch := 0
  sealSeq := 0
  cycles := 0
  ms := 0
  bytes := 0
  durationMs := 0
  journal := []
  blocks := []
  pages := []
  rebuilds := []
  logs := []
  lostRanges := []
  lostStripes := []
  deferred := []
  nextDeferred := 0
  nextAcc := 0
  eventSeq := 0
  recSeq := 0
  lostSlots := []
  lostBlocks := []
  settings := []
  estimator := []
  drives := []

/-- [DESIGN CHOICE, notes/assumptions/3.md] -/
def Power.reset : Power where
  supply := .normal
  vinNow := 0
  vinMin := 0
  goodLaps := 0
  braceLaps := 0
  braceMin := 0
  holdup := false
  chgEn := false
  packSw := false
  packSwNs := 0
  packState := 0
  packUv := 0
  tempDc := 0
  first := true
  zc := 0
  zv := 0
  zr := 0
  vrc := 0
  q := 1080
  k := 1
  ec := 0
  ev := 0
  usable := 0
  charger := 5
  restNs := 0
  window := []
  lastRest := none
  lastRestCycles := 0
  lastRestMs := 0
  restPointNs := 0
  integral := 0
  learn := 0
  learnBefore := 0
  mismatchLaps := 0
  mismatch := false
  pause := 0
  pauseDueNs := 0
  pauseNs := none
  startRest := none
  shipPending := false
  shipArmed := false
  vaultNs := none
  vaultStep := 0
  vaultDirty := 0
  vaultRegion := 0
  vaultDrives := []
  safeVault := false
  vaultLost := []
  lostSlots := []
  images := []
  wroteMs := 0
  test := none
  recovered := false
  resetHeld := false
  vinReset := false
  figStored := 0

def Region.reset : Region := { bucket := 0, armed := true }

def Scrub.reset : Scrub :=
  { state := 0, target := 0, region := 0, repair := false, first := 0, length := 0, read := 0, corrected := 0,
    uncorrectable := 0, retired := 0, endReason := 0, startStride := 0, endStride := 0, firstUe := none, cancel := false }

/-- [DESIGN CHOICE, notes/assumptions/3.md] -/
def Mem.reset : Mem where
  regions := []
  history := []
  retired := []
  postponed := []
  softFuse := []
  pendingFuses := 0
  corrected := []
  hard := []
  withdrawn := []
  poisoned := []
  halted := []
  scrub := Scrub.reset
  patrol := 0

def Faults.reset : Faults :=
  { pending := [], occurrences := 0, history := [], safe := false, selfCheck := false, lockstep := 0, stopped := false,
    safeCause := [], afterSafe := false }

/-- [DESIGN CHOICE, notes/assumptions/3.md] -/
def Recorder.reset : Recorder where
  seq := 0
  saved := 0
  savedMs := 0
  permanent := []
  circ := []
  waiting := []
  thisStride := 0
  lapCount := []
  suppressed := []
  suppressedLap := []
  storedLap := []
  flushed := 0
  flushDue := false
  lastFlushLap := 0
  priorAreas := []
  logged := []
  flushOut := []
  flushBad := []
  logNext := 0
  logCopy := 0
  flushUpTo := 0

def FlashImage.empty : FlashImage :=
  { signatureOk := false, securityVersion := 0, length := 0, firmwareVersion := 0, digestPrefix := 0, present := false }

def StartInputs.none : StartInputs where
  strapMemberX4 := false
  strapNodeId := 0
  strapBootSel := false
  presence := []
  powered := []
  packMv := 0
  tempDc := 0
  selfCheckOk := false
  referenceOk := false
  railsOk := false
  sparesUsed := 0
  spareExhausted := []

/-- [DESIGN CHOICE, notes/assumptions/3.md] -/
def Start.reset : Start where
  due := .none
  phase := 0
  powered := false
  resetN := false
  retained := false
  lostMemory := false
  presence := []
  kind := 0
  images := []
  written := []
  running := 0
  secVersion := 0
  raiseTo := 0
  frames := []
  powerOrder := []
  nextGroupNs := 0
  replayed := false
  lanesFound := []
  inputs := StartInputs.none

/-- [DESIGN CHOICE, notes/assumptions/3.md] -/
def DirImage.reset : DirImage := { pistes := [], members := [] }

/-- [DESIGN CHOICE, notes/assumptions/3.md] -/
def Directory.reset : Directory := { generation := 0, durable := 0, copies := [], images := [] }

end Sys2Proof.Machine
end

