-- ==== Sys2Proof/Machine/State.lean ====
section
/-! DEFINITION. The state of the chip, as plain data, the reasons a step could stop, and the state after power is applied. -/

namespace Sys2Proof.Machine

/-- Reasons the machine could stop with a fault. No command of this block stops it: a fault of the hardware is an effect on
the fault collector's part of the state (R409). The one constructor is raised by nothing; it stands so that the type has a
value. Safe: a statement that a fault cannot happen is true of the model as of the hardware. -/
inductive Fault where
  /-- Raised by no command; safe. -/
  | none
deriving DecidableEq, Repr

/-- Reasons a command could be refused a meaning. -/
inductive Refusal where
  /-- Raised by an arm of exec whose command has no meaning yet; safe, since nothing is said of what the hardware does. -/
  | notModelled (mnemonic : String)
deriving DecidableEq, Repr

/-- Everything the spec gives the chip, by the unit that holds it (R9). -/
structure Chip where
  straps : Straps
  clk : Clock
  sched : Scheduler
  members : KMap Member          -- by slot
  gathers : KMap Gather          -- strips being collected, by identifier
  pistes : KMap Piste            -- by piste number
  cache : Cache
  journal : Journal
  logs : List DirtyLog           -- dirty-region logs, at most 4
  cqi : Cqi
  host : HostPort
  dict : Dict
  pair : Pair
  ring : Ring
  adp : Adp
  power : Power
  mem : Mem
  faults : Faults
  recorder : Recorder
  start : Start
  dir : Directory
  out : List Output              -- the model's own: what has left the chip, oldest first
  draws : Nat                    -- the model's own: free values drawn so far
deriving DecidableEq, Repr

/-- The state of the block: the chip, and the commands that wait, first in, first out. -/
structure State extends Chip where
  pending : List Instr
deriving DecidableEq, Repr

/-- The chip as power is applied. -/
def Chip.reset : Chip where
  straps := Straps.reset
  clk := Clock.reset
  sched := Scheduler.reset
  members := []
  gathers := []
  pistes := []
  cache := Cache.reset
  journal := Journal.reset
  logs := []
  cqi := Cqi.reset
  host := HostPort.reset
  dict := Dict.reset
  pair := Pair.reset
  ring := Ring.reset
  adp := Adp.reset
  power := Power.reset
  mem := Mem.reset
  faults := Faults.reset
  recorder := Recorder.reset
  start := Start.reset
  dir := Directory.reset
  out := []
  draws := 0

/-- The machine right after reset: every field at the value the spec states (R6), no command waiting. [DESIGN CHOICE, notes/assumptions/1.md] -/
def State.reset : State := { Chip.reset with pending := [] }

end Sys2Proof.Machine
end

