-- ==== Sys2Proof/Machine/Objects.lean ====
section
/-! DEFINITION. The object dictionary's directory (R328 to R340): every object of Tables 2.7, 3.8, 3.9, 4.9, 5.10, 6.12,
7.19, 8.14, 9.15, 10.11, 11.13, 12.12 to 12.14, 13.13, 14.8, 15.10, 15.11 and 16.5, and the stored values behind them. -/

namespace Sys2Proof.Machine

/-- An object directory entry (Table 12.6) with the range of its chapter's row. -/
structure Obj where
  index : Nat
  first : Nat        -- lowest subindex
  last : Nat         -- highest subindex; 1000: one for each member slot
  ty : Nat           -- Table 12.2
  len : Nat          -- bytes; for tables that grow, the largest
  access : Nat       -- Table 12.3
  dflt : Nat
  rights : Nat       -- 5-bit mask, bit v admits origin v (R337)
  lo : Nat
  hi : Nat
  mult : Nat
  persistent : Bool
  pairWide : Bool
  secret : Bool
deriving DecidableEq, Repr, Inhabited

/-- A directory row. -/
def obj (index first last ty len access dflt rights lo hi mult : Nat) (persistent pairWide : Bool) : Obj :=
  { index, first, last, ty, len, access, dflt, rights, lo, hi, mult, persistent, pairWide,
    secret := decide (index = 0x4020) }

/-- Objects 0x1000 to 0x10FF. -/
def objects10 : List Obj := [
  obj 0x1000 0 0 12 16 0 0 0x00 0 0 1 false false, -- vendor_name
  obj 0x1001 0 0 12 16 0 0 0x00 0 0 1 false false, -- device_name
  obj 0x1002 0 0 2 1 0 176 0x00 0 255 1 false false, -- silicon_revision
  obj 0x1003 0 0 15 1 0 0 0x00 0 255 1 false false, -- order_code
  obj 0x1004 0 0 5 8 0 0 0x00 0 18446744073709551615 1 false false, -- unit_serial
  obj 0x1005 0 0 4 4 1 0 0x00 0 4294967295 1 false false, -- firmware_version
  obj 0x1006 0 0 2 1 1 0 0x00 0 255 1 false false, -- firmware_slot
  obj 0x1007 0 0 4 4 0 0 0x00 0 4294967295 1 false false, -- boot_rom_version
  obj 0x1008 0 0 3 2 1 0 0x00 0 65535 1 false false, -- object_count
  obj 0x1009 0 0 4 4 1 0 0x00 0 4294967295 1 false false, -- dictionary_version
  obj 0x100A 0 0 5 8 1 0 0x00 0 18446744073709551615 1 false false, -- lpddr6_bytes
  obj 0x100B 0 0 10 10 1 0 0x00 0 0 1 false false, -- stamp_now
  obj 0x100C 0 0 12 64 2 0 0x0D 0 0 1 true false] -- site_label

/-- Objects 0x1100 to 0x11FF. -/
def objects11 : List Obj := [
  obj 0x1100 0 0 13 1048576 1 0 0x00 0 0 1 false false, -- change_log
  obj 0x1101 0 0 4 4 1 0 0x00 0 4294967295 1 false false, -- change_log_entries
  obj 0x1102 0 0 11 8 1 0 0x00 0 18446744073709551615 1 false false, -- change_log_newest_seq
  obj 0x1103 0 0 11 8 1 0 0x00 0 18446744073709551615 1 false false, -- settings_commit_seq
  obj 0x1104 0 0 5 8 1 0 0x00 0 18446744073709551615 1 false false, -- writes_refused
  obj 0x1110 0 0 13 7808 1 0 0x00 0 0 1 false false, -- object_directory
  obj 0x1120 0 0 4 4 4 0 0x14 0 4294967295 1 false false, -- rights_set
  obj 0x1122 0 0 13 16 2 0 0x15 0 0 1 true false] -- host_requester_filter

/-- Objects 0x1200 to 0x12FF. -/
def objects12 : List Obj := [
  obj 0x1200 0 0 15 1 3 1 0x0D 0 3 1 true false, -- stride_select
  obj 0x1201 0 0 4 4 1 4096 0x00 0 4294967295 1 false false, -- stride_ticks
  obj 0x1202 0 0 5 8 1 0 0x00 0 18446744073709551615 1 false false, -- stride_number
  obj 0x1203 0 0 5 8 1 0 0x00 0 18446744073709551615 1 false false, -- lap_number
  obj 0x1204 0 0 1 1 1 0 0x00 0 1 1 false false, -- timebase_locked
  obj 0x1210 0 0 15 1 1 0 0x00 0 255 1 false false, -- sync_state
  obj 0x1211 0 0 8 4 1 0 0x00 0 4294967295 1 false false, -- phase_error_ps
  obj 0x1212 0 0 4 4 1 0 0x00 0 4294967295 1 false false, -- phase_error_max_ps
  obj 0x1213 0 0 9 8 1 0 0x00 0 18446744073709551615 1 false false, -- stride_offset
  obj 0x1214 0 0 4 4 1 0 0x00 0 4294967295 1 false false, -- missed_markers
  obj 0x1220 0 0 5 8 1 0 0x00 0 18446744073709551615 1 false false, -- overrun_count
  obj 0x1221 0 0 3 2 2 8 0x0D 1 255 1 true false, -- overrun_lap_limit
  obj 0x1222 0 0 5 8 1 0 0x00 0 18446744073709551615 1 false false, -- overrun_last_stride
  obj 0x1223 0 0 2 1 1 0 0x00 0 255 1 false false, -- engine_derate
  obj 0x1230 0 1000 4 4 2 0 0x0D 0 4294967295 1 true false, -- member_credit_rate
  obj 0x1231 0 1000 3 2 2 64 0x0D 1 1024 1 true false, -- member_outstanding_max
  obj 0x1232 0 1000 8 4 1 0 0x00 0 4294967295 1 false false, -- member_credit
  obj 0x1240 0 7 2 1 2 0 0x0D 0 255 1 true false, -- class_share
  obj 0x1250 0 23 4 4 1 0 0x00 0 4294967295 1 false false, -- engine_clocks_lap
  obj 0x1251 0 0 3 2 0 512 0x00 0 65535 1 false false] -- plan_cutoff_ticks

/-- Objects 0x1800 to 0x18FF, part 1. -/
def objects18a : List Obj := [
  obj 0x1800 0 0 15 1 1 0 0x00 0 255 1 false false, -- link_speed
  obj 0x1801 0 0 2 1 1 0 0x00 0 255 1 false false, -- link_width
  obj 0x1802 0 0 1 1 1 0 0x00 0 1 1 false false, -- flit_mode
  obj 0x1803 0 0 15 1 2 6 0x0D 4 6 1 true false, -- link_speed_max
  obj 0x1804 0 0 4 4 1 0 0x00 0 4294967295 1 false false, -- link_retrains
  obj 0x1805 0 0 4 4 1 0 0x00 0 4294967295 1 false false, -- link_down_count
  obj 0x1810 0 0 3 2 2 768 0x0D 16 768 1 true false, -- outstanding_reads_max
  obj 0x1811 0 0 3 2 1 0 0x00 0 65535 1 false false, -- outstanding_reads
  obj 0x1812 0 0 3 2 1 0 0x00 0 65535 1 false false, -- tags_quarantined
  obj 0x1813 0 0 5 8 1 0 0x00 0 18446744073709551615 1 false false, -- completion_timeouts
  obj 0x1814 0 0 5 8 1 0 0x00 0 18446744073709551615 1 false false, -- late_completions
  obj 0x1815 0 0 5 8 1 0 0x00 0 18446744073709551615 1 false false, -- poisoned_received
  obj 0x1816 0 0 5 8 1 0 0x00 0 18446744073709551615 1 false false, -- error_completions
  obj 0x1817 0 0 4 4 1 50000 0x00 0 4294967295 1 false false, -- completion_timeout_us
  obj 0x1820 0 0 4 4 2 1000000 0x0D 1000 33000000 1 true false, -- ltr_long_ns
  obj 0x1821 0 0 4 4 2 20000 0x0D 1000 33000000 1 true false, -- ltr_short_ns
  obj 0x1822 0 0 2 1 2 75 0x0D 10 100 1 true false, -- ltr_short_pct
  obj 0x1823 0 0 2 1 2 60 0x0D 0 255 1 true false, -- ltr_long_pct
  obj 0x1824 0 0 15 1 1 0 0x00 0 255 1 false false, -- ltr_state
  obj 0x1825 0 0 5 8 1 0 0x00 0 18446744073709551615 1 false false, -- ltr_messages
  obj 0x1830 0 0 4 4 1 0 0x00 0 4294967295 1 false false, -- flr_count
  obj 0x1831 0 0 4 4 1 0 0x00 0 4294967295 1 false false, -- flr_last_us
  obj 0x1832 0 0 4 4 2 5000 0x0D 100 600000 1 true false, -- bme_clear_limit_ms
  obj 0x1833 0 0 4 4 1 0 0x00 0 4294967295 1 false false] -- bme_clear_events

/-- Objects 0x1800 to 0x18FF, part 2. -/
def objects18b : List Obj := [
  obj 0x1840 0 0 5 8 1 0 0x00 0 18446744073709551615 1 false false, -- window_writes_refused
  obj 0x1841 0 0 4 4 1 0 0x00 0 4294967295 1 false false, -- mailbox_busy_writes
  obj 0x1850 0 0 4 4 2 508493825 0x0D 0 4294967295 1 true false, -- subsystem_id
  obj 0x1851 0 0 5 8 1 0 0x00 0 18446744073709551615 1 false false, -- fec_corrections
  obj 0x1852 0 0 5 8 1 0 0x00 0 18446744073709551615 1 false false, -- aer_correctable
  obj 0x1853 0 0 5 8 1 0 0x00 0 18446744073709551615 1 false false] -- aer_uncorrectable

/-- Objects 0x1A00 to 0x1AFF. -/
def objects1A : List Obj := [
  obj 0x1A00 0 0 4 4 0 65536 0x00 0 4294967295 1 false false, -- cqi_version
  obj 0x1A01 0 0 3 2 0 1024 0x00 0 65535 1 false false, -- queue_pairs_max
  obj 0x1A02 0 0 3 2 0 16384 0x00 0 65535 1 false false, -- queue_entries_max
  obj 0x1A03 0 0 4 4 0 16384 0x00 0 4294967295 1 false false, -- max_transfer_blocks
  obj 0x1A04 0 0 3 2 0 4096 0x00 0 65535 1 false false, -- max_list_entries
  obj 0x1A05 0 0 3 2 0 4096 0x00 0 65535 1 false false, -- handle_slots
  obj 0x1A10 0 0 5 8 1 1 0x00 0 18446744073709551615 1 false false, -- acceptance_seq_next
  obj 0x1A11 0 0 5 8 1 0 0x00 0 18446744073709551615 1 false false, -- commands_accepted
  obj 0x1A12 0 0 4 4 1 0 0x00 0 4294967295 1 false false, -- deferred_pending
  obj 0x1A13 0 0 4 4 1 0 0x00 0 4294967295 1 false false, -- deferred_last
  obj 0x1A14 0 0 5 8 1 0 0x00 0 18446744073709551615 1 false false, -- events_dropped_count
  obj 0x1A15 0 0 3 2 1 0 0x00 0 65535 1 false false, -- handles_in_use
  obj 0x1A16 0 0 4 4 1 0 0x00 0 4294967295 1 false false, -- bad_register_writes
  obj 0x1A17 0 0 5 8 1 0 0x00 0 18446744073709551615 1 false false] -- aborts_succeeded

/-- Objects 0x1B00 to 0x1BFF. -/
def objects1B : List Obj := [
  obj 0x1B00 0 255 15 1 1 0 0x00 0 255 1 false false, -- queue_state
  obj 0x1B01 0 255 15 1 1 0 0x00 0 255 1 false false, -- queue_state
  obj 0x1B02 0 255 15 1 1 0 0x00 0 255 1 false false, -- queue_state
  obj 0x1B03 0 255 15 1 1 0 0x00 0 255 1 false false, -- queue_state
  obj 0x1B04 0 255 5 8 1 0 0x00 0 18446744073709551615 1 false false, -- queue_accepted
  obj 0x1B05 0 255 5 8 1 0 0x00 0 18446744073709551615 1 false false, -- queue_accepted
  obj 0x1B06 0 255 5 8 1 0 0x00 0 18446744073709551615 1 false false, -- queue_accepted
  obj 0x1B07 0 255 5 8 1 0 0x00 0 18446744073709551615 1 false false, -- queue_accepted
  obj 0x1B08 0 255 4 4 1 0 0x00 0 4294967295 1 false false, -- queue_errors
  obj 0x1B09 0 255 4 4 1 0 0x00 0 4294967295 1 false false, -- queue_errors
  obj 0x1B0A 0 255 4 4 1 0 0x00 0 4294967295 1 false false, -- queue_errors
  obj 0x1B0B 0 255 4 4 1 0 0x00 0 4294967295 1 false false, -- queue_errors
  obj 0x1B0C 0 255 3 2 1 0 0x00 0 65535 1 false false, -- queue_outstanding
  obj 0x1B0D 0 255 3 2 1 0 0x00 0 65535 1 false false, -- queue_outstanding
  obj 0x1B0E 0 255 3 2 1 0 0x00 0 65535 1 false false, -- queue_outstanding
  obj 0x1B0F 0 255 3 2 1 0 0x00 0 65535 1 false false] -- queue_outstanding

/-- Objects 0x2000 to 0x20FF. -/
def objects20 : List Obj := [
  obj 0x2000 0 0 3 2 1 0 0x00 0 65535 1 false false, -- piste_count
  obj 0x2001 0 0 3 2 0 256 0x00 0 65535 1 false false, -- piste_limit
  obj 0x2002 0 0 13 32 1 0 0x00 0 0 1 false false, -- piste_bitmap
  obj 0x2003 0 0 11 8 1 0 0x00 0 18446744073709551615 1 false false, -- directory_generation
  obj 0x2004 0 0 2 1 2 2 0x0D 0 8 1 true false, -- default_spare_columns
  obj 0x2005 0 0 15 1 2 1 0x0D 0 2 1 true false, -- default_strip_code
  obj 0x2006 0 0 15 1 2 1 0x0D 0 2 1 true false, -- default_granule_code
  obj 0x2007 0 0 5 8 0 262144 0x00 0 18446744073709551615 1 false false] -- reserved_area_blocks

/-- Objects 0x2400 to 0x24FF, part 1. -/
def objects24a : List Obj := [
  obj 0x2400 0 0 5 8 1 0 0x00 0 18446744073709551615 1 false false, -- cache_bytes
  obj 0x2401 0 0 5 8 1 0 0x00 0 18446744073709551615 1 false false, -- device_area_bytes
  obj 0x2410 0 0 5 8 1 0 0x00 0 18446744073709551615 1 false false, -- dirty_ceiling
  obj 0x2411 0 0 5 8 1 0 0x00 0 18446744073709551615 1 false false, -- dirty_bytes
  obj 0x2412 0 0 5 8 2 137438953472 0x0D 0 137438953472 4096 true false, -- dirty_max
  obj 0x2413 0 0 4 4 2 100000 0x0D 50000 4294967295 1 true false, -- energy_reserve_mj
  obj 0x2414 0 0 4 4 2 16000 0x0D 16000 4294967295 1 true false, -- vault_power_unit_mw
  obj 0x2415 0 0 4 4 2 16000 0x0D 0 4294967295 1 true false, -- vault_power_drives_mw
  obj 0x2416 0 0 4 4 2 14000 0x0D 1000 14000 1 true false, -- vault_rate_config
  obj 0x2417 0 0 4 4 1 14000 0x00 0 4294967295 1 false false, -- vault_rate_measured
  obj 0x2418 0 0 4 4 2 500 0x0D 200 4294967295 1 true false, -- vault_fixed_ms
  obj 0x2419 0 0 5 8 1 0 0x00 0 18446744073709551615 1 false false, -- partner_ceiling
  obj 0x241A 0 0 4 4 1 2286 0x00 0 4294967295 1 false false, -- vault_energy_per_byte_pj
  obj 0x241B 0 0 5 8 1 0 0x00 0 18446744073709551615 1 false false, -- gate_waits
  obj 0x2420 0 255 15 1 2 0 0x0D 0 1 1 true false, -- cache_mode
  obj 0x2421 0 255 4 4 2 12288 0x0D 256 1048576 1 true false, -- gate_wait_limit
  obj 0x2422 0 255 4 4 1 0 0x00 0 4294967295 1 false false, -- fallback_count
  obj 0x2423 0 255 1 1 2 1 0x0D 0 1 1 true false, -- read_cache_admit
  obj 0x2424 0 255 3 2 2 16 0x0D 0 1024 1 true false, -- partial_hold_laps
  obj 0x2425 0 255 2 1 2 0 0x0D 0 1 1 true false, -- flush_mode
  obj 0x2426 0 255 5 8 1 0 0x00 0 18446744073709551615 1 false false, -- piste_dirty_bytes
  obj 0x2427 0 255 5 8 1 0 0x00 0 18446744073709551615 1 false false, -- lost_range_blocks
  obj 0x2430 0 0 1 1 2 1 0x0D 0 1 1 true false, -- alone_write_back
  obj 0x2431 0 0 2 1 2 50 0x0D 10 90 1 true false] -- destage_start_pct

/-- Objects 0x2400 to 0x24FF, part 2. -/
def objects24b : List Obj := [
  obj 0x2432 0 0 2 1 2 75 0x0D 10 95 1 true false, -- fallback_exit_pct
  obj 0x2440 0 0 4 4 0 65536 0x00 0 4294967295 1 false false, -- journal_slots
  obj 0x2441 0 0 4 4 1 0 0x00 0 4294967295 1 false false, -- journal_in_use
  obj 0x2442 0 0 11 8 1 0 0x00 0 18446744073709551615 1 false false, -- journal_seal_seq
  obj 0x2443 0 255 11 8 1 0 0x00 0 18446744073709551615 1 false false, -- stripe_generation
  obj 0x2444 0 0 5 8 1 0 0x00 0 18446744073709551615 1 false false, -- journal_full_waits
  obj 0x2450 0 0 5 8 1 0 0x00 0 18446744073709551615 1 false false, -- lane_last_lap
  obj 0x2451 0 0 13 4 1 0 0x00 0 4294967295 1 false false, -- lane_members
  obj 0x2452 0 0 4 4 1 0 0x00 0 4294967295 1 false false, -- lane_skipped
  obj 0x2453 0 0 4 4 1 0 0x00 0 4294967295 1 false false, -- lane_failed
  obj 0x2460 0 0 15 1 1 0 0x00 0 255 1 false false, -- replay_source
  obj 0x2461 0 0 4 4 1 0 0x00 0 4294967295 1 false false, -- replay_entries
  obj 0x2462 0 0 4 4 1 0 0x00 0 4294967295 1 false false, -- replay_forward
  obj 0x2463 0 0 4 4 1 0 0x00 0 4294967295 1 false false, -- replay_rolled
  obj 0x2464 0 0 4 4 1 0 0x00 0 4294967295 1 false false, -- replay_lost
  obj 0x2470 0 0 13 65536 1 0 0x00 0 0 1 false false, -- lost_range_table
  obj 0x2471 0 0 4 4 1 0 0x00 0 4294967295 1 false false, -- lost_range_entries
  obj 0x2480 0 0 5 8 1 0 0x00 0 18446744073709551615 1 false false, -- cache_heal_count
  obj 0x2481 0 0 5 8 1 0 0x00 0 18446744073709551615 1 false false] -- mirror_heal_count

/-- Objects 0x2800 to 0x28FF, part 1. -/
def objects28a : List Obj := [
  obj 0x2800 0 0 5 8 3 0 0x0D 1073741824 103079215104 4096 true false, -- map_cache_limit
  obj 0x2801 0 0 5 8 1 0 0x00 0 18446744073709551615 1 false false, -- map_cache_bytes
  obj 0x2802 0 0 5 8 1 0 0x00 0 18446744073709551615 1 false false, -- map_cache_hits
  obj 0x2803 0 0 5 8 1 0 0x00 0 18446744073709551615 1 false false, -- map_cache_misses
  obj 0x2804 0 0 5 8 1 0 0x00 0 18446744073709551615 1 false false, -- map_dirty_pages
  obj 0x2805 0 0 3 2 2 64 0x0D 4 1024 1 true false, -- map_writeback_laps
  obj 0x2806 0 0 11 8 1 0 0x00 0 18446744073709551615 1 false false, -- map_clean_seq
  obj 0x2807 0 0 15 1 2 0 0x0D 0 1 1 true false, -- default_zone_parity
  obj 0x2808 0 0 2 1 2 7 0x0D 2 50 1 true false, -- overprovision_pct
  obj 0x2809 0 0 5 8 1 0 0x00 0 18446744073709551615 1 false false, -- census_pages_left
  obj 0x2810 0 255 5 8 1 0 0x00 0 18446744073709551615 1 false false, -- map_base
  obj 0x2811 0 255 5 8 1 0 0x00 0 18446744073709551615 1 false false, -- map_pages
  obj 0x2812 0 255 15 1 1 0 0x00 0 255 1 false false, -- zone_parity_mode
  obj 0x2813 0 255 5 8 1 0 0x00 0 18446744073709551615 1 false false, -- map_misses
  obj 0x2814 0 255 5 8 1 0 0x00 0 18446744073709551615 1 false false, -- live_granules
  obj 0x2820 0 255 15 1 1 0 0x00 0 255 1 false false, -- space_state
  obj 0x2821 0 255 5 8 1 0 0x00 0 18446744073709551615 1 false false, -- space_refusals
  obj 0x2822 0 255 5 8 1 0 0x00 0 18446744073709551615 1 false false, -- owed_stripes
  obj 0x2830 0 0 2 1 2 16 0x0D 0 255 1 true false, -- groom_share
  obj 0x2831 0 0 3 2 2 20 0x0D 5 200 1 true false, -- groom_low_permille
  obj 0x2832 0 0 3 2 2 40 0x0D 0 400 1 true false, -- groom_high_permille
  obj 0x2833 0 0 3 2 2 100 0x0D 0 500 1 true false, -- groom_bg_target_permille
  obj 0x2834 0 255 4 4 2 1024 0x0D 16 1048576 1 true false, -- groom_idle_laps
  obj 0x2835 0 255 15 1 1 0 0x00 0 255 1 false false] -- groom_state

/-- Objects 0x2800 to 0x28FF, part 2. -/
def objects28b : List Obj := [
  obj 0x2836 0 255 4 4 1 0 0x00 0 4294967295 1 false false, -- groom_ratio_milli
  obj 0x2837 0 0 4 4 2 9000 0x0D 1000 64000 1 true false, -- groom_ratio_max_milli
  obj 0x2838 0 255 5 8 1 0 0x00 0 18446744073709551615 1 false false, -- groom_bytes
  obj 0x2839 0 255 5 8 1 0 0x00 0 18446744073709551615 1 false false, -- throttle_waits
  obj 0x2840 0 0 3 2 2 20 0x0D 10 100 1 true false, -- spare_zone_permille
  obj 0x2841 0 0 4 4 2 256 0x0D 32 65535 1 true false, -- wear_spread_limit
  obj 0x2842 0 0 4 4 2 32 0x0D 0 4294967295 1 true false, -- wear_hysteresis
  obj 0x2850 0 1000 4 4 1 0 0x00 0 4294967295 1 false false, -- member_zones
  obj 0x2851 0 1000 4 4 1 0 0x00 0 4294967295 1 false false, -- member_zones_empty
  obj 0x2852 0 1000 4 4 1 0 0x00 0 4294967295 1 false false, -- member_reserve_zones
  obj 0x2853 0 1000 4 4 1 0 0x00 0 4294967295 1 false false, -- member_reset_min
  obj 0x2854 0 1000 4 4 1 0 0x00 0 4294967295 1 false false, -- member_reset_max
  obj 0x2855 0 1000 5 8 1 0 0x00 0 18446744073709551615 1 false false, -- member_wear_moves
  obj 0x2856 0 1000 4 4 1 0 0x00 0 4294967295 1 false false, -- member_zones_offline
  obj 0x2860 0 1000 5 8 1 0 0x00 0 18446744073709551615 1 false false, -- local_repairs
  obj 0x2861 0 1000 5 8 1 0 0x00 0 18446744073709551615 1 false false] -- verify_failures

/-- Objects 0x2C00 to 0x2CFF, part 1. -/
def objects2Ca : List Obj := [
  obj 0x2C00 0 0 4 4 2 512 0x0D 16 65535 1 true false, -- read_deadline_strides
  obj 0x2C01 0 0 5 8 1 0 0x00 0 18446744073709551615 1 false false, -- hedges_issued
  obj 0x2C02 0 0 5 8 1 0 0x00 0 18446744073709551615 1 false false, -- hedges_won
  obj 0x2C03 0 0 5 8 1 0 0x00 0 18446744073709551615 1 false false, -- late_reads_discarded
  obj 0x2C04 0 0 5 8 1 0 0x00 0 18446744073709551615 1 false false, -- hedges_waited
  obj 0x2C05 0 0 5 8 1 0 0x00 0 18446744073709551615 1 false false, -- repair_writes
  obj 0x2C06 0 0 5 8 1 0 0x00 0 18446744073709551615 1 false false, -- solved_at_admission
  obj 0x2C08 0 255 4 4 2 0 0x0D 0 4294967295 1 true false, -- piste_read_deadline
  obj 0x2C10 0 0 2 1 2 32 0x0D 0 255 1 true false, -- rebuild_share
  obj 0x2C11 0 0 2 1 2 48 0x0D 0 255 1 true false, -- rebuild_share_critical
  obj 0x2C12 0 0 4 4 2 120000 0x0D 0 3600000 1 true false, -- grace_ms
  obj 0x2C13 0 0 1 1 2 1 0x0D 0 1 1 true false, -- auto_rebuild
  obj 0x2C14 0 0 3 2 2 64 0x0D 1 65535 1 true false, -- error_fail_limit
  obj 0x2C15 0 0 4 4 2 1024 0x0D 1 1048576 1 true false, -- error_leak_laps
  obj 0x2C16 0 0 4 4 2 0 0x0D 0 4294967295 1 true false, -- rebuild_rate_max_mbs
  obj 0x2C20 0 1000 15 1 1 0 0x00 0 255 1 false false, -- member_redundancy_state
  obj 0x2C21 0 1000 15 1 1 0 0x00 0 255 1 false false, -- member_fail_cause
  obj 0x2C22 0 1000 3 2 1 0 0x00 0 65535 1 false false, -- member_error_bucket
  obj 0x2C23 0 1000 5 8 1 0 0x00 0 18446744073709551615 1 false false, -- member_late_reads
  obj 0x2C24 0 1000 10 10 1 0 0x00 0 0 1 false false, -- member_fail_stamp
  obj 0x2C30 0 255 15 1 1 0 0x00 0 255 1 false false, -- rebuild_state
  obj 0x2C31 0 255 13 384 1 0 0x00 0 0 1 false false, -- rebuild_record
  obj 0x2C32 0 255 3 2 1 0 0x00 0 65535 1 false false, -- rebuild_permille
  obj 0x2C33 0 255 5 8 1 0 0x00 0 18446744073709551615 1 false false] -- unplaced_strips

/-- Objects 0x2C00 to 0x2CFF, part 2. -/
def objects2Cb : List Obj := [
  obj 0x2C34 0 255 5 8 1 0 0x00 0 18446744073709551615 1 false false, -- rebuilt_bytes
  obj 0x2C40 0 255 5 8 1 0 0x00 0 18446744073709551615 1 false false, -- fall_line
  obj 0x2C41 0 255 13 64 1 0 0x00 0 0 1 false false, -- fall_line_record
  obj 0x2C50 0 0 13 524288 1 0 0x00 0 0 1 false false, -- lost_stripe_table
  obj 0x2C51 0 0 4 4 1 0 0x00 0 4294967295 1 false false, -- lost_stripe_entries
  obj 0x2C52 0 255 4 4 1 0 0x00 0 4294967295 1 false false, -- piste_lost_stripes
  obj 0x2C53 0 0 4 4 2 1024 0x0D 16 65536 1 true false, -- lost_hold_laps
  obj 0x2C60 0 0 2 1 1 0 0x00 0 255 1 false false, -- sweeps_running
  obj 0x2C61 0 0 13 64 1 0 0x00 0 0 1 false false, -- sweep_last_summary
  obj 0x2C62 0 0 5 8 1 0 0x00 0 18446744073709551615 1 false false] -- sweep_unlocated

/-- Objects 0x3000 to 0x30FF. -/
def objects30 : List Obj := [
  obj 0x3000 0 255 15 1 1 0 0x00 0 255 1 false false, -- piste_state
  obj 0x3001 0 255 4 4 1 0 0x00 0 4294967295 1 false false, -- piste_conditions
  obj 0x3002 0 255 15 1 1 0 0x00 0 255 1 false false, -- piste_type
  obj 0x3003 0 255 5 8 1 0 0x00 0 18446744073709551615 1 false false, -- piste_uid
  obj 0x3004 0 255 12 32 2 0 0x0D 0 0 1 true false, -- piste_name
  obj 0x3010 0 255 2 1 1 0 0x00 0 255 1 false false, -- width_k
  obj 0x3011 0 255 3 2 1 0 0x00 0 65535 1 false false, -- member_count
  obj 0x3012 0 255 15 1 1 0 0x00 0 255 1 false false, -- strip_code
  obj 0x3013 0 255 15 1 1 0 0x00 0 255 1 false false, -- granule_code
  obj 0x3014 0 255 2 1 1 0 0x00 0 255 1 false false, -- spare_columns
  obj 0x3015 0 255 2 1 1 0 0x00 0 255 1 false false, -- stripes_per_row
  obj 0x3016 0 255 5 8 1 0 0x00 0 18446744073709551615 1 false false, -- placement_seed
  obj 0x3017 0 255 5 8 1 0 0x00 0 18446744073709551615 1 false false, -- member_base
  obj 0x3018 0 255 5 8 1 0 0x00 0 18446744073709551615 1 false false, -- row_count
  obj 0x3019 0 255 5 8 1 0 0x00 0 18446744073709551615 1 false false, -- capacity_blocks
  obj 0x301A 0 255 13 768 1 0 0x00 0 0 1 false false, -- member_list
  obj 0x301B 0 255 13 96 1 0 0x00 0 0 1 false false, -- replacement_list
  obj 0x301C 0 255 2 1 1 0 0x00 0 255 1 false false, -- home_node
  obj 0x301D 0 255 5 8 1 0 0x00 0 18446744073709551615 1 false false, -- next_stripe_seq
  obj 0x3020 0 255 2 1 4 0 0x0D 0 255 1 false false, -- piste_run
  obj 0x3030 0 255 5 8 1 0 0x00 0 18446744073709551615 1 false false, -- host_read_blocks
  obj 0x3031 0 255 5 8 1 0 0x00 0 18446744073709551615 1 false false] -- host_write_blocks

/-- Objects 0x3400 to 0x34FF, part 1. -/
def objects34a : List Obj := [
  obj 0x3400 0 0 15 1 1 0 0x00 0 255 1 false false, -- member_arrangement
  obj 0x3401 0 0 15 1 2 0 0x0D 0 2 1 true false, -- arrangement_select
  obj 0x3402 0 0 2 1 1 0 0x00 0 255 1 false false, -- member_slots
  obj 0x3403 0 0 13 2 1 0 0x00 0 65535 1 false false, -- vault_slots
  obj 0x3404 0 0 4 4 2 8000 0x0D 1000 60000 1 true true, -- member_command_timeout_ms
  obj 0x3410 0 1000 15 1 1 0 0x00 0 255 1 false false, -- slot_state
  obj 0x3411 0 1000 15 1 1 0 0x00 0 255 1 false false, -- slot_link_speed
  obj 0x3412 0 1000 2 1 1 0 0x00 0 255 1 false false, -- slot_link_width
  obj 0x3413 0 1000 12 256 1 0 0x00 0 0 1 false false, -- member_nqn
  obj 0x3414 0 1000 13 128 1 0 0x00 0 0 1 false false, -- member_label
  obj 0x3415 0 1000 5 8 1 0 0x00 0 18446744073709551615 1 false false, -- member_conventional_blocks
  obj 0x3416 0 1000 5 8 1 0 0x00 0 18446744073709551615 1 false false, -- member_zoned_blocks
  obj 0x3420 0 1000 15 1 1 9 0x00 0 255 1 false false, -- led_state
  obj 0x3421 0 1000 1 1 2 0 0x0D 0 1 1 true false, -- locate_request
  obj 0x3422 0 1000 1 1 1 0 0x00 0 1 1 false false, -- slot_power
  obj 0x3423 0 1000 1 1 1 0 0x00 0 1 1 false false, -- presence
  obj 0x3424 0 1000 1 1 1 0 0x00 0 1 1 false false, -- power_good
  obj 0x3425 0 1000 4 4 1 0 0x00 0 4294967295 1 false false, -- button_presses
  obj 0x3426 0 1000 4 4 1 0 0x00 0 4294967295 1 false false, -- removal_refusals
  obj 0x3430 0 1000 15 1 1 0 0x00 0 255 1 false false, -- containment_cause
  obj 0x3431 0 1000 4 4 1 0 0x00 0 4294967295 1 false false, -- containment_count
  obj 0x3432 0 1000 2 1 4 0 0x0D 0 255 1 false false, -- containment_release
  obj 0x3433 0 1000 1 1 2 0 0x0D 0 1 1 true false, -- containment_auto_release
  obj 0x3434 0 0 4 4 2 5000 0x0D 500 600000 1 true false] -- containment_window_ms

/-- Objects 0x3400 to 0x34FF, part 2. -/
def objects34b : List Obj := [
  obj 0x3440 0 0 15 1 2 1 0x0D 0 2 1 true false, -- insert_policy
  obj 0x3441 0 0 4 4 0 1000 0x00 0 4294967295 1 false false, -- insert_debounce_ms
  obj 0x3442 0 0 4 4 0 5000 0x00 0 4294967295 1 false false, -- button_window_ms
  obj 0x3443 0 0 1 1 2 1 0x0D 0 1 1 true false, -- spare_auto_copyback
  obj 0x3444 0 1000 1 1 2 1 0x0D 0 1 1 true false, -- slot_enable
  obj 0x3450 0 0 3 2 2 100 0x0D 32 100 1 true false, -- sgpio_clock_khz
  obj 0x3451 0 0 5 8 1 0 0x00 0 18446744073709551615 1 false false] -- sgpio_frames

/-- Objects 0x3800 to 0x38FF, part 1. -/
def objects38a : List Obj := [
  obj 0x3800 0 0 15 1 3 0 0x0D 0 1 1 true false, -- pair_mode
  obj 0x3801 0 0 15 1 1 0 0x00 0 255 1 false false, -- pair_role
  obj 0x3802 0 0 5 8 1 0 0x00 0 18446744073709551615 1 false false, -- pair_id
  obj 0x3803 0 0 4 4 1 0 0x00 0 4294967295 1 false false, -- pair_epoch
  obj 0x3804 0 0 5 8 1 0 0x00 0 18446744073709551615 1 false false, -- partner_serial
  obj 0x3805 0 0 15 1 1 0 0x00 0 255 1 false false, -- sync_state
  obj 0x3806 0 0 4 4 1 0 0x00 0 4294967295 1 false false, -- takeovers
  obj 0x3807 0 0 4 4 1 0 0x00 0 4294967295 1 false false, -- last_takeover_ms
  obj 0x3810 0 0 13 8 2 0 0x0D 0 18446744073709551615 1 true true, -- judge_address
  obj 0x3811 0 0 3 2 0 64 0x00 0 65535 1 false false, -- lease_laps
  obj 0x3812 0 0 3 2 1 0 0x00 0 65535 1 false false, -- lease_remaining_laps
  obj 0x3813 0 0 5 8 1 0 0x00 0 18446744073709551615 1 false false, -- lease_renewals
  obj 0x3814 0 0 4 4 1 0 0x00 0 4294967295 1 false false, -- lease_denials
  obj 0x3815 0 0 1 1 1 0 0x00 0 1 1 false false, -- judge_reachable
  obj 0x3816 0 0 1 1 2 1 0x0D 0 1 1 true true, -- endorse_enable
  obj 0x3817 0 0 15 1 1 0 0x00 0 255 1 false false, -- lease_source
  obj 0x3820 0 0 3 2 2 64 0x0D 16 1024 1 true true, -- partner_miss_strides
  obj 0x3821 0 0 5 8 1 0 0x00 0 18446744073709551615 1 false false, -- partner_hb_missed
  obj 0x3822 0 0 4 4 2 9000 0x0D 0 120000 1 true true, -- fence_hold_ms
  obj 0x3823 0 0 9 8 1 0 0x00 0 18446744073709551615 1 false false, -- lane_lap_offset
  obj 0x3830 0 0 4 4 1 0 0x00 0 4294967295 1 false false, -- mirror_rate_mbs
  obj 0x3831 0 0 5 8 1 0 0x00 0 18446744073709551615 1 false false, -- mirror_seq
  obj 0x3832 0 0 5 8 1 0 0x00 0 18446744073709551615 1 false false, -- mirror_accepted_seq
  obj 0x3833 0 0 3 2 1 0 0x00 0 65535 1 false false] -- sync_progress_permille

/-- Objects 0x3800 to 0x38FF, part 2. -/
def objects38b : List Obj := [
  obj 0x3834 0 0 2 1 1 0 0x00 0 255 1 false false, -- p_lanes
  obj 0x3840 0 0 2 1 4 0 0x0D 0 255 1 false false, -- handover
  obj 0x3841 0 0 2 1 4 0 0x14 0 255 1 false false, -- force_takeover
  obj 0x3850 0 0 1 1 3 0 0x0D 0 1 1 true false, -- judge_serve_enable
  obj 0x3851 0 0 2 1 1 0 0x00 0 255 1 false false, -- judge_pairs
  obj 0x3852 0 3 13 48 1 0 0x00 0 0 1 false false] -- judge_pair_record

/-- Objects 0x3C00 to 0x3CFF, part 1. -/
def objects3Ca : List Obj := [
  obj 0x3C00 0 0 1 1 3 1 0x0D 0 1 1 true false, -- ring_enable
  obj 0x3C01 0 0 2 1 1 0 0x00 0 255 1 false false, -- node_id
  obj 0x3C02 0 0 15 1 1 0 0x00 0 255 1 false false, -- ring_state
  obj 0x3C03 0 0 4 4 1 0 0x00 0 4294967295 1 false false, -- ring_members
  obj 0x3C04 0 0 4 4 1 0 0x00 0 4294967295 1 false false, -- ring_span_ns
  obj 0x3C05 0 0 4 4 1 3584 0x00 0 4294967295 1 false false, -- ring_span_limit_ns
  obj 0x3C06 0 0 2 1 1 255 0x00 0 255 1 false false, -- pacer_node
  obj 0x3C07 0 0 4 4 1 0 0x00 0 4294967295 1 false false, -- pacer_changes
  obj 0x3C08 0 0 4 4 1 0 0x00 0 4294967295 1 false false, -- node_aliases
  obj 0x3C09 0 0 3 2 0 64 0x00 0 65535 1 false false, -- forward_residence_ns
  obj 0x3C0A 0 0 3 2 0 200 0x00 0 65535 1 false false, -- election_quiet_ms
  obj 0x3C10 0 2 15 1 1 0 0x00 0 255 1 false false, -- port_state
  obj 0x3C11 0 2 2 1 1 0 0x00 0 255 1 false false, -- port_lanes
  obj 0x3C12 0 2 4 4 1 0 0x00 0 4294967295 1 false false, -- port_link_delay_ps
  obj 0x3C13 0 2 2 1 1 255 0x00 0 255 1 false false, -- port_peer_node
  obj 0x3C14 0 2 5 8 1 0 0x00 0 18446744073709551615 1 false false, -- port_fec_corrections
  obj 0x3C15 0 2 5 8 1 0 0x00 0 18446744073709551615 1 false false, -- port_crc_errors
  obj 0x3C16 0 2 5 8 1 0 0x00 0 18446744073709551615 1 false false, -- port_replays
  obj 0x3C17 0 2 4 4 1 0 0x00 0 4294967295 1 false false, -- port_recoveries
  obj 0x3C18 0 2 4 4 1 0 0x00 0 4294967295 1 false false, -- port_downs
  obj 0x3C20 0 0 5 8 1 0 0x00 0 18446744073709551615 1 false false, -- commit_rounds
  obj 0x3C21 0 0 5 8 1 0 0x00 0 18446744073709551615 1 false false, -- commits_at_stride
  obj 0x3C22 0 0 5 8 1 0 0x00 0 18446744073709551615 1 false false, -- commit_missed
  obj 0x3C23 0 0 5 8 1 0 0x00 0 18446744073709551615 1 false false] -- commits_resolved

/-- Objects 0x3C00 to 0x3CFF, part 2. -/
def objects3Cb : List Obj := [
  obj 0x3C24 0 0 4 4 1 0 0x00 0 4294967295 1 false false, -- spanning_entries_open
  obj 0x3C25 0 0 3 2 2 1 0x0D 1 64 1 true false, -- commit_retry_laps
  obj 0x3C26 0 0 5 8 1 0 0x00 0 18446744073709551615 1 false false, -- stripe_msgs_discarded
  obj 0x3C30 0 31 3 2 1 65535 0x00 0 65535 1 false false, -- node_last_heard_laps
  obj 0x3C31 0 0 5 8 1 0 0x00 0 18446744073709551615 1 false false, -- ring_hb_missed
  obj 0x3C32 0 0 5 8 1 0 0x00 0 18446744073709551615 1 false false, -- markers_discarded
  obj 0x3C40 0 0 2 1 4 0 0x05 0 255 1 false false, -- ring_reset_node
  obj 0x3C41 0 0 1 1 2 1 0x0D 0 1 1 true false] -- ring_reset_accept

/-- Objects 0x4000 to 0x40FF, part 1. -/
def objects40a : List Obj := [
  obj 0x4000 0 0 1 1 3 1 0x0D 0 1 1 true false, -- adp_enable
  obj 0x4001 0 0 13 6 3 0 0x0D 0 281474976710655 1 true false, -- adp_mac_address
  obj 0x4002 0 0 15 1 1 0 0x00 0 255 1 false false, -- adp_state
  obj 0x4003 0 0 3 2 2 64 0x0D 48 1456 1 true false, -- adp_body_max
  obj 0x4004 0 0 3 2 2 4 0x0D 2 64 1 true false, -- adp_request_timeout_laps
  obj 0x4005 0 0 2 1 2 3 0x0D 0 8 1 true false, -- adp_retries
  obj 0x4010 0 0 1 1 2 1 0x0D 0 1 1 true false, -- plca_enable
  obj 0x4011 0 0 2 1 2 1 0x0D 0 254 1 true false, -- plca_node_id
  obj 0x4012 0 0 2 1 2 8 0x0D 1 255 1 true false, -- plca_node_count
  obj 0x4013 0 0 2 1 2 0 0x0D 0 255 1 true false, -- plca_burst_count
  obj 0x4014 0 0 2 1 2 32 0x0D 0 255 1 true false, -- plca_to_timer
  obj 0x4015 0 0 2 1 2 0 0x0D 0 31 1 true false, -- phy_mdio_address
  obj 0x4016 0 0 1 1 1 0 0x00 0 1 1 false false, -- plca_status
  obj 0x4020 0 1 13 32 4 0 0x11 0 0 1 false false, -- adp_key
  obj 0x4021 0 1 1 1 1 0 0x00 0 1 1 false false, -- adp_key_present
  obj 0x4022 0 0 2 1 2 0 0x0D 0 1 1 true true, -- adp_tx_key_slot
  obj 0x4030 0 0 5 8 1 0 0x00 0 18446744073709551615 1 false false, -- adp_frames_rx
  obj 0x4031 0 0 5 8 1 0 0x00 0 18446744073709551615 1 false false, -- adp_frames_tx
  obj 0x4032 0 0 5 8 1 0 0x00 0 18446744073709551615 1 false false, -- adp_auth_failures
  obj 0x4033 0 0 5 8 1 0 0x00 0 18446744073709551615 1 false false, -- adp_replays_discarded
  obj 0x4034 0 0 5 8 1 0 0x00 0 18446744073709551615 1 false false, -- adp_busy_sent
  obj 0x4035 0 0 2 1 1 0 0x00 0 255 1 false false, -- adp_sessions
  obj 0x4037 0 0 4 4 1 0 0x00 0 4294967295 1 false false, -- lease_rtt_max_us
  obj 0x4040 0 3 5 8 2 0 0x0D 0 18446744073709551615 1 true false] -- judge_accept_pair

/-- Objects 0x4000 to 0x40FF, part 2. -/
def objects40b : List Obj := [
  obj 0x4041 0 0 13 8 1 0 0x00 0 18446744073709551615 1 false false] -- partner_adp_address

/-- Objects 0x4400 to 0x44FF, part 1. -/
def objects44a : List Obj := [
  obj 0x4400 0 0 3 2 2 11200 0x0D 10400 11800 1 true false, -- vin_warn_mv
  obj 0x4401 0 0 3 2 2 10800 0x0D 10000 11400 1 true false, -- vin_switch_mv
  obj 0x4402 0 0 3 2 2 10000 0x0D 9000 10600 1 true false, -- vin_reset_mv
  obj 0x4403 0 0 3 2 1 0 0x00 0 65535 1 false false, -- vin_now_mv
  obj 0x4404 0 0 3 2 1 0 0x00 0 65535 1 false false, -- vin_min_mv
  obj 0x4405 0 0 15 1 1 0 0x00 0 255 1 false false, -- supply_state
  obj 0x4406 0 0 4 4 1 0 0x00 0 4294967295 1 false false, -- brace_count
  obj 0x4407 0 0 3 2 1 0 0x00 0 65535 1 false false, -- brace_last_min_mv
  obj 0x4410 0 0 15 1 1 0 0x00 0 255 1 false false, -- pack_state
  obj 0x4411 0 0 3 2 1 0 0x00 0 65535 1 false false, -- pack_voltage_mv
  obj 0x4412 0 0 7 2 1 0 0x00 0 65535 1 false false, -- pack_temp_dc
  obj 0x4413 0 0 3 2 1 0 0x00 0 65535 1 false false, -- soc_reported_permille
  obj 0x4414 0 0 3 2 1 0 0x00 0 65535 1 false false, -- soc_coulomb_permille
  obj 0x4415 0 0 3 2 1 0 0x00 0 65535 1 false false, -- soc_voltage_permille
  obj 0x4416 0 0 4 4 1 0 0x00 0 4294967295 1 false false, -- energy_usable_mj
  obj 0x4417 0 0 4 4 1 0 0x00 0 4294967295 1 false false, -- energy_coulomb_mj
  obj 0x4418 0 0 4 4 1 0 0x00 0 4294967295 1 false false, -- energy_voltage_mj
  obj 0x4419 0 0 4 4 1 1080000 0x00 0 4294967295 1 true false, -- capacity_learned_mc
  obj 0x441A 0 0 3 2 1 1000 0x00 0 65535 1 true false, -- resistance_factor_permille
  obj 0x441B 0 0 15 1 1 0 0x00 0 255 1 false false, -- learn_state
  obj 0x441C 0 0 1 1 1 0 0x00 0 1 1 false false, -- soc_mismatch
  obj 0x441D 0 0 3 2 2 800 0x0D 500 1000 1 true false, -- confidence_permille
  obj 0x441E 0 0 3 2 1 800 0x00 0 65535 1 false false, -- confidence_in_force_permille
  obj 0x441F 0 0 10 10 1 0 0x00 0 0 1 false false] -- last_rest_stamp

/-- Objects 0x4400 to 0x44FF, part 2. -/
def objects44b : List Obj := [
  obj 0x4420 0 0 4 4 1 0 0x00 0 4294967295 1 false false, -- minutes_since_rest
  obj 0x4421 0 0 1 1 2 0 0x0D 0 1 1 false false, -- quiet_window
  obj 0x4422 0 0 15 1 1 0 0x00 0 255 1 false false, -- pause_state
  obj 0x4423 0 0 15 1 1 5 0x00 0 255 1 false false, -- charger_state
  obj 0x4424 0 0 3 2 2 970 0x0D 800 990 1 true false, -- recharge_permille
  obj 0x4425 0 0 1 1 2 0 0x0D 0 1 1 true false, -- charge_float
  obj 0x4426 0 0 4 4 1 0 0x00 0 4294967295 1 false false, -- capacity_learn_rejects
  obj 0x4430 0 0 13 320 3 0 0x0D 0 0 1 true false, -- pack_descriptor
  obj 0x4431 0 0 2 1 4 0 0x0D 0 255 1 false false, -- pack_replaced
  obj 0x4432 0 0 4 4 4 0 0x05 0 4294967295 1 false false, -- ship_mode
  obj 0x4440 0 0 2 1 1 0 0x00 0 255 1 false false, -- vault_region
  obj 0x4441 0 0 4 4 1 0 0x00 0 4294967295 1 true false, -- vault_count
  obj 0x4442 0 0 15 1 1 0 0x00 0 255 1 true false, -- vault_last_result
  obj 0x4443 0 0 5 8 1 0 0x00 0 18446744073709551615 1 true false, -- vault_last_bytes
  obj 0x4444 0 0 4 4 1 0 0x00 0 4294967295 1 true false, -- vault_last_ms
  obj 0x4445 0 0 4 4 1 0 0x00 0 4294967295 1 true false, -- vault_last_energy_mj
  obj 0x4446 0 0 13 2 1 0 0x00 0 65535 1 false false] -- vault_image_status

/-- Objects 0x4800 to 0x48FF, part 1. -/
def objects48a : List Obj := [
  obj 0x4800 0 0 15 1 3 0 0x0D 0 1 1 true false, -- error_mode
  obj 0x4801 0 0 5 8 1 0 0x00 0 18446744073709551615 1 false false, -- lpddr6_ce_total
  obj 0x4802 0 0 5 8 1 0 0x00 0 18446744073709551615 1 false false, -- lpddr6_ue_total
  obj 0x4803 0 0 5 8 1 0 0x00 0 18446744073709551615 1 false false, -- sram_ce_total
  obj 0x4804 0 0 5 8 1 0 0x00 0 18446744073709551615 1 false false, -- sram_ue_total
  obj 0x4805 0 0 5 8 1 0 0x00 0 18446744073709551615 1 false false, -- merge_buffer_rmw
  obj 0x4806 0 0 5 8 1 0 0x00 0 18446744073709551615 1 false false, -- merge_buffer_full_stalls
  obj 0x4810 0 63 2 1 1 0 0x00 0 255 1 false false, -- region_bucket
  obj 0x4811 0 63 2 1 2 16 0x0D 1 254 1 true false, -- region_threshold
  obj 0x4812 0 63 2 1 2 1 0x0D 1 16 1 true false, -- region_leak
  obj 0x4813 0 63 5 8 1 0 0x00 0 18446744073709551615 1 false false, -- region_ce_count
  obj 0x4814 0 63 5 8 1 0 0x00 0 18446744073709551615 1 false false, -- region_ue_count
  obj 0x4815 0 63 4 4 1 0 0x00 0 4294967295 1 false false, -- region_reports
  obj 0x4820 0 0 4 4 1 0 0x00 0 4294967295 1 false false, -- retired_pages
  obj 0x4821 0 0 4 4 0 4096 0x00 0 4294967295 1 false false, -- retired_pages_max
  obj 0x4822 0 0 13 32768 1 0 0x00 0 0 1 false false, -- retired_page_list
  obj 0x4823 0 0 3 2 2 3 0x0D 2 64 1 true false, -- retire_ce_laps
  obj 0x4824 0 0 4 4 2 1024 0x0D 16 1048576 1 true false, -- retire_window_laps
  obj 0x4830 0 0 4 4 1 0 0x00 0 4294967295 1 false false, -- sram_spares_used
  obj 0x4831 0 0 3 2 1 0 0x00 0 65535 1 false false, -- softfuse_entries
  obj 0x4832 0 0 3 2 0 256 0x00 0 65535 1 false false, -- softfuse_entries_max
  obj 0x4833 0 0 3 2 1 0 0x00 0 65535 1 false false, -- softfuse_pending
  obj 0x4834 0 0 4 4 1 0 0x00 0 4294967295 1 false false, -- sram_hard_unrepaired
  obj 0x4835 0 0 4 4 1 0 0x00 0 4294967295 1 false false] -- stride_slices_withdrawn

/-- Objects 0x4800 to 0x48FF, part 2. -/
def objects48b : List Obj := [
  obj 0x4840 0 0 13 24 4 0 0x0D 0 0 1 false false, -- scrub_start
  obj 0x4841 0 0 15 1 1 0 0x00 0 255 1 false false, -- scrub_state
  obj 0x4842 0 0 13 64 1 0 0x00 0 0 1 false false, -- scrub_summary
  obj 0x4843 0 0 2 1 4 0 0x0D 0 255 1 false false, -- scrub_cancel
  obj 0x4848 0 0 3 2 2 8 0x0D 0 168 1 true false, -- patrol_hours
  obj 0x4849 0 0 4 4 1 0 0x00 0 4294967295 1 false false, -- patrol_passes
  obj 0x484A 0 0 5 8 1 0 0x00 0 18446744073709551615 1 false false] -- patrol_position

/-- Objects 0x4C00 to 0x4CFF. -/
def objects4C : List Obj := [
  obj 0x4C00 0 0 3 2 1 0 0x00 0 65535 1 false false, -- faults_pending
  obj 0x4C01 0 0 13 128 1 0 0x00 0 0 1 false false, -- fault_pending_bitmap
  obj 0x4C02 0 0 4 4 1 0 0x00 0 4294967295 1 false false, -- fault_occurrences
  obj 0x4C03 0 0 4 4 1 0 0x00 0 4294967295 1 true false, -- faults_escalated
  obj 0x4C10 0 0 3 2 2 64 0x0D 16 4096 1 true false, -- handling_strides
  obj 0x4C11 0 0 4 4 4 0 0x0D 0 4294967295 1 false false, -- fault_clear
  obj 0x4C20 0 0 13 1024 1 0 0x00 0 0 1 false false, -- fault_history
  obj 0x4C21 0 255 13 16 1 0 0x00 0 0 1 false false, -- source_pending
  obj 0x4C22 0 255 13 16 1 0 0x00 0 0 1 false false, -- source_pending
  obj 0x4C23 0 255 13 16 1 0 0x00 0 0 1 false false, -- source_pending
  obj 0x4C24 0 255 13 16 1 0 0x00 0 0 1 false false, -- source_pending
  obj 0x4C30 0 0 1 1 1 0 0x00 0 1 1 false false, -- safe_state
  obj 0x4C31 0 0 13 32 1 0 0x00 0 0 1 true false, -- safe_cause
  obj 0x4C32 0 0 4 4 1 0 0x00 0 4294967295 1 true false, -- safe_entries
  obj 0x4C33 0 0 15 1 1 0 0x00 0 255 1 false false, -- safe_vault_result
  obj 0x4C34 0 0 1 1 1 1 0x00 0 1 1 false false, -- fault_n_level
  obj 0x4C35 0 0 4 4 1 0 0x00 0 4294967295 1 true false, -- lockstep_restarts
  obj 0x4C40 0 255 2 1 4 0 0x15 0 255 1 false false, -- fault_force
  obj 0x4C41 0 255 2 1 4 0 0x15 0 255 1 false false, -- fault_force
  obj 0x4C42 0 255 2 1 4 0 0x15 0 255 1 false false, -- fault_force
  obj 0x4C43 0 255 2 1 4 0 0x15 0 255 1 false false] -- fault_force

/-- Objects 0x5000 to 0x50FF. -/
def objects50 : List Obj := [
  obj 0x5000 0 0 5 8 1 0 0x00 0 18446744073709551615 1 false false, -- recorder_records
  obj 0x5001 0 0 11 8 1 0 0x00 0 18446744073709551615 1 false false, -- recorder_oldest_seq
  obj 0x5002 0 0 11 8 1 0 0x00 0 18446744073709551615 1 false false, -- recorder_newest_seq
  obj 0x5003 0 0 3 2 1 0 0x00 0 65535 1 false false, -- recorder_permanent_count
  obj 0x5004 0 0 5 8 1 0 0x00 0 18446744073709551615 1 false false, -- recorder_suppressed
  obj 0x5005 0 0 4 4 1 0 0x00 0 4294967295 1 false false, -- recorder_crc_drops
  obj 0x5006 0 0 4 4 1 0 0x00 0 4294967295 1 true false, -- recorder_start_count
  obj 0x5007 0 0 11 8 1 0 0x00 0 18446744073709551615 1 false false, -- recorder_flushed_seq
  obj 0x5008 0 0 4 4 1 0 0x00 0 4294967295 1 false false, -- recorder_flush_failures
  obj 0x5010 0 0 13 65536 1 0 0x00 0 0 1 false false, -- recorder_permanent
  obj 0x5011 0 0 13 524288 1 0 0x00 0 0 1 false false, -- recorder_circulating
  obj 0x5016 0 0 4 4 2 0 0x0D 0 4294967295 1 false false, -- prior_start_select
  obj 0x5017 0 0 13 65536 1 0 0x00 0 0 1 false false, -- prior_start_area
  obj 0x5020 0 12 3 2 2 16 0x0D 0 1024 1 true false, -- class_rate_limit
  obj 0x5030 0 12 13 24 2 0 0x0D 0 0 1 true false, -- class_snapshot
  obj 0x5040 0 0 2 1 4 0 0x0D 0 255 1 false false] -- recorder_flush

/-- Objects 0x5400 to 0x54FF. -/
def objects54 : List Obj := [
  obj 0x5400 0 0 15 1 1 0 0x00 0 255 1 false false, -- start_phase
  obj 0x5401 0 0 15 1 1 0 0x00 0 255 1 true false, -- last_reset_cause
  obj 0x5402 0 6 4 4 1 0 0x00 0 4294967295 1 true false, -- reset_count
  obj 0x5403 0 0 4 4 1 0 0x00 0 4294967295 1 false false, -- ready_host_ms
  obj 0x5404 0 0 4 4 1 0 0x00 0 4294967295 1 false false, -- replay_done_ms
  obj 0x5405 0 0 3 2 1 1 0x00 0 65535 1 false false, -- ready_estimate_laps
  obj 0x5406 0 0 4 4 2 30000 0x0D 5000 120000 1 true false, -- member_wait_ms
  obj 0x5410 0 1 13 32 1 0 0x00 0 0 1 false false, -- boot_image_info
  obj 0x5411 0 0 15 1 2 0 0x0D 0 2 1 true false, -- boot_preferred
  obj 0x5412 0 0 4 4 1 0 0x00 0 4294967295 1 false false, -- security_version
  obj 0x5420 0 0 13 4096 4 0 0x11 0 0 1 false false, -- image_chunk
  obj 0x5421 0 0 2 1 4 0 0x11 0 255 1 false false, -- image_commit
  obj 0x5430 0 0 4 4 4 0 0x15 0 4294967295 1 false false] -- unit_reset

/-- The whole object directory, in ascending index order (R340). -/
def objectDirectory : List Obj :=
  objects10 ++ objects11 ++ objects12 ++ objects18a ++ objects18b ++ objects1A ++ objects1B ++ objects20 ++ objects24a ++ objects24b ++ objects28a ++ objects28b ++ objects2Ca ++ objects2Cb ++ objects30 ++ objects34a ++ objects34b ++ objects38a ++ objects38b ++ objects3Ca ++ objects3Cb ++ objects40a ++ objects40b ++ objects44a ++ objects44b ++ objects48a ++ objects48b ++ objects4C ++ objects50 ++ objects54

/-- The directory row of an index. -/
def findObj (index : Nat) : Option Obj := objectDirectory.find? (fun o => decide (o.index = index))

/-- The key of an object's stored value. -/
def objKey (index sub : Nat) : Nat := index * 256 + sub

/-- A pack band record (Table 13.7) over the reference OCV (Table 13.8). -/
def packBand (temp rs rp tau : Nat) : Bytes :=
  leBytes 2 temp ++ leBytes 2 rs ++ leBytes 2 rp ++ leBytes 2 tau ++
  ([6000, 6600, 6900, 7060, 7160, 7240, 7300, 7360, 7420, 7480, 7540, 7600, 7680, 7760, 7840, 7920, 8000, 8080, 8160,
    8260, 8400].map (leBytes 2)).flatten ++ List.replicate 14 0

/-- The reference pack's descriptor (Tables 13.6 to 13.8). -/
def referencePack : Bytes :=
  fit 64 (leBytes 4 1080000 ++ leBytes 1 2 ++ leBytes 2 6200 ++ leBytes 2 8400 ++ leBytes 2 150 ++ leBytes 2 200 ++
    leBytes 2 920 ++ leBytes 1 0 ++ leBytes 1 45 ++ leBytes 1 (twos 8 (-20)) ++ leBytes 1 60) ++
  packBand 0 1200 600 30 ++ packBand 10 850 420 25 ++ packBand 25 600 300 20 ++ packBand 40 500 250 18

/-- Default shares of the classes (Table 2.3, Tables 5.10 and 6.12). -/
def defaultShare : Nat → Nat
  | 0 => 16
  | 1 => 96
  | 2 => 16
  | 3 => 8
  | 4 => 48
  | 5 => 32
  | 6 => 16
  | _ => 8

/-- The default of a stored value. -/
def objDefault (c : Chip) (index sub : Nat) : Nat :=
  if index = 0x1240 then defaultShare sub
  else if index = 0x4011 then c.straps.nodeId + 1
  else if index = 0x5020 then (if 1 ≤ sub ∧ sub ≤ 3 then 0 else 16)
  else if index = 0x2800 then min (Config.lpddrBytes / 4 / 4096 * 4096) (96 * 2 ^ 30)
  else match findObj index with
    | some o => o.dflt
    | none => 0

/-- The default of a stored value longer than 8 bytes, or a byte string. -/
def octetDefault (index : Nat) : Bytes :=
  if index = 0x4430 then referencePack
  else if index = 0x4001 then leBytes 1 2 ++ leBytes 5 Config.unitSerial
  else match findObj index with
    | some o => List.replicate o.len 0
    | none => []

/-- A stored value of at most 8 bytes. -/
def Chip.val (c : Chip) (index : Nat) (sub : Nat := 0) : Nat :=
  match c.dict.values.find (objKey index sub) with
  | some v => v
  | none => objDefault c index sub

/-- A stored byte string. -/
def Chip.octets (c : Chip) (index : Nat) (sub : Nat := 0) : Bytes :=
  match c.dict.octets.find (objKey index sub) with
  | some v => v
  | none => octetDefault index

/-- Store a value. -/
def Chip.setVal (c : Chip) (index sub v : Nat) : Chip :=
  { c with dict := { c.dict with values := c.dict.values.put (objKey index sub) v } }

/-- Store a byte string. -/
def Chip.setOctets (c : Chip) (index sub : Nat) (v : Bytes) : Chip :=
  { c with dict := { c.dict with octets := c.dict.octets.put (objKey index sub) v } }

/-- Add to a counter, which wraps at its object's width. [DEDUCED, notes/assumptions/11.md] -/
def Chip.bump (c : Chip) (index : Nat) (sub : Nat := 0) (n : Nat := 1) : Chip :=
  let w := match findObj index with
    | some o => o.len
    | none => 8
  c.setVal index sub ((c.val index sub + n) % 256 ^ w)

/-- Slots of the arrangement in force (R242): 48 or 24. -/
def Chip.slots (c : Chip) : Nat := if c.val 0x3400 = 1 then 24 else 48

/-- Whether an index has a subindex (R328). -/
def Chip.hasSub (c : Chip) (o : Obj) (sub : Nat) : Bool :=
  decide (o.first ≤ sub) && decide (sub ≤ if o.last = 1000 then c.slots - 1 else o.last)

/-- The object at an address, if it is present. -/
def Chip.object (c : Chip) (index sub : Nat) : Option Obj :=
  match findObj index with
  | some o => if c.hasSub o sub then some o else none
  | none => none

/-- The rights mask in force (R337, R338). -/
def Chip.rightsOf (c : Chip) (o : Obj) : Nat := c.dict.rights.getD o.index o.rights

end Sys2Proof.Machine
end

