-- ==== Sys2Proof/Machine/Placement.lean ====
section
/-! DEFINITION. The placement table (R51), placement after replacements (R53, R56) and the translation of host blocks of a
fixed piste (R55). -/

namespace Sys2Proof.Machine

/-- 2^64. -/
def w64 : Nat := 2 ^ 64

/-- One draw of R51: the next generator state and the value. -/
def rngNext (st : Nat) : Nat × Nat :=
  let st := (st + 0x9E3779B97F4A7C15) % w64
  let z := (st ^^^ (st / 2 ^ 30)) * 0xBF58476D1CE4E5B9 % w64
  let z := (z ^^^ (z / 2 ^ 27)) * 0x94D049BB133111EB % w64
  (st, z ^^^ (z / 2 ^ 31))

/-- Exchange two places of a list. -/
def swapAt (l : List Nat) (i j : Nat) : List Nat :=
  let a := atD l i 0
  let b := atD l j 0
  setAt (setAt l i b) j a

/-- The swaps for i = `i` down to 1. -/
def shuffleFrom : Nat → Nat × List Nat → Nat × List Nat
  | 0, p => p
  | i + 1, (st, l) =>
    let r := rngNext st
    shuffleFrom i (r.1, swapAt l (i + 1) (r.2 % (i + 2)))

/-- The generator state and permutation after block `blk` has been drawn. -/
def sigmaAt (seed n : Nat) : Nat → Nat × List Nat
  | 0 => shuffleFrom (n - 1) ((seed ^^^ n) % w64, List.range n)
  | blk + 1 => shuffleFrom (n - 1) ((sigmaAt seed n blk).1, List.range n)

/-- A row of the placement table, 0 to 4,095 (R51). -/
def tableRow (seed n row : Nat) : List Nat :=
  let s := (sigmaAt seed n (row / n)).2
  (List.range n).map (fun c => atD s ((c + row % n) % n) 0)

/-- Stripes per row (Table 3.1). -/
def stripesPerRow (n f k : Nat) : Nat := (n - f) / (k + 2)

/-- Blocks per strip (Table 3.2). -/
def stripBlocks (code : Nat) : Nat := 4 ^ (code + 1)

def Geometry.m (g : Geometry) : Nat := stripesPerRow g.n g.f g.k
def Geometry.b (g : Geometry) : Nat := stripBlocks g.stripCode
/-- Data blocks per stripe: d of R55. -/
def Geometry.d (g : Geometry) : Nat := g.k * g.b
/-- Host capacity of a fixed piste (R63). -/
def Geometry.capacity (g : Geometry) : Nat := g.rows * g.m * g.d

/-- The lowest spare column that is free and whose member is not in the list so far (R56). -/
def freeSpare (row : List Nat) (taken eSoFar : List Nat) : List Nat → Option Nat
  | [] => none
  | sp :: r =>
    if sp ∉ taken ∧ atD row sp 0 ∉ eSoFar then some sp else freeSpare row taken eSoFar r

/-- One replacement of R56 over the stripe columns: where each column is and which columns are taken. -/
def placeOne (row : List Nat) (cols n : Nat) (eSoFar : List Nat) (e : Nat)
    (st : List (Option Nat) × List Nat) : List (Option Nat) × List Nat :=
  (List.range cols).foldl (fun st x =>
    match atD st.1 x none with
    | none => st
    | some l =>
      if atD row l 0 = e then
        match freeSpare row st.2 eSoFar ((List.range n).drop cols) with
        | none => (setAt st.1 x none, st.2)
        | some sp => (setAt st.1 x (some sp), st.2 ++ [sp])
      else st) st

/-- The replacements of R56, in order. -/
def placeAll (row : List Nat) (cols n : Nat) : List Nat → List Nat → List (Option Nat) × List Nat →
    List (Option Nat) × List Nat
  | _, [], st => st
  | done, e :: r, st => placeAll row cols n (done ++ [e]) r (placeOne row cols n (done ++ [e]) e st)

/-- The column each stripe column of a row is found at: `none` is UNPLACED (R56). -/
def placeRow (seed : Nat) (g : Geometry) (repl : List Nat) (row : Nat) : List (Option Nat) :=
  let cols := g.m * (g.k + 2)
  (placeAll (tableRow seed g.n (row % 4096)) cols g.n [] repl
    ((List.range cols).map some, List.range cols)).1

/-- place(row, c) of R56: the member-list index that holds column c, `none` for UNPLACED. -/
def place (seed : Nat) (g : Geometry) (repl : List Nat) (row c : Nat) : Option Nat :=
  (atD (placeRow seed g repl row) c none).map (fun l => atD (tableRow seed g.n (row % 4096)) l 0)

/-- Where a stripe lies: its row and its first column (R53). -/
def Geometry.rowOf (g : Geometry) (stripe : Nat) : Nat := stripe / g.m
def Geometry.colOf (g : Geometry) (stripe i : Nat) : Nat := (stripe % g.m) * (g.k + 2) + i

/-- The member-list index that holds column i (0 … k+1) of a stripe. -/
def stripIndex (seed : Nat) (g : Geometry) (repl : List Nat) (stripe i : Nat) : Option Nat :=
  place seed g repl (g.rowOf stripe) (g.colOf stripe i)

/-- The member block of a stripe's strips (R55). -/
def Geometry.stripBlock (g : Geometry) (stripe : Nat) : Nat := g.base + g.rowOf stripe * g.b

/-- Stripe, data strip index and block within the strip of a host block (R55). -/
def Geometry.locate (g : Geometry) (l : Nat) : Nat × Nat × Nat :=
  (l / g.d, (l % g.d) / g.b, l % g.d % g.b)

/-- The host block at a stripe, data strip and block within the strip: the inverse of R55. -/
def Geometry.hostBlock (g : Geometry) (stripe i o : Nat) : Nat := stripe * g.d + i * g.b + o

end Sys2Proof.Machine
end

