-- ==== Sys2Proof/Machine/Views.lean ====
section
/-! DEFINITION. What the state says, read in one step: the parts by their numbers, the quantities the chapters define over
them (dirty bytes, conditions, zone counts), and the value of every object (R332). -/

namespace Sys2Proof.Machine

/-! ### The parts by number -/

def Chip.member (c : Chip) (slot : Nat) : Member := c.members.getD slot Member.reset
def Chip.piste (c : Chip) (p : Nat) : Piste := c.pistes.getD p Piste.reset
def Chip.queue (c : Chip) (q : Nat) : QueuePair := c.cqi.queues.getD q QueuePair.reset
/-- [DEDUCED, notes/assumptions/32.md] -/
def Chip.entry (c : Chip) (slot : Nat) : Entry := c.journal.entries.getD slot Entry.reset
def Chip.handle (c : Chip) (slot : Nat) : Handle := c.cqi.handles.getD slot Handle.reset
def Chip.port (c : Chip) (p : Nat) : Port := c.ring.ports.getD p Port.reset
def Chip.node (c : Chip) (n : Nat) : Node := c.ring.nodes.getD n Node.reset
def Chip.region (c : Chip) (r : Nat) : Region := c.mem.regions.getD r Region.reset
def Chip.engine (c : Chip) (e : Nat) : Engine := c.sched.engines.getD e Engine.reset
def Chip.image (c : Chip) (r : Nat) : VaultImage := c.power.images.getD r VaultImage.reset

def Chip.setMember (c : Chip) (slot : Nat) (m : Member) : Chip := { c with members := c.members.put slot m }
def Chip.setPiste (c : Chip) (p : Nat) (x : Piste) : Chip := { c with pistes := c.pistes.put p x }
def Chip.setQueue (c : Chip) (q : Nat) (x : QueuePair) : Chip :=
  { c with cqi := { c.cqi with queues := c.cqi.queues.put q x } }
def Chip.setEntry (c : Chip) (slot : Nat) (e : Entry) : Chip :=
  { c with journal := { c.journal with entries := c.journal.entries.put slot e } }
def Chip.setHandle (c : Chip) (slot : Nat) (h : Handle) : Chip :=
  { c with cqi := { c.cqi with handles := c.cqi.handles.put slot h } }
def Chip.setPort (c : Chip) (p : Nat) (x : Port) : Chip :=
  { c with ring := { c.ring with ports := c.ring.ports.put p x } }
def Chip.setNode (c : Chip) (n : Nat) (x : Node) : Chip :=
  { c with ring := { c.ring with nodes := c.ring.nodes.put n x } }
def Chip.setRegion (c : Chip) (r : Nat) (x : Region) : Chip :=
  { c with mem := { c.mem with regions := c.mem.regions.put r x } }
def Chip.setImage (c : Chip) (r : Nat) (x : VaultImage) : Chip :=
  { c with power := { c.power with images := c.power.images.put r x } }

def Chip.updMember (c : Chip) (slot : Nat) (f : Member → Member) : Chip := c.setMember slot (f (c.member slot))
def Chip.updPiste (c : Chip) (p : Nat) (f : Piste → Piste) : Chip := c.setPiste p (f (c.piste p))
def Chip.updQueue (c : Chip) (q : Nat) (f : QueuePair → QueuePair) : Chip := c.setQueue q (f (c.queue q))
def Chip.updEntry (c : Chip) (slot : Nat) (f : Entry → Entry) : Chip := c.setEntry slot (f (c.entry slot))
def Chip.updHandle (c : Chip) (slot : Nat) (f : Handle → Handle) : Chip := c.setHandle slot (f (c.handle slot))
def Chip.updPort (c : Chip) (p : Nat) (f : Port → Port) : Chip := c.setPort p (f (c.port p))
def Chip.updNode (c : Chip) (n : Nat) (f : Node → Node) : Chip := c.setNode n (f (c.node n))

/-- A change of the queue interface's part. -/
def Chip.onCqi (c : Chip) (f : Cqi → Cqi) : Chip := { c with cqi := f c.cqi }
/-- A change of the host port's part. -/
def Chip.onHost (c : Chip) (f : HostPort → HostPort) : Chip := { c with host := f c.host }
/-- A change of the pair's part. -/
def Chip.onPair (c : Chip) (f : Pair → Pair) : Chip := { c with pair := f c.pair }
/-- A change of the supply's part. -/
def Chip.onPower (c : Chip) (f : Power → Power) : Chip := { c with power := f c.power }
/-- A change of the ring's part. -/
def Chip.onRing (c : Chip) (f : Ring → Ring) : Chip := { c with ring := f c.ring }
/-- A change of the cache's part. -/
def Chip.onCache (c : Chip) (f : Cache → Cache) : Chip := { c with cache := f c.cache }
/-- A change of the journal's part. -/
def Chip.onJournal (c : Chip) (f : Journal → Journal) : Chip := { c with journal := f c.journal }
/-- A change of the scheduler's part. -/
def Chip.onSched (c : Chip) (f : Scheduler → Scheduler) : Chip := { c with sched := f c.sched }
/-- A change of the start's part. -/
def Chip.onStart (c : Chip) (f : Start → Start) : Chip := { c with start := f c.start }
/-- A change of the memory integrity part. -/
def Chip.onMem (c : Chip) (f : Mem → Mem) : Chip := { c with mem := f c.mem }
/-- A change of the collector's part. -/
def Chip.onFaults (c : Chip) (f : Faults → Faults) : Chip := { c with faults := f c.faults }
/-- A change of the recorder's part. -/
def Chip.onRec (c : Chip) (f : Recorder → Recorder) : Chip := { c with recorder := f c.recorder }
/-- A change of the network's part. -/
def Chip.onAdp (c : Chip) (f : Adp → Adp) : Chip := { c with adp := f c.adp }
/-- A change of the dictionary's part. -/
def Chip.onDict (c : Chip) (f : Dict → Dict) : Chip := { c with dict := f c.dict }

/-- Something leaves the chip. [DESIGN CHOICE, notes/assumptions/5.md; DEDUCED, notes/assumptions/68.md] -/
def Chip.emit (c : Chip) (o : Output) : Chip := { c with out := c.out ++ [o] }

/-- Draw a free value's number. [DESIGN CHOICE, notes/assumptions/5.md] -/
def Chip.drawn (c : Chip) : Nat × Chip := (c.draws, { c with draws := c.draws + 1 })

/-- Do a thing where a condition holds. -/
def Chip.when (c : Chip) (b : Bool) (f : Chip → Chip) : Chip := if b then f c else c

/-- Do a thing for each member of a list. -/
def Chip.each {α : Type} (c : Chip) (l : List α) (f : Chip → α → Chip) : Chip := l.foldl f c

/-! ### Time -/

/-- Milliseconds of operation: bits 79:32 of the STAMP. -/
def Chip.nowMs (c : Chip) : Nat := c.clk.opNs / 1000000
/-- A STAMP (Table 12.2). -/
def stampBytes (cycles ms : Nat) : Bytes := leBytes 4 cycles ++ leBytes 6 ms
/-- The lap number (R34). [DEDUCED, notes/assumptions/14.md] -/
def Chip.lapNumber (c : Chip) : Nat := c.clk.stride / 256
/-- The unit's own count of strides and laps, which a replaced stride number does not move (R37).
[DESIGN CHOICE, notes/assumptions/13.md; DEDUCED, notes/assumptions/14.md] -/
def Chip.ownStride (c : Chip) : Nat := ((c.clk.stride : Int) - c.clk.shift).toNat
/-- [DESIGN CHOICE, notes/assumptions/13.md; DEDUCED, notes/assumptions/14.md] -/
def Chip.lap (c : Chip) : Nat := c.ownStride / 256
/-- Whether a time that began at `since` has run `ms` milliseconds. [DESIGN CHOICE, notes/assumptions/13.md] -/
def Chip.elapsedMs (c : Chip) (since ms : Nat) : Bool := decide (since + ms * 1000000 ≤ c.clk.opNs)
/-- Nanoseconds of a lap at the stride in force. [DESIGN CHOICE, notes/assumptions/13.md] -/
def Chip.lapNs (c : Chip) : Nat := 256 * c.clk.ticks

/-! ### Codes of the encodings -/

def SyncState.code : SyncState → Nat
  | .free => 0 | .acquiring => 1 | .locked => 2 | .holdover => 3
def MemberState.code : MemberState → Nat
  | .inService => 0 | .failed => 1 | .resyncing => 2 | .rebuilding => 3 | .rebuilt => 4 | .draining => 5 | .copyback => 6
/-- Every strip of the member is to be, or has been, rebuilt elsewhere: no lane goes to it (R100, Table 6.2). -/
def MemberState.away (t : MemberState) : Bool := t = .rebuilding || t = .rebuilt
def SlotState.code : SlotState → Nat
  | .empty => 0 | .debounce => 1 | .powering => 2 | .training => 3 | .ready => 4 | .inUse => 5 | .held => 6
  | .unusable => 7 | .removalPending => 8 | .quiescing => 9 | .safeToRemove => 10 | .powerFault => 11 | .disabled => 12
  | .contained => 13
def PisteState.code : PisteState → Nat
  | .absent => 0 | .creating => 1 | .stopped => 2 | .online => 3 | .stopping => 4 | .deleting => 5
def EntryState.code : EntryState → Nat
  | .free => 0 | .open_ => 1 | .dataDurable => 2 | .parityDurable => 3 | .committed => 4
def Role.code : Role → Nat
  | .alone => 0 | .active => 1 | .standby => 2 | .fenced => 3
def Supply.code : Supply → Nat
  | .normal => 0 | .brace => 1 | .vault => 2 | .watch => 3 | .down => 4 | .exposed => 5
def dmaSource : DmaChannel → Nat
  | .host => 0x70 | .member s => 0x71 + s | .utofer p => 0xA1 + p | .vault => 0xA4

/-! ### Cache -/

/-- The key of a host block in the cache. -/
def blockKey (piste block : Nat) : Nat := piste * 2 ^ 64 + block

def Chip.versions (c : Chip) (piste block : Nat) : List Version := c.cache.blocks.getD (blockKey piste block) []

/-- Whether a version counts as dirty bytes (R70). -/
def Version.isDirty (v : Version) : Bool := v.state = .dirty || v.state = .frozen

/-- Bytes the gate has admitted for commands not yet completed (R70). -/
def Chip.reserved (c : Chip) : Nat := sumOf c.cqi.cmds (fun x => x.newBytes)

/-- Map pages of a piste that count as dirty bytes: dirty, or counted for an admitted write (R126). -/
def Piste.dirtyPages (x : Piste) : Nat :=
  countOf x.pages.vals (fun g => g.dirty || g.reserved) + sumOf x.rebuild.slots (fun r => r.unwritten.length)

/-- Dirty bytes (R70, R126). -/
def Chip.dirtyBytes (c : Chip) : Nat :=
  4096 * sumOf c.cache.blocks (fun p => countOf p.2 Version.isDirty) + c.reserved +
    4096 * sumOf c.pistes.vals Piste.dirtyPages

/-- Dirty bytes of one piste. -/
def Chip.pisteDirty (c : Chip) (p : Nat) : Nat :=
  4096 * sumOf (c.cache.blocks.filter (fun x => decide (x.1 / 2 ^ 64 = p))) (fun x => countOf x.2 Version.isDirty) +
    sumOf (c.cqi.cmds.filter (fun x => decide (x.piste = p))) (fun x => x.newBytes) + 4096 * (c.piste p).dirtyPages

/-- The supply states in which the unit runs on its pack (Table 13.2). -/
def Chip.onBackup (c : Chip) : Bool := c.power.supply = .vault || c.power.supply = .watch || c.power.supply = .down

/-- The rules of BRACE are in force (R361, R363). [DEDUCED, notes/assumptions/75.md] -/
def Chip.braced (c : Chip) : Bool := c.power.supply = .brace || c.power.supply = .exposed

/-- Vault drives: slots 46 and 47, or 22 and 23 (R250). -/
def Chip.vaultSlots (c : Chip) : List Nat := if c.slots = 48 then [46, 47] else [22, 23]

/-- A vault drive is in service (R251); on a unit that takes no outcomes it waits in READY (R267). [DEDUCED, notes/assumptions/77.md] -/
def Chip.vaultDriveUp (c : Chip) (t : Nat) : Bool :=
  ((c.member t).slot = .inUse || (!(c.pair.role = .alone || c.pair.role = .active) && (c.member t).slot = .ready)) && ((c.member t).mstate = .inService || (c.member t).mstate = .resyncing)

/-- The vault drives in service, the first first. -/
def Chip.vaultUp (c : Chip) : List Nat := c.vaultSlots.filter c.vaultDriveUp

/-- rate_v of R80 in MB/s: halved while exactly one vault drive is in service (R251). -/
def Chip.rateV (c : Chip) : Nat :=
  min (c.val 0x2416) (c.val 0x2417) / (if c.vaultUp.length = 1 then 2 else 1)

/-- e_byte of R80 in pJ, rounded up: mW over MB/s is nJ per byte. [DEDUCED, notes/assumptions/74.md] -/
def Chip.eByte (c : Chip) : Nat :=
  ceilDiv ((c.val 0x2414 + c.val 0x2415) * 1000 * (if c.vaultUp.length = 1 then 2 else 1)) (max 1 (min (c.val 0x2416) (c.val 0x2417)))

/-! ### Pistes and members -/

/-- A node ID this unit has, or serves for its partner (R318). -/
def Chip.ownNode (c : Chip) (n : Nat) : Bool := decide (n = c.straps.nodeId) || c.ring.aliases.any (fun a => decide (a.1 = n))

/-- A node whose members can be reached: itself, or the unit that claims it, is a member of the ring (R61, R318). -/
def Chip.reachable (c : Chip) (n : Nat) : Bool :=
  c.ownNode n || decide (n ∈ c.ring.members) ||
    (match c.ring.claims.find n with | some k => decide (k.1 ∈ c.ring.members) | none => false)

/-- The slots of a piste's members on this unit. -/
def Chip.localSlots (c : Chip) (x : Piste) : List Nat :=
  (x.list.filter (fun e => c.ownNode e.2)).map Prod.fst

/-- Whether a member-list index names a member of this unit, and which slot. -/
def Chip.localSlot (c : Chip) (x : Piste) (i : Nat) : Option Nat :=
  let e := atD x.list i (0, 255)
  if c.ownNode e.2 then some e.1 else none

/-- The rebuild slot of a member-list index. -/
def Piste.slotOf (x : Piste) (i : Nat) : Option RebuildSlot := x.rebuild.slots.find? (fun r => decide (r.index = i))

/-- Whether a member is failed or not yet rebuilt for a piste (Table 3.10, bit 0). -/
def Chip.degradedIndex (c : Chip) (x : Piste) (i : Nat) : Bool :=
  match c.localSlot x i with
  | none => false
  | some s =>
    let m := c.member s
    (m.mstate = .failed || m.mstate = .resyncing || m.mstate = .rebuilding) &&
      (match x.slotOf i with
       | some r => decide (r.state ≠ 3)
       | none => true)

def Chip.degraded (c : Chip) (x : Piste) : Bool := (List.range x.list.length).any (c.degradedIndex x)

/-- A member is unknown as Table 9.11, check 2, defines it: FAILED, RESYNCING or contained. -/
def Member.unknown (m : Member) : Bool := m.mstate = .failed || m.mstate = .resyncing || m.slot = .contained

/-- A member-list index is unknown (Table 9.11, check 2): its member is, it is in E with a slot not DONE, or it is on an
unreachable unit. -/
def Chip.unknownIndex (c : Chip) (x : Piste) (i : Nat) : Bool :=
  (match c.localSlot x i with
   | some s => (c.member s).unknown
   | none => !c.reachable (atD x.list i (0, 255)).2) ||
  (match x.slotOf i with
   | some r => decide (r.state ≠ 3)
   | none => false)

/-- Bits of `0x3001.sub piste_conditions` (Table 3.10). -/
def Chip.conditions (c : Chip) (p : Nat) : Nat :=
  let x := c.piste p
  let bit := fun (b : Bool) (i : Nat) => if b then 2 ^ i else 0
  bit (c.degraded x) 0 +
  bit (x.rebuild.slots.any (fun r => r.state = 1 || r.state = 2) ||
    (c.localSlots x).any (fun s => decide ((c.member s).mstate = .resyncing))) 1 +
  bit (decide (x.fall.state ≠ 0)) 2 +
  bit (c.cache.lostStripes.any (fun l => decide (l.piste = p))) 3 +
  bit x.fellBack 4 +
  bit (decide (x.space = 2)) 5 +
  bit (decide (x.space = 3)) 6 +
  bit x.spanning 7 +
  bit x.unitMissing 8

/-- Number of pistes not ABSENT. -/
def Chip.livePistes (c : Chip) : List (Nat × Piste) := c.pistes.filter (fun p => decide (p.2.state ≠ .absent))

/-- Piste-list entries as 16-bit words (Table 3.5). [DESIGN CHOICE, notes/assumptions/20.md] -/
def listBytes (l : List (Nat × Nat)) : Bytes := (l.map (fun e => leBytes 2 (e.1 + e.2 * 256))).flatten

/-- CRC-32C of a record whose check stands at an offset, read as zero there. [DESIGN CHOICE, notes/assumptions/63.md] -/
def sealRecord (off : Nat) (b : Bytes) : Bytes := patch b off (leBytes 4 (crc32c (patch b off (leBytes 4 0))))

/-- Rebuild record (Table 6.3). The table has no place for a copy-back mark (R162): a slot's mark is that of its rebuild, and the
copy-back mark is kept beside the record. [DESIGN CHOICE, notes/assumptions/107.md] -/
def RebuildRecord.bytes (r : RebuildRecord) : Bytes :=
  if r.generation = 0 ∧ r.slots = [] then List.replicate 384 0 else
  sealRecord 60 (fit 384 (
    leBytes 8 r.generation ++ leBytes 8 r.checkpointStride ++ leBytes 1 r.slots.length ++ leBytes 1 r.items.length ++
    List.replicate 46 0 ++
    fit 256 ((r.slots.map (fun s =>
      leBytes 2 s.index ++ leBytes 1 s.state ++ leBytes 5 (if s.drain then 1 else 0) ++ leBytes 8 s.start ++
      leBytes 8 s.mark ++ leBytes 8 s.base)).flatten) ++
    fit 64 ((r.items.map (fun i => leBytes 2 i.peerA ++ leBytes 6 i.peerB ++ leBytes 8 i.mark)).flatten)))

/-- Fall-line record (Table 6.10). -/
def FallLine.bytes (f : FallLine) : Bytes :=
  if f.state = 0 then List.replicate 64 0 else
  sealRecord 56 (fit 64 (
    leBytes 1 f.state ++ leBytes 1 f.old.k ++ leBytes 1 f.new.k ++ leBytes 1 (f.old.stripCode + 16 * f.new.stripCode) ++
    leBytes 2 f.old.n ++ leBytes 2 f.new.n ++ leBytes 8 (f.old.zoneParity + 4 * f.new.zoneParity + 16 * f.new.f) ++
    leBytes 8 f.position ++ leBytes 8 f.new.base ++ leBytes 8 f.qSwitch ++ leBytes 8 f.generation ++
    leBytes 8 f.checkpointStride))

/-- Lost-stripe entry (Table 6.5). -/
def LostStripe.bytes (l : LostStripe) : Bytes :=
  leBytes 1 l.piste ++ leBytes 3 (l.cause + (if l.groomed then 16 else 0) + (if l.newGeom then 32 else 0)) ++
  leBytes 4 l.columns ++ leBytes 8 l.stripe ++ leBytes 2 l.first ++ leBytes 2 l.count ++ leBytes 4 l.deferred ++
  leBytes 8 l.seq

/-- Member label (Table 9.3); all zero where the drive has none. -/
def Label.bytes (l : Label) : Bytes :=
  if l.generation = 0 then List.replicate 128 0 else
  sealRecord 80 (fit 128 (
    leBytes 8 0x48964D454D424C01 ++ leBytes 2 1 ++ leBytes 1 l.pool ++ leBytes 1 (if l.vault then 1 else 0) ++
    leBytes 8 l.owner ++ leBytes 8 l.uid ++ leBytes 1 l.slot ++ leBytes 1 l.node ++ leBytes 2 0 ++
    leBytes 8 l.generation ++ leBytes 8 l.nqnCheck ++ leBytes 16 l.nguidConventional ++ leBytes 16 l.nguidZoned))

/-- The geometry of a piste as a directory copy carries it. [DESIGN CHOICE, notes/assumptions/89.md] -/
def Geometry.bytes (g : Geometry) : Bytes :=
  leBytes 1 g.k ++ leBytes 1 g.stripCode ++ leBytes 2 g.n ++ leBytes 1 g.f ++ leBytes 1 g.zoneParity ++ leBytes 2 0 ++
  leBytes 8 g.base ++ leBytes 8 g.rows

/-- A fixed piste as it is once its reshape has ended (R175). -/
def Piste.reshaped (x : Piste) : Piste :=
  { x with geom := x.fall.new, list := x.fall.newList, capacity := x.fall.capacity, fall := FallLine.reset }

/-- What a copy of the directory says of a piste; in FINISHING it has received the new geometry (R175). -/
def DirPiste.of (y : Piste) : DirPiste :=
  let x := if y.fall.finish = 0 then y else y.reshaped
  { state := x.state, groomed := x.groomed, uid := x.uid, name := x.newName.getD x.name, granuleCode := x.granuleCode, geom := x.geom
    seed := x.seed, capacity := x.capacity, list := x.list, home := x.home, spanning := x.spanning, offer := x.offer, mapBase := x.mapBase
    mapGeom := x.mapGeom, serialBase := x.serialBase, serialBaseOld := x.serialBaseOld, rebuild := x.rebuildSaved, fall := x.fall }

/-- Its bytes. [DESIGN CHOICE, notes/assumptions/89.md] -/
def DirPiste.bytes (p : Nat) (x : DirPiste) : Bytes :=
  leBytes 1 p ++ leBytes 1 x.state.code ++
  leBytes 1 (if x.groomed then 1 else 0) ++ leBytes 1 (if x.spanning then 1 else 0) ++ leBytes 1 x.granuleCode ++ leBytes 3 x.home ++
  leBytes 8 x.uid ++ leBytes 8 x.seed ++ leBytes 8 x.capacity ++ leBytes 8 x.mapBase ++ x.geom.bytes ++ x.mapGeom.bytes ++ fit 32 x.name ++
  x.rebuild.bytes ++ x.fall.bytes ++ listBytes x.list

/-- The contents of the directory now (R68). -/
def Chip.directoryNow (c : Chip) : DirImage :=
  { pistes := (c.pistes.filter (fun p => decide (p.2.state ≠ .absent))).map (fun p => (p.1, DirPiste.of p.2))
    members := c.members.map (fun m => (m.1, { mstate := m.2.mstate, cause := m.2.cause, failNs := m.2.failNs, failCycles := m.2.failCycles })) }

def DirImage.bytes (d : DirImage) : Bytes :=
  (d.pistes.map (fun p => p.2.bytes p.1)).flatten ++
  (d.members.map (fun m => leBytes 1 m.1 ++ leBytes 1 m.2.mstate.code ++ leBytes 6 m.2.cause ++ leBytes 8 (m.2.failNs.getD 0) ++
    leBytes 8 m.2.failCycles)).flatten

/-! ### Zones and the map -/

def Member.zone (m : Member) (z : Nat) : Zone := m.zones.getD z Zone.reset
def Member.zoneCount (m : Member) : Nat := match m.report with | some r => r.zoneCount | none => 0
def Member.zonesOffline (m : Member) : Nat := countOf m.zones.vals (fun z => z.zstate = 3)
def Member.zonesEmpty (m : Member) : Nat := m.zoneCount - countOf m.zones.vals (fun z => z.zstate ≠ 0)
/-- Lowest reset_count, unlisted zones counting as 0. -/
def Member.resetMin (m : Member) : Nat :=
  if m.zones.length < m.zoneCount then 0 else minOf (m.zones.vals.map (fun z => z.resetCount)) 0
def Member.resetMax (m : Member) : Nat := maxOf (m.zones.vals.map (fun z => z.resetCount))
/-- R_e of R113. -/
def Chip.reserveZones (c : Chip) (m : Member) : Nat :=
  ceilDiv ((m.zoneCount - m.zonesOffline) * c.sched.spare) 1000

/-- Blocks per granule. -/
def Piste.gb (x : Piste) : Nat := stripBlocks x.granuleCode
/-- Granules of a piste. -/
def Piste.granules (x : Piste) : Nat := ceilDiv x.capacity x.gb
/-- Map pages of a groomed piste: 512 entries each (R57). -/
def Piste.mapPages (x : Piste) : Nat := ceilDiv x.granules 512

/-- Granules of a piste with a DIRTY or THROUGH version, or queued for GROOM_COPY. -/
def Chip.owedGranules (c : Chip) (p : Nat) (x : Piste) : Nat :=
  let bs := c.cache.blocks.filter (fun b => decide (b.1 / 2 ^ 64 = p) &&
    b.2.any (fun v => v.state = .dirty || v.state = .through))
  ((bs.map (fun b => b.1 % 2 ^ 64 / x.gb)).foldl addNew []).length + x.copyQueue.length

/-- owed_p of R135, in stripes, for `w` more granules. -/
def Chip.owedStripes (c : Chip) (p w : Nat) : Nat :=
  let x := c.piste p
  ceilDiv (c.owedGranules p x + w) (max 1 (x.geom.k * x.geom.b / x.gb))

/-- map_clean_seq (R127): every map change sealed at or before it is written. -/
def Chip.mapCleanSeq (c : Chip) : Nat :=
  let dirty := (c.pistes.vals.map (fun x => (x.pages.vals.filter (fun g => g.dirty)).map (fun g => g.changeSeq))).flatten
  match dirty with
  | [] => c.journal.sealSeq
  | _ => minOf dirty 0 - 1

/-! ### Faults and the recorder -/

def PendingFault.bytes (f : PendingFault) : Bytes :=
  leBytes 8 f.message ++ leBytes 4 f.occurrence ++ leBytes 2 f.left ++ leBytes 2 f.repeats

def HistEntry.bytes (h : HistEntry) : Bytes :=
  leBytes 8 h.message ++ leBytes 4 h.occurrence ++ leBytes 2 h.disposition ++ leBytes 8 h.stride ++
  stampBytes h.cycles h.ms

/-- FAULT_N is driven low (R412). [DEDUCED, notes/assumptions/18.md] -/
def Chip.faultN (c : Chip) : Bool := !c.faults.pending.isEmpty || c.faults.safe || !c.faults.selfCheck

/-- An event record (Table 15.7). -/
def Rec.bytes (r : Rec) : Bytes :=
  let snaps := if r.body.isEmpty then fit 64 ((r.snaps.map (fun s => leBytes 8 s.2)).flatten) else fit 64 r.body
  let sels := fit 24 ((r.snaps.map (fun s => leBytes 2 (s.1 / 256) ++ leBytes 1 (s.1 % 256))).flatten)
  let count := if r.body.isEmpty then r.snaps.length else 8
  sealRecord 119 (fit 128 (
    leBytes 8 r.seq ++ stampBytes r.cycles r.ms ++ leBytes 2 r.code ++ leBytes 2 (min r.suppressed 65535) ++
    leBytes 1 (count % 16 + (if r.only then 16 else 0) + (if r.permanent then 32 else 0)) ++ leBytes 8 r.stride ++
    snaps ++ sels))

/-- A change-log record (Table 12.7). -/
def ChangeRec.bytes (r : ChangeRec) : Bytes :=
  fit 64 (leBytes 8 r.seq ++ stampBytes r.cycles r.ms ++ leBytes 2 r.index ++ leBytes 1 r.sub ++
    leBytes 1 (r.origin % 8 + r.route % 16 * 8 + (if r.secret then 128 else 0)) ++ leBytes 1 r.reason ++
    leBytes 1 r.detail ++ leBytes 8 r.originId ++ leBytes 8 r.old ++ leBytes 8 r.new ++ leBytes 2 r.repeats)

/-! ### The object directory's image (R340) -/

/-- A directory record (Table 12.6). [DESIGN CHOICE, notes/assumptions/63.md; DESIGN CHOICE, notes/assumptions/89.md] -/
def Chip.directoryRecord (c : Chip) (o : Obj) : Bytes :=
  leBytes 2 o.index ++ leBytes 1 o.first ++ leBytes 1 (if o.last = 1000 then c.slots - 1 else o.last) ++ leBytes 1 o.ty ++
  leBytes 1 (o.access + c.rightsOf o % 32 * 8) ++
  leBytes 2 ((if o.persistent then 1 else 0) + (if o.pairWide then 2 else 0) + (if o.secret then 4 else 0)) ++
  leBytes 8 o.len

/-! ### Objects computed from the state -/

/-- Identity objects (Table 12.12); object_count counts the indexes of the object tables, which Table 0.5 and R340 put at about 3,600.
[DEDUCED, notes/assumptions/18.md; DESIGN CHOICE, notes/assumptions/98.md] -/
def Chip.computed10 (c : Chip) (i : Nat) : Option Bytes :=
  if i = 0x1000 then some (fit 16 (ascii [65, 100, 108, 121, 115]))
  else if i = 0x1001 then some (fit 16 (ascii [68, 88, 65, 45, 52, 56, 57, 54]))
  else if i = 0x1003 then some (leBytes 1 Config.orderCode)
  else if i = 0x1004 then some (leBytes 8 Config.unitSerial)
  else if i = 0x1005 then
    some (leBytes 4 (c.start.images.getD c.start.running FlashImage.empty).firmwareVersion)
  else if i = 0x1006 then some (leBytes 1 c.start.running)
  else if i = 0x1007 then some (leBytes 4 Config.bootRomVersion)
  else if i = 0x1008 then some (leBytes 2 objectDirectory.length)
  else if i = 0x1009 then some (leBytes 4 Config.dictionaryVersion)
  else if i = 0x100A then some (leBytes 8 Config.lpddrBytes)
  else if i = 0x100B then some (stampBytes c.clk.cycles c.nowMs)
  else none

/-- Change-log and rights objects (Table 12.13). -/
def Chip.computed11 (c : Chip) (i : Nat) : Option Bytes :=
  if i = 0x1100 then some ((c.dict.log.map ChangeRec.bytes).flatten)
  else if i = 0x1101 then some (leBytes 4 c.dict.log.length)
  else if i = 0x1102 then some (leBytes 8 (match c.dict.log.getLast? with | some r => r.seq | none => 0))
  else if i = 0x1103 then some (leBytes 8 c.dict.commitSeq)
  else if i = 0x1104 then some (leBytes 8 c.dict.refused)
  else if i = 0x1110 then some ((objectDirectory.map c.directoryRecord).flatten)
  else none

/-- Stride-clock objects (Table 2.7). -/
def Chip.computed12 (c : Chip) (i sub : Nat) : Option Bytes :=
  if i = 0x1201 then some (leBytes 4 c.clk.ticks)
  else if i = 0x1202 then some (leBytes 8 c.clk.stride)
  else if i = 0x1203 then some (leBytes 8 c.lapNumber)
  else if i = 0x1204 then some (leBytes 1 (if c.clk.locked then 1 else 0))
  else if i = 0x1210 then some (leBytes 1 c.clk.sync.code)
  else if i = 0x1211 then some (leBytes 4 (twos 32 c.clk.phasePs))
  else if i = 0x1212 then some (leBytes 4 c.clk.phaseMaxLast)
  else if i = 0x1213 then some (leBytes 8 (twos 64 c.clk.offset))
  else if i = 0x1214 then some (leBytes 4 c.clk.missed)
  else if i = 0x1232 then some (leBytes 4 (twos 32 (c.member sub).credit))
  else if i = 0x1240 ∧ sub = 5 then some (leBytes 1 (c.val 0x2C10))
  else if i = 0x1240 ∧ sub = 6 then some (leBytes 1 (c.val 0x2830))
  else if i = 0x1250 then some (leBytes 4 (c.engine sub).clocksLast)
  else none

/-- Host-port objects (Table 8.14). -/
def Chip.computed18 (c : Chip) (i : Nat) : Option Bytes :=
  if i = 0x1800 then some (leBytes 1 c.host.speed)
  else if i = 0x1801 then some (leBytes 1 c.host.width)
  else if i = 0x1802 then some (leBytes 1 (if c.host.flit then 1 else 0))
  else if i = 0x1811 then some (leBytes 2 c.host.reads.length)
  else if i = 0x1812 then some (leBytes 2 c.host.quarantine.length)
  else if i = 0x1824 then some (leBytes 1 c.host.ltrState)
  else none

/-- Accepted commands of a queue not yet completed (R185, R233): those running and those whose completion is held. -/
def Chip.outstandingOf (c : Chip) (q : Nat) : Nat :=
  countOf c.cqi.cmds (fun x => decide (x.queue = q) && !x.dead) +
    countOf c.cqi.held (fun e => decide (e.queue = q) && decide (e.acc ≠ 0) && !e.event)

/-- Queue-interface objects (Table 7.19). -/
def Chip.computed1A (c : Chip) (i sub : Nat) : Option Bytes :=
  if i = 0x1A10 then some (leBytes 8 c.cqi.nextAcc)
  else if i = 0x1A11 then some (leBytes 8 c.cqi.accepted)
  else if i = 0x1A12 then some (leBytes 4 (countOf c.cqi.deferred (fun d => d.pending)))
  else if i = 0x1A13 then some (leBytes 4 (maxOf (c.cqi.deferred.map (fun d => d.number))))
  else if i = 0x1A15 then some (leBytes 2 (countOf c.cqi.handles.vals (fun h => decide (h.value ≠ 0))))
  else if 0x1B00 ≤ i ∧ i ≤ 0x1B03 then some (leBytes 1 (c.queue ((i - 0x1B00) * 256 + sub)).qstate)
  else if 0x1B04 ≤ i ∧ i ≤ 0x1B07 then some (leBytes 8 (c.queue ((i - 0x1B04) * 256 + sub)).accepted)
  else if 0x1B08 ≤ i ∧ i ≤ 0x1B0B then some (leBytes 4 (c.queue ((i - 0x1B08) * 256 + sub)).errors)
  else if 0x1B0C ≤ i ∧ i ≤ 0x1B0F then some (leBytes 2 (c.outstandingOf ((i - 0x1B0C) * 256 + sub)))
  else none

/-- Piste-directory and per-piste objects (Tables 3.8 and 3.9). -/
def Chip.computed20 (c : Chip) (i sub : Nat) : Option Bytes :=
  let x := c.piste sub
  if i = 0x2000 then some (leBytes 2 c.livePistes.length)
  else if i = 0x2002 then some (leBytes 32 (maskOf (c.livePistes.map Prod.fst)))
  else if i = 0x2003 then some (leBytes 8 c.dir.generation)
  else if i = 0x3000 then some (leBytes 1 x.state.code)
  else if i = 0x3001 then some (leBytes 4 (c.conditions sub))
  else if i = 0x3002 then some (leBytes 1 (if x.groomed then 1 else 0))
  else if i = 0x3003 then some (leBytes 8 x.uid)
  else if i = 0x3004 then some (fit 32 x.name)
  else if i = 0x3010 then some (leBytes 1 x.geom.k)
  else if i = 0x3011 then some (leBytes 2 x.list.length)
  else if i = 0x3012 then some (leBytes 1 x.geom.stripCode)
  else if i = 0x3013 then some (leBytes 1 (if x.groomed then x.granuleCode else 0xFF))
  else if i = 0x3014 then some (leBytes 1 (x.geom.n - x.geom.m * (x.geom.k + 2)))
  else if i = 0x3015 then some (leBytes 1 x.geom.m)
  else if i = 0x3016 then some (leBytes 8 x.seed)
  else if i = 0x3017 then some (leBytes 8 (if x.groomed then 0 else x.geom.base))
  else if i = 0x3018 then some (leBytes 8 (if x.groomed then 0 else x.geom.rows))
  else if i = 0x3019 then some (leBytes 8 x.capacity)
  else if i = 0x301A then some (listBytes x.list)
  else if i = 0x301B then some ((x.repl.map (leBytes 2)).flatten)
  else if i = 0x301C then some (leBytes 1 (if x.spanning then x.home else c.straps.nodeId))
  else if i = 0x301D then some (leBytes 8 (if x.groomed then x.nextQ else 0))
  else if i = 0x3030 then some (leBytes 8 x.readBlocks)
  else if i = 0x3031 then some (leBytes 8 x.writeBlocks)
  else none

/-- The partner heartbeat's own ceiling, 0 with no partner. -/
def Chip.partnerOwn (c : Chip) : Nat :=
  if c.val 0x3800 = 1 ∧ c.pair.formed ∧ !c.pair.silent then (match c.pair.lastHb with | some h => h.ownCeiling | none => 0) else 0

/-- The map cache's size, taken from LPDDR6 at the start (R125). -/
def Chip.mapLimit (c : Chip) : Nat := c.cache.mapLimit.getD (c.val 0x2800)

/-- Cache and journal objects (Table 4.9). -/
def Chip.computed24 (c : Chip) (i sub : Nat) : Option Bytes :=
  if i = 0x2400 then
    some (leBytes 8 (Config.lpddrBytes - 16 * 2 ^ 20 - c.mapLimit - Config.deviceAreaBytes))
  else if i = 0x2401 then some (leBytes 8 Config.deviceAreaBytes)
  else if i = 0x2410 then some (leBytes 8 c.cache.ceiling)
  else if i = 0x2411 then some (leBytes 8 c.dirtyBytes)
  else if i = 0x2419 then some (leBytes 8 c.partnerOwn)
  else if i = 0x241A then some (leBytes 4 c.eByte)
  else if i = 0x2426 then some (leBytes 8 (c.pisteDirty sub))
  else if i = 0x2427 then
    some (leBytes 8 (sumOf (c.cache.lostRanges.filter (fun r => decide (r.piste = sub))) (fun r => r.count)))
  else if i = 0x2441 then some (leBytes 4 (countOf c.journal.entries.vals (fun e => decide (e.state ≠ .free))))
  else if i = 0x2442 then some (leBytes 8 c.journal.sealSeq)
  else if i = 0x2443 then some (leBytes 8 (c.piste sub).generation)
  else if i = 0x2470 then
    some ((c.cache.lostRanges.map (fun r => leBytes 4 r.piste ++ leBytes 4 r.count ++ leBytes 8 r.first)).flatten)
  else if i = 0x2471 then some (leBytes 4 c.cache.lostRanges.length)
  else none

/-- Groomed-media objects (Table 5.10). -/
def Chip.computed28 (c : Chip) (i sub : Nat) : Option Bytes :=
  let x := c.piste sub
  let m := c.member sub
  if i = 0x2801 then
    some (leBytes 8 (4096 * sumOf c.pistes.vals (fun x => countOf x.pages.vals (fun g => g.present))))
  else if i = 0x2804 then some (leBytes 8 (sumOf c.pistes.vals (fun x => countOf x.pages.vals (fun g => g.dirty))))
  else if i = 0x2806 then some (leBytes 8 c.mapCleanSeq)
  else if i = 0x2809 then some (leBytes 8 (sumOf c.pistes.vals (fun x => x.censusLeft)))
  else if i = 0x2810 then some (leBytes 8 x.mapBase)
  else if i = 0x2811 then some (leBytes 8 (if x.groomed then x.mapPages else 0))
  else if i = 0x2812 then some (leBytes 1 x.geom.zoneParity)
  else if i = 0x2814 then some (leBytes 8 (sumOf x.liveCount.vals Prod.fst))
  else if i = 0x2820 then some (leBytes 1 x.space)
  else if i = 0x2822 then some (leBytes 8 (if x.groomed then c.owedStripes sub 0 else 0))
  else if i = 0x2835 then some (leBytes 1 (if x.suspended then 3 else x.groomState))
  else if i = 0x2836 then some (leBytes 4 (if x.ratioDen = 0 then 0 else x.ratioNum * 1000 / x.ratioDen))
  else if i = 0x2850 then some (leBytes 4 m.zoneCount)
  else if i = 0x2851 then some (leBytes 4 m.zonesEmpty)
  else if i = 0x2852 then some (leBytes 4 (c.reserveZones m))
  else if i = 0x2853 then some (leBytes 4 m.resetMin)
  else if i = 0x2854 then some (leBytes 4 m.resetMax)
  else if i = 0x2856 then some (leBytes 4 m.zonesOffline)
  else none

/-- Rows or zones a rebuild slot has passed. -/
def RebuildSlot.passed (r : RebuildSlot) (total : Nat) : Nat :=
  if r.state = 3 then total
  else if r.wrapped then min total (total - r.start + r.mark) else r.mark - r.start

/-- Rebuilt share of the strips to rebuild, in thousandths: the rows, or zones, that each slot has passed, of all there are for all
slots; R178 gives no formula. [DESIGN CHOICE, notes/assumptions/98.md] -/
def Chip.rebuildPermille (x : Piste) (zones : Nat) : Nat :=
  let total := if x.groomed then zones else x.geom.rows
  let n := x.rebuild.slots.length
  if n = 0 ∨ total = 0 then 1000 else sumOf x.rebuild.slots (fun r => r.passed total) * 1000 / (n * total)

/-- Strips with no home (R56), over every row of a fixed piste. -/
def Piste.unplaced (x : Piste) : Nat :=
  if x.groomed ∨ x.repl = [] then 0
  else sumOf (List.range x.geom.rows) (fun r => countOf (placeRow x.seed x.geom x.repl r) (fun o => o.isNone))

/-- Degraded-service objects (Table 6.12); rebuild_state reads 3 while E is empty, at reset too. [DESIGN CHOICE,
notes/assumptions/98.md] -/
def Chip.computed2C (c : Chip) (i sub : Nat) : Option Bytes :=
  let x := c.piste sub
  let m := c.member sub
  if i = 0x2C20 then some (leBytes 1 m.mstate.code)
  else if i = 0x2C21 then some (leBytes 1 m.cause)
  else if i = 0x2C22 then some (leBytes 2 m.bucket)
  else if i = 0x2C23 then some (leBytes 8 m.lateReads)
  else if i = 0x2C24 then
    some (match m.failNs with | some t => stampBytes m.failCycles (t / 1000000) | none => List.replicate 10 0)
  else if i = 0x2C30 then some (leBytes 1 (minOf (x.rebuild.slots.map (fun r => r.state)) 3))
  else if i = 0x2C31 then some x.rebuild.bytes
  else if i = 0x2C32 then
    some (leBytes 2 (Chip.rebuildPermille x (maxOf ((c.localSlots x).map (fun s => (c.member s).zoneCount)))))
  else if i = 0x2C33 then some (leBytes 8 x.unplaced)
  else if i = 0x2C34 then some (leBytes 8 x.rebuiltBytes)
  else if i = 0x2C40 then some (leBytes 8 x.fall.position)
  else if i = 0x2C41 then some x.fall.bytes
  else if i = 0x2C50 then some ((c.cache.lostStripes.map LostStripe.bytes).flatten)
  else if i = 0x2C51 then some (leBytes 4 c.cache.lostStripes.length)
  else if i = 0x2C52 then some (leBytes 4 (countOf c.cache.lostStripes (fun l => decide (l.piste = sub))))
  else if i = 0x2C60 then some (leBytes 1 c.cqi.sweeps.length)
  else if i = 0x2C61 then some (fit 64 c.cqi.lastSummary)
  else none

/-- The row of Table 9.8 a slot shows (R257). -/
def Member.ledState (m : Member) : Nat :=
  let inE := m.mstate = .rebuilding || m.mstate = .rebuilt || m.mstate = .draining || m.mstate = .copyback
  if m.refusedNs.isSome then 1
  else if m.slot = .safeToRemove then 2
  else if m.slot = .removalPending || m.slot = .quiescing then 3
  else if m.slot = .powerFault then 4
  else if m.slot = .unusable then 5
  else if m.slot = .held then 6
  else if m.mstate = .failed || m.slot = .contained || (m.slot = .empty && inE) then 7
  else if m.mstate = .resyncing || m.mstate = .copyback || m.replaces.isSome then 8
  else if m.slot = .empty && m.recorded.isNone then 9
  else 10

/-- Member-port objects (Table 9.15). -/
def Chip.computed34 (c : Chip) (i sub : Nat) : Option Bytes :=
  let m := c.member sub
  let b := fun (x : Bool) => some (leBytes 1 (if x then 1 else 0))
  if i = 0x3402 then some (leBytes 1 c.slots)
  else if i = 0x3403 then some (leBytes 1 (c.slots - 2) ++ leBytes 1 (c.slots - 1))
  else if i = 0x3410 then some (leBytes 1 m.slot.code)
  else if i = 0x3411 then some (leBytes 1 (if m.linkUp then m.linkSpeed else 0))
  else if i = 0x3412 then some (leBytes 1 (if m.linkUp then m.linkWidth else 0))
  else if i = 0x3413 then some (fit 256 (match m.report with | some r => r.nqn | none => []))
  else if i = 0x3414 then some m.label.bytes
  else if i = 0x3415 then some (leBytes 8 (match m.report with | some r => r.conventionalBlocks | none => 0))
  else if i = 0x3416 then some (leBytes 8 (match m.report with | some r => r.zonedBlocks | none => 0))
  else if i = 0x3420 then some (leBytes 1 m.ledState)
  else if i = 0x3422 then b m.powerEnable
  else if i = 0x3423 then b m.presence
  else if i = 0x3424 then b m.powerGood
  else if i = 0x3425 then some (leBytes 4 m.presses)
  else if i = 0x3426 then some (leBytes 4 m.refusals)
  else if i = 0x3430 then some (leBytes 1 m.contCause)
  else if i = 0x3431 then some (leBytes 4 m.contCount)
  else none

/-- Laps of the lease left (R280). -/
def Chip.leaseLaps (c : Chip) : Nat :=
  match c.pair.leaseNs with
  | some t => (t - c.clk.opNs) / c.lapNs
  | none => 0

/-- A judge's record of a pair (Table 10.11, 0x3852). -/
def Chip.judgeBytes (c : Chip) (r : JudgeRecord) : Bytes :=
  let now := c.clk.opNs / 1000
  let laps := fun (t : Nat) => min 0xFFFF ((now - t) / max 1 r.lapUs)
  fit 48 (leBytes 8 r.pairId ++ leBytes 8 r.holder ++ leBytes 4 r.epoch ++ leBytes 4 (if r.stale then 1 else 0) ++
    leBytes 4 (r.protectUs - now) ++ fit 4 ((r.heard.vals.map (fun t => leBytes 2 (laps t))).flatten))

/-- Pair objects (Table 10.11). -/
def Chip.computed38 (c : Chip) (i sub : Nat) : Option Bytes :=
  let p := c.pair
  if i = 0x3801 then some (leBytes 1 p.role.code)
  else if i = 0x3802 then some (leBytes 8 p.pairId)
  else if i = 0x3803 then some (leBytes 4 p.epoch)
  else if i = 0x3804 then some (leBytes 8 p.partnerSerial)
  else if i = 0x3805 then some (leBytes 1 p.sync)
  else if i = 0x3812 then some (leBytes 2 c.leaseLaps)
  else if i = 0x3815 then some (leBytes 1 (if p.sinceReply ≤ 8 then 1 else 0))
  else if i = 0x3817 then some (leBytes 1 p.source)
  else if i = 0x3823 then some (leBytes 8 c.journal.lapOffset)
  else if i = 0x3831 then some (leBytes 8 p.mirrorSeq)
  else if i = 0x3832 then some (leBytes 8 p.mirrorAcc)
  else if i = 0x3833 then
    some (leBytes 2 (if p.sync = 2 ∨ p.peerSync = 2 then 1000 else if p.syncTotal = 0 then 0
      else min 1000 (p.syncSent * 1000 / p.syncTotal)))
  else if i = 0x3834 then some (leBytes 1 (c.port 0).lanes)
  else if i = 0x3851 then some (leBytes 1 p.judges.length)
  else if i = 0x3852 then
    let id := c.val 0x4040 sub
    match p.judges.find? (fun r => decide (r.pairId = id ∧ id ≠ 0)) with
    | some r => some (c.judgeBytes r)
    | none => some (List.replicate 48 0)
  else none

/-- Ring objects (Table 11.13). -/
def Chip.computed3C (c : Chip) (i sub : Nat) : Option Bytes :=
  let t := c.port sub
  if i = 0x3C01 then some (leBytes 1 c.straps.nodeId)
  else if i = 0x3C02 then some (leBytes 1 c.ring.rstate)
  else if i = 0x3C03 then some (leBytes 4 (maskOf c.ring.members))
  else if i = 0x3C04 then some (leBytes 4 c.ring.span)
  else if i = 0x3C05 then some (leBytes 4 (c.clk.ticks - 512))
  else if i = 0x3C06 then some (leBytes 1 c.clk.pacerNode)
  else if i = 0x3C07 then some (leBytes 4 c.clk.pacerChanges)
  else if i = 0x3C08 then some (leBytes 4 (maskOf (c.ring.aliases.map Prod.fst)))
  else if i = 0x3C10 then some (leBytes 1 t.pstate)
  else if i = 0x3C11 then some (leBytes 1 t.lanes)
  else if i = 0x3C12 then some (leBytes 4 (if sub = 0 then 0 else t.delayPs))
  else if i = 0x3C13 then some (leBytes 1 t.peer)
  else if i = 0x3C24 then
    some (leBytes 4 (countOf c.journal.entries.vals (fun e => e.spanning && decide (e.state ≠ .free) &&
      decide (e.state ≠ .committed))))
  else if i = 0x3C30 then some (leBytes 2 (c.node sub).sinceLaps)
  else none

/-- ADP objects (Table 12.14). -/
def Chip.computed40 (c : Chip) (i sub : Nat) : Option Bytes :=
  if i = 0x4002 then some (leBytes 1 c.adp.astate)
  else if i = 0x4016 then some (leBytes 1 (if c.adp.plcaStatus then 1 else 0))
  else if i = 0x4021 then some (leBytes 1 (if (c.dict.keys.find sub).isSome then 1 else 0))
  else if i = 0x4035 then some (leBytes 1 c.adp.sessions.length)
  else if i = 0x4037 then some (leBytes 4 (maxOf (c.adp.rtts.map Prod.snd)))
  else if i = 0x4041 then some (leBytes 8 c.adp.partnerMac)
  else none

/-- The confidence in force, in thousandths (R380). -/
def Chip.confidence (c : Chip) : Nat := if c.power.learn = 1 ∨ c.power.learn = 2 then 1000 else c.val 0x441D

/-- Supply objects (Table 13.13). -/
def Chip.computed44 (c : Chip) (i : Nat) : Option Bytes :=
  let p := c.power
  let r := fun (n : Nat) (q : Rat) => some (leBytes n (Config.toReport q))
  if i = 0x4403 then some (leBytes 2 p.vinNow)
  else if i = 0x4404 then some (leBytes 2 p.vinMin)
  else if i = 0x4405 then some (leBytes 1 p.supply.code)
  else if i = 0x4410 then some (leBytes 1 p.packState)
  else if i = 0x4411 then some (leBytes 2 (p.packUv / 1000))
  else if i = 0x4412 then some (leBytes 2 (twos 16 p.tempDc))
  else if i = 0x4413 then r 2 (p.zr * 1000)
  else if i = 0x4414 then r 2 (p.zc * 1000)
  else if i = 0x4415 then r 2 (p.zv * 1000)
  else if i = 0x4416 then r 4 (p.usable * 1000)
  else if i = 0x4417 then r 4 (p.ec * 1000)
  else if i = 0x4418 then r 4 (p.ev * 1000)
  else if i = 0x4419 then r 4 (p.q * 1000)
  else if i = 0x441A then r 2 (p.k * 1000)
  else if i = 0x441B then some (leBytes 1 p.learn)
  else if i = 0x441C then some (leBytes 1 (if p.mismatch then 1 else 0))
  else if i = 0x441E then some (leBytes 2 c.confidence)
  else if i = 0x441F then some (match p.lastRest with
    | some _ => stampBytes p.lastRestCycles p.lastRestMs
    | none => List.replicate 10 0)
  else if i = 0x4422 then some (leBytes 1 p.pause)
  else if i = 0x4423 then some (leBytes 1 p.charger)
  else if i = 0x4440 then some (leBytes 1 p.vaultRegion)
  else if i = 0x4446 then some (leBytes 1 (c.image 0).status ++ leBytes 1 (c.image 1).status)
  else none

/-- Scrub summary (Table 14.6). -/
def Scrub.bytes (s : Scrub) : Bytes :=
  fit 64 (leBytes 8 s.read ++ leBytes 8 s.corrected ++ leBytes 8 s.uncorrectable ++ leBytes 4 s.retired ++
    leBytes 4 s.endReason ++ leBytes 8 s.startStride ++ leBytes 8 s.endStride ++
    leBytes 8 (s.firstUe.getD (2 ^ 64 - 1)))

/-- Memory-integrity objects (Table 14.8). -/
def Chip.computed48 (c : Chip) (i sub : Nat) : Option Bytes :=
  let m := c.mem
  if i = 0x4810 then some (leBytes 1 (c.region sub).bucket)
  else if i = 0x4820 then some (leBytes 4 m.retired.length)
  else if i = 0x4822 then some ((m.retired.map (leBytes 8)).flatten)
  else if i = 0x4831 then some (leBytes 2 m.softFuse.length)
  else if i = 0x4833 then some (leBytes 2 m.pendingFuses)
  else if i = 0x4835 then some (leBytes 4 m.withdrawn.length)
  else if i = 0x4841 then some (leBytes 1 m.scrub.state)
  else if i = 0x4842 then some m.scrub.bytes
  else if i = 0x484A then some (leBytes 8 m.patrol)
  else none

/-- Fault-collector objects (Table 15.10). -/
def Chip.computed4C (c : Chip) (i sub : Nat) : Option Bytes :=
  let f := c.faults
  if i = 0x4C00 then some (leBytes 2 f.pending.length)
  else if i = 0x4C01 then some (leBytes 128 (maskOf f.pending.keys))
  else if i = 0x4C02 then some (leBytes 4 f.occurrences)
  else if i = 0x4C20 then some (fit 1024 ((f.history.map HistEntry.bytes).flatten))
  else if 0x4C21 ≤ i ∧ i ≤ 0x4C24 then
    some (match f.pending.find ((i - 0x4C21) * 256 + sub) with
      | some p => p.bytes
      | none => List.replicate 16 0)
  else if i = 0x4C30 then some (leBytes 1 (if f.safe then 1 else 0))
  else if i = 0x4C31 then some (fit 32 f.safeCause)
  else if i = 0x4C34 then some (leBytes 1 (if c.faultN then 1 else 0))
  else none

/-- The circulating area in slot order (R424): the record with number s in slot s mod 4,096. -/
def Recorder.slotBytes (r : Recorder) (slot : Nat) : Bytes :=
  match r.circ.reverse.find? (fun x => decide (x.seq % 4096 = slot)) with
  | some x => x.bytes
  | none => List.replicate 128 0

/-- Recorder objects (Table 15.11). [DEDUCED, notes/assumptions/18.md] -/
def Chip.computed50 (c : Chip) (i : Nat) : Option Bytes :=
  let r := c.recorder
  if i = 0x5001 then some (leBytes 8 (match r.circ with | x :: _ => x.seq | [] => 0))
  else if i = 0x5002 then some (leBytes 8 r.seq)
  else if i = 0x5003 then some (leBytes 2 r.permanent.length)
  else if i = 0x5007 then some (leBytes 8 r.flushed)
  else if i = 0x5010 then some (fit 65536 ((r.permanent.map Rec.bytes).flatten))
  else if i = 0x5011 then some (((List.range 4096).map r.slotBytes).flatten)
  else if i = 0x5017 then
    some (fit 65536 (((r.priorAreas.getD (c.val 0x5016) []).map Rec.bytes).flatten))
  else none

/-- Start-up objects (Table 16.5). -/
def Chip.computed54 (c : Chip) (i sub : Nat) : Option Bytes :=
  if i = 0x5400 then some (leBytes 1 c.start.phase)
  else if i = 0x5410 then
    let f := c.start.images.getD sub FlashImage.empty
    let ok := f.signatureOk && decide (c.start.secVersion ≤ f.securityVersion) && decide (f.length ≤ 2 ^ 24)
    some (fit 32 (leBytes 4 (if !f.present then 0 else if ok then 1 else 2) ++ leBytes 4 f.firmwareVersion ++
      leBytes 4 f.securityVersion ++ leBytes 4 f.length ++ leBytes 16 f.digestPrefix))
  else if i = 0x5412 then some (leBytes 4 c.start.secVersion)
  else none

/-- The value of an object that is kept as state of another chapter; `none` where the dictionary stores it. -/
def Chip.computed (c : Chip) (i sub : Nat) : Option Bytes :=
  let g := i / 256
  if g = 0x10 then c.computed10 i
  else if g = 0x11 then c.computed11 i
  else if g = 0x12 then c.computed12 i sub
  else if g = 0x18 then c.computed18 i
  else if g = 0x1A ∨ g = 0x1B then c.computed1A i sub
  else if g = 0x20 ∨ g = 0x30 then c.computed20 i sub
  else if g = 0x24 then c.computed24 i sub
  else if g = 0x28 then c.computed28 i sub
  else if g = 0x2C then c.computed2C i sub
  else if g = 0x34 then c.computed34 i sub
  else if g = 0x38 then c.computed38 i sub
  else if g = 0x3C then c.computed3C i sub
  else if g = 0x40 then c.computed40 i sub
  else if g = 0x44 then c.computed44 i
  else if g = 0x48 then c.computed48 i sub
  else if g = 0x4C then c.computed4C i sub
  else if g = 0x50 then c.computed50 i
  else if g = 0x54 then c.computed54 i sub
  else none

/-- The value of a present object (R332): zeros for a command object and for a secret one (Table 12.3, R339).
[DESIGN CHOICE, notes/assumptions/20.md] -/
def Chip.valueOf (c : Chip) (o : Obj) (sub : Nat) : Bytes :=
  if o.access = 4 ∨ o.secret then List.replicate o.len 0
  else match c.computed o.index sub with
    | some b => b
    | none =>
      if o.ty = 12 ∨ o.ty = 13 ∨ o.ty = 10 then fit o.len (c.octets o.index sub)
      else leBytes o.len (c.val o.index sub)

/-- The value of an object; `none` where it is absent (R331). [DESIGN CHOICE, notes/assumptions/20.md] -/
def Chip.readObject (c : Chip) (index sub : Nat) : Option Bytes := (c.object index sub).map (fun o => c.valueOf o sub)

/-- The first 8 bytes of an object's value; 0 where it is absent. -/
def Chip.first8 (c : Chip) (index sub : Nat) : Nat :=
  match c.readObject index sub with
  | some b => leAt b 0 8
  | none => 0

/-- The keys of every object present, in index order. -/
def Chip.objectKeys (c : Chip) : List (Nat × Nat) :=
  (objectDirectory.map (fun o =>
    ((List.range ((if o.last = 1000 then c.slots - 1 else o.last) + 1)).drop o.first).map (fun s => (o.index, s)))).flatten

/-- Change counts after a command (R332): 1 more, modulo 2^32, for every object whose value it changed. -/
def changesAfter (old new : Chip) : KMap Nat :=
  new.objectKeys.foldl (fun m k =>
    if old.readObject k.1 k.2 = new.readObject k.1 k.2 then m
    else KMap.put m (objKey k.1 k.2) ((KMap.getD m (objKey k.1 k.2) 0 + 1) % 2 ^ 32)) new.dict.changes

/-- The chip after a command, its change counts brought up to date: they count since cold power-on. [DEDUCED, notes/assumptions/12.md] -/
def countChanges (old new : Chip) : Chip :=
  new.onDict (fun d => { d with changes := if new.clk.cycles = old.clk.cycles then changesAfter old new else [] })

end Sys2Proof.Machine
end

