-- ==== Sys2Proof/Machine/Ops.lean ====
section
/-! DEFINITION. The named operations every family uses: event records (R421 to R424), change-log records (R341, R342), fault
messages (R407 to R414), queue-0 events, completions and their posting (R184 to R206), deferred errors (R207, R208),
handles (R201 to R203), member commands and draws from the random source. -/

namespace Sys2Proof.Machine

/-! ### Free values -/

/-- Draw from the random source (R62, R69, R249, R348). [DESIGN CHOICE, notes/assumptions/5.md] -/
def Chip.random (c : Chip) : Nat × Chip := (Config.draw c.draws, { c with draws := c.draws + 1 })

/-- Draw a non-zero 64-bit value. -/
def Chip.random64 (c : Chip) : Nat × Chip := (Config.draw c.draws % (w64 - 1) + 1, { c with draws := c.draws + 1 })

/-! ### Event records -/

/-- Whether a class is never suppressed (R423): FAULT, CHANGE, HOST_LOG. -/
def unlimitedClass (cls : Nat) : Bool := decide (1 ≤ cls) && decide (cls ≤ 3)

/-- The snapshots of a class's selectors (R424); an unused selector names index 0. -/
def Chip.snapshots (c : Chip) (cls : Nat) (named : Option Nat) : List (Nat × Nat) :=
  let b := c.octets 0x5030 cls
  ((List.range 8).map (fun i => (leAt b (3 * i) 2, leAt b (3 * i + 2) 1))).filter (fun p => decide (p.1 ≠ 0)) |>.map
    (fun p =>
      let sub := if p.2 = 0xFF then named.getD 0 else p.2
      (p.1 * 256 + sub, c.first8 p.1 sub))

/-- The sequence number the next record of an unlimited class gets: behind those that wait (R423). -/
def Chip.nextSeq (c : Chip) : Nat := c.recorder.seq + c.recorder.waiting.length + 1

/-- Keep the newest `n` of a list. -/
def keepLast {α : Type} (n : Nat) (l : List α) : List α := l.drop (l.length - n)

/-- Store a record: the next number, the code's suppression count, the two areas (R422 to R424). -/
def Chip.storeRecord (c : Chip) (r : Rec) : Chip :=
  let k := c.recorder
  let perm := decide (k.permanent.length < 512)
  let r := { r with seq := k.seq + 1, suppressed := if r.only then r.suppressed else k.suppressed.getD r.code 0,
                    permanent := perm }
  (c.onRec (fun k => { k with
    seq := r.seq
    permanent := if perm then k.permanent ++ [r] else k.permanent
    circ := keepLast 4096 (k.circ ++ [r])
    thisStride := k.thisStride + 1
    lapCount := k.lapCount.put r.code (k.lapCount.getD r.code 0 + 1)
    suppressed := if r.only then k.suppressed else k.suppressed.put r.code 0
    storedLap := addNew k.storedLap r.code })).bump 0x5000

/-- Suppress a record (R423). -/
def Chip.suppressRecord (c : Chip) (code : Nat) : Chip :=
  (c.onRec (fun k => { k with
    suppressed := k.suppressed.put code (k.suppressed.getD code 0 + 1)
    suppressedLap := addNew k.suppressedLap code })).bump 0x5004

/-- The record of a happening, as offered now. [DEDUCED, notes/assumptions/19.md] -/
def Chip.newRecord (c : Chip) (code : Nat) (named : Option Nat) (body : Bytes) : Rec :=
  { seq := 0, cycles := c.clk.cycles, ms := c.nowMs, code, suppressed := 0, only := false, permanent := false,
    stride := if c.clk.running then c.clk.stride else 0, snaps := c.snapshots (code / 256) named, body }

/-- Offer a record to the recorder (R423): `code` is class * 256 + detail. [DEDUCED, notes/assumptions/19.md] -/
def Chip.record (c : Chip) (code : Nat) (named : Option Nat := none) (body : Bytes := []) : Chip :=
  let r := c.newRecord code named body
  let room := decide (c.recorder.thisStride < 16) && c.recorder.waiting.isEmpty
  if unlimitedClass (code / 256) then
    if room then c.storeRecord r else c.onRec (fun k => { k with waiting := k.waiting ++ [r] })
  else if room && decide (c.recorder.lapCount.getD code 0 < c.val 0x5020 (code / 256)) then c.storeRecord r
  else c.suppressRecord code

/-- Store the records that wait, within the capacity of a stride (R423). -/
def Chip.drainRecords (c : Chip) : Chip :=
  let now := c.recorder.waiting.take 16
  (c.onRec (fun k => { k with thisStride := 0, waiting := k.waiting.drop 16 })).each now Chip.storeRecord

/-! ### The change log -/

/-- Origins (Table 12.5). -/
def originCode : Origin → Nat
  | .host => 0 | .peer => 1 | .net => 2 | .self => 3 | .service => 4
/-- Routes (Table 12.7). -/
def routeCode : Route → Nat
  | .window => 0 | .mailbox => 1 | .queue => 2 | .adp => 3 | .firmware => 4 | .pairMirror => 5 | .ring => 6

/-- The device's own firmware as a writer. -/
def selfWriter : Writer := { origin := .self, route := .firmware, originId := 0 }

/-- Whether a refusal repeats the newest record within its lap (R341). -/
def ChangeRec.repeats? (r : ChangeRec) (lap index sub new reason originId : Nat) : Bool :=
  decide (r.lap = lap) && decide (r.index = index) && decide (r.sub = sub) && decide (r.new = new) &&
    decide (r.reason = reason) && decide (r.originId = originId) && decide (reason ≠ 0)

/-- A new change-log record; the recorder gets it too (R342). [DEDUCED, notes/assumptions/18.md] -/
def Chip.logNew (c : Chip) (x : ChangeRec) : Chip :=
  (c.onDict (fun d => { d with log := keepLast 16384 (d.log ++ [x]) })).record 0x200 none x.bytes

/-- A repeated refusal, counted in the newest record (R341). -/
def Chip.logAgain (c : Chip) (r : ChangeRec) : Chip :=
  c.onDict (fun d => { d with log := d.log.dropLast ++ [{ r with repeats := min 65535 (r.repeats + 1) }] })

/-- Make a change-log record, or count a repeated refusal in the newest one (R341, R342). -/
def Chip.logChange (c : Chip) (index sub : Nat) (w : Writer) (reason detail old new : Nat) (secret : Bool) : Chip :=
  let new := if secret then 0 else new
  let old := if secret then 0 else old
  let c := if reason = 0 then c else c.onDict (fun d => { d with refused := d.refused + 1 })
  let x : ChangeRec :=
    { seq := c.nextSeq, cycles := c.clk.cycles, ms := c.nowMs, index, sub, origin := originCode w.origin,
      route := routeCode w.route, secret, reason, detail, originId := w.originId, old, new, repeats := 0, lap := c.lap }
  match c.dict.log.getLast? with
  | some r => if r.repeats? c.lap index sub new reason w.originId then c.logAgain r else c.logNew x
  | none => c.logNew x

/-- The sequence number of the newest change-log record. -/
def Chip.newestLog (c : Chip) : Nat := match c.dict.log.getLast? with | some r => r.seq | none => 0

/-! ### Host memory (R227) -/

/-- Whether the device may issue memory requests now (R233, R235, R236, R239). -/
def Chip.hostOpen (c : Chip) : Bool :=
  c.host.ready && c.host.busMaster && !c.host.d3 && c.host.flr.isNone && !c.host.perst

/-- A DMA channel stands halted at a bad line (R395, 1208 mode): none of its waiting transfers goes on. -/
def Chip.halted (c : Chip) (d : DmaChannel) : Bool := decide (d ∈ c.mem.halted)

/-- Write to host memory in pieces no longer than Max_Payload_Size, none over a 4 KiB boundary (R227). -/
def Chip.hostWriteFuel : Nat → Chip → Nat → Bytes → Bool → Chip
  | 0, c, _, _, _ => c
  | n + 1, c, a, b, ro =>
    if b.isEmpty then c
    else
      let l := min (min b.length (max 1 c.host.maxPayload)) (4096 - a % 4096)
      Chip.hostWriteFuel n (c.emit (.hostWrite a (b.take l) ro)) (a + l) (b.drop l) ro

/-- [DESIGN CHOICE, notes/assumptions/91.md] -/
def Chip.hostWrite (c : Chip) (address : Nat) (data : Bytes) (relaxed : Bool) : Chip :=
  Chip.hostWriteFuel data.length c address data relaxed

/-! ### Completion rings -/

/-- Entries of a completion ring. -/
def QueuePair.cqSize (q : QueuePair) : Nat := q.cqEntriesM1 + 1
def QueuePair.sqSize (q : QueuePair) : Nat := q.sqEntriesM1 + 1
/-- The completion ring is full: its tail is one entry behind its head (R182). -/
def QueuePair.cqFull (q : QueuePair) : Bool := decide ((q.cqTail + 1) % q.cqSize = q.cqHead)
/-- The ring is in a state in which completions are posted (R183, R185). -/
def QueuePair.posting (q : QueuePair) : Bool :=
  q.qstate = 1 || ((q.qstate = 2 || q.qstate = 3) && q.usable)

/-- An entry can be written to its ring now. -/
def Chip.canPost (c : Chip) (q : Nat) : Bool := c.hostOpen && (c.queue q).posting && !(c.queue q).cqFull

/-- The ring an entry goes to. -/
def CqEntry.ring (e : CqEntry) : Nat := if e.event then 0 else e.queue

/-- A completion entry in the layout of Table 7.8, for the logs: phase 0, bits 255:224 the low 32 bits of the sequence
number (R211). -/
def CqEntry.logBytes (e : CqEntry) (sqHead deferred seq : Nat) : Bytes :=
  leBytes 8 e.result ++ leBytes 6 e.acc ++ leBytes 2 sqHead ++ leBytes 2 e.cid ++ leBytes 2 e.queue ++
  leBytes 2 e.status ++ leBytes 2 ((if deferred ≠ 0 then 2 else 0) + (if e.event then 4 else 0)) ++
  leBytes 4 deferred ++ leBytes 4 seq

/-- The oldest pending deferred error of a piste (R208). -/
def Chip.oldestDeferred (c : Chip) (p : Nat) : Option Deferred :=
  c.cqi.deferred.find? (fun d => d.pending && decide (d.piste = p))

/-- The deferred error a completion carries: the first accepted command that names the piste (R208). -/
def Chip.carries (c : Chip) (e : CqEntry) : Option Deferred :=
  if e.event || e.acc = 0 then none
  else match e.piste with
    | none => none
    | some p => c.oldestDeferred p

/-- Number an item of the mirror stream; it leaves by tick 255 of the next stride (R22). -/
def Chip.mirrorSend (c : Chip) (item : BulkItem) : Chip × Nat :=
  let n := c.pair.mirrorSeq + 1
  (c.onPair (fun p => { p with mirrorSeq := n, mirrorQueue := p.mirrorQueue ++ [(n, item)] }), n)

/-- The stream flows: this unit leads, and the partner syncs or holds a copy (R290, R292). -/
def Chip.mirroring (c : Chip) : Bool :=
  (c.pair.role = .active || c.pair.role = .alone) && c.pair.formed && (c.pair.peerSync = 1 || c.pair.peerSync = 2)

/-- A deferred error as the mirror carries it (R289). -/
def Deferred.record (d : Deferred) : MirrorRecord :=
  .deferred d.number d.piste d.kind d.first d.count d.carriedBy d.carriedQueue (d.delivered || decide (d.markSeq ≠ 0)) d.posted

/-- Change one deferred error by number. -/
def Chip.updDeferred (c : Chip) (n : Nat) (f : Deferred → Deferred) : Chip :=
  c.onCqi (fun k => { k with deferred := k.deferred.map (fun d => if d.number = n then f d else d) })

/-- Write one entry to its ring: its data and end record first, then the entry (R184, R203, R208, R227). -/
def Chip.postEntry (c : Chip) (e : CqEntry) : Chip :=
  let r := e.ring
  let q := c.queue r
  let d := c.carries e
  let n := match d with | some d => d.number | none => 0
  let c := c.each e.data (fun c w => c.hostWrite w.1 w.2 false)
  let c := match e.record with | some (a, b) => c.hostWrite a b false | none => c
  let c := c.emit (.completion r q.cqTail e q.cqPhase q.sqHead n)
  let c := match d with
    | some d => c.updDeferred d.number (fun x => { x with pending := false, delivered := true, carriedBy := e.acc,
                                                          carriedQueue := e.queue })
    | none => c
  let c := if e.event && e.status = 2 then c.updDeferred (e.result % 2 ^ 32) (fun x => { x with posted := true }) else c
  let c := if !e.event && e.status ≠ 0 then
      (c.onCqi (fun k => { k with errorLog := keepLast 256 (k.errorLog ++ [(e, c.nextSeq, n, q.sqHead)]) })).record 0x302
    else c
  let c := if e.event then c.onCqi (fun k => { k with eventLog := k.eventLog.map (fun x =>
      if x.1.acc = e.acc then (x.1, x.2.1, q.sqHead) else x) }) else c
  let c := match e.handleEnd with
    | some s => c.onCqi (fun k => { k with pendingEnds := k.pendingEnds ++ [(q.cqTail, s)] })
    | none => c
  let next := (q.cqTail + 1) % q.cqSize
  c.updQueue r (fun q => { q with cqTail := next, cqPhase := if next = 0 then !q.cqPhase else q.cqPhase, wrote := true })

/-- An ACTIVE unit delivers an error only once the partner has the record that marks it delivered (R289): whether the entry waits
for that, among the entries held. -/
def Chip.awaitMark (c : Chip) (l : List CqEntry) (e : CqEntry) : Bool × Chip :=
  match c.carries e with
  | none => (false, c)
  | some d =>
    if c.pair.role ≠ .active then (false, c)
    else if d.markSeq ≠ 0 ∧ d.carriedBy ≠ e.acc ∧ l.any (fun x => decide (x.acc = d.carriedBy) && !x.event) then (true, c)
    else if d.markSeq ≠ 0 ∧ d.carriedBy = e.acc then (decide (c.pair.mirrorAcc < d.markSeq), c)
    else
      let m := c.mirrorSend (.record (Deferred.record { d with delivered := true, carriedBy := e.acc, carriedQueue := e.queue }))
      (true, m.1.updDeferred d.number (fun x => { x with markSeq := m.2, carriedBy := e.acc, carriedQueue := e.queue }))

/-- Write what can be written of the held entries, each ring in the order in which its entries arose (R206, R233). -/
def Chip.pump (c : Chip) : Chip :=
  let l := c.cqi.held
  (l.foldl (fun (a : Chip × List Nat) e =>
    if e.ring ∈ a.2 then (a.1.onCqi (fun k => { k with held := k.held ++ [e] }), a.2)
    else if a.1.canPost e.ring then
      let w := a.1.awaitMark l e
      if w.1 then (w.2.onCqi (fun k => { k with held := k.held ++ [e] }), e.ring :: a.2) else (w.2.postEntry e, a.2)
    else (a.1.onCqi (fun k => { k with held := k.held ++ [e] }), e.ring :: a.2))
    (c.onCqi (fun k => { k with held := [] }), [])).1

/-- Events held (R206). -/
def Chip.heldEvents (c : Chip) : Nat := countOf c.cqi.held (fun e => e.event)

/-- Drop the first event that is not a HANDLE_END. -/
def dropEvent : List CqEntry → List CqEntry
  | [] => []
  | e :: r => if e.event && e.handleEnd.isNone then r else e :: dropEvent r

/-- Number an event, log it and queue it (R205, R206, R211). -/
def Chip.queueEvent (c : Chip) (code result : Nat) (handleEnd : Option Nat) (record : Option (Nat × Bytes)) : Chip :=
  let seq := c.cqi.eventSeq % (2 ^ 48 - 1) + 1
  let e : CqEntry := { result, acc := seq, cid := 0xFFFF, queue := 0, status := code, event := true, piste := none,
                       handleEnd, record, data := [] }
  let c := (c.onCqi (fun k => { k with eventSeq := seq, eventLog := keepLast 1024 (k.eventLog ++ [(e, c.nextSeq, 0)]) })).record
    0x301
  let c := if 8192 ≤ c.heldEvents then
      (c.onCqi (fun k => { k with held := dropEvent k.held, droppedBit := true, dropCount := k.dropCount + 1 })).bump 0x1A14
    else c
  c.onCqi (fun k => { k with held := k.held ++ [e] })

/-- Report drops once space allows (R206). -/
def Chip.reportDrops (c : Chip) : Chip :=
  if 0 < c.cqi.dropCount ∧ c.heldEvents = 0 ∧ c.canPost 0 then
    ((c.onCqi (fun k => { k with dropCount := 0 })).queueEvent 4 c.cqi.dropCount none none).pump
  else c

/-- Write what can be written. [DEDUCED, notes/assumptions/43.md] -/
def Chip.flushHeld (c : Chip) : Chip := c.pump.reportDrops

/-- Post a queue-0 event (Table 7.12). -/
def Chip.event (c : Chip) (code result : Nat) : Chip := (c.queueEvent code result none none).flushHeld

/-- Complete a command (R192): `acc` is 0 where it was not accepted. -/
def Chip.complete (c : Chip) (queue cid acc status result : Nat) (piste : Option Nat) (data : List (Nat × Bytes)) : Chip :=
  (c.onCqi (fun k => { k with held := k.held ++
    [{ result, acc, cid, queue, status, event := false, piste, handleEnd := none, record := none, data }] })).flushHeld

/-! ### Commands -/

def Chip.findCmd (c : Chip) (queue cid : Nat) : Option Cmd :=
  c.cqi.cmds.find? (fun x => decide (x.queue = queue) && decide (x.cid = cid) && !x.dead)

/-- Replace the command that has an acceptance number. -/
def Chip.putCmd (c : Chip) (x : Cmd) : Chip :=
  c.onCqi (fun k => { k with cmds := k.cmds.map (fun y => if y.acc = x.acc then x else y) })

/-- Take a command off the list of those uncompleted. -/
def Chip.dropCmd (c : Chip) (acc : Nat) : Chip :=
  c.onCqi (fun k => { k with cmds := k.cmds.filter (fun y => decide (y.acc ≠ acc)) })

/-- Whether an opcode names a piste (Table 7.6). -/
def namesPiste (opcode : Nat) (arg0 : Nat) : Bool :=
  opcode = 1 || opcode = 2 || opcode = 3 || opcode = 4 || opcode = 5 || opcode = 0x21 || opcode = 0x22 ||
  opcode = 0x24 || opcode = 0x25 || (opcode = 0x23 && arg0 % 2 = 1)

def Cmd.named (x : Cmd) : Option Nat := if namesPiste x.opcode x.arg0 then some x.piste else none

/-- Reads of host memory for a command that has ended are dropped; what is outstanding is discarded on arrival. -/
def HostReadFor.acc? : HostReadFor → Option Nat
  | .segment a _ => some a
  | .writeData a _ => some a
  | .refetch a _ => some a
  | _ => none

def Chip.dropReads (c : Chip) (acc : Nat) : Chip :=
  c.onHost (fun h => { h with
    toRead := h.toRead.filter (fun r => decide (r.1.acc? ≠ some acc))
    reads := h.reads.map (fun r => if r.why.acc? = some acc then { r with dead := true } else r) })

/-- End a command with a status (R192): once, on its own ring. A command ended without a completion (R237) posts none. -/
def Chip.endCmd (c : Chip) (x : Cmd) (status : Nat) (result : Nat := 0) (data : List (Nat × Bytes) := []) : Chip :=
  let c := (c.dropCmd x.acc).dropReads x.acc
  if x.dead then c else c.complete x.queue x.cid x.acc status result x.named data

/-! ### Queue errors -/

/-- Completion rings stay usable after these causes (R185). -/
def errorUsable (cause : Nat) : Bool := cause = 1 || cause = 3

/-- Stop the reads of submission entries of a queue: what arrives is discarded (R187). -/
def Chip.discardFetches (c : Chip) (q : Nat) : Chip :=
  let mine := fun (w : HostReadFor) => match w with
    | .entry a _ => decide (a = q)
    | .preAccept a _ => decide (a = q)
    | _ => false
  let c := c.onHost (fun h => { h with
    reads := h.reads.map (fun r => if mine r.why then { r with dead := true } else r)
    toRead := h.toRead.filter (fun r => !mine r.1) })
  let c := c.onCqi (fun k => { k with arrived := k.arrived.filter (fun a => decide (a.queue ≠ q)) })
  c.updQueue q (fun x => { x with fetching := 0 })

/-- A queue pair enters ERROR (R185). -/
def Chip.queueError (c : Chip) (q cause : Nat) : Chip :=
  let c := c.updQueue q (fun x => { x with qstate := 3, qerror := cause, errors := (x.errors + 1) % 2 ^ 32,
                                           usable := errorUsable cause })
  let c := c.discardFetches q
  if q = 0 then c else c.event 3 (q + cause * 2 ^ 16)

/-! ### Deferred errors -/

/-- Record a deferred error (R207, R208). -/
def Chip.deferError (c : Chip) (piste kind first count source : Nat) : Chip :=
  let n := c.cqi.nextDeferred
  let d : Deferred :=
    { number := n, piste, kind, pending := true, delivered := false, posted := false, closed := false, markSeq := 0,
      first, count, logSeq := c.nextSeq, carriedBy := 0, carriedQueue := 0, source }
  let c := (c.onCqi (fun k => { k with nextDeferred := n + 1, deferred := k.deferred ++ [d] })).record 0x300 (some piste)
  let c := if n % 1024 = 1 then c.emit (.flashWrite 1) else c
  c.event 2 (n + piste * 2 ^ 32 + kind * 2 ^ 40)

/-! ### Handles -/

/-- The handle's end record (Table 7.11). -/
def Handle.bytes (h : Handle) : Bytes :=
  fit 64 (leBytes 4 h.value ++ leBytes 1 h.state ++ leBytes 1 h.piste ++ leBytes 2 h.endStatus ++
    leBytes 2 h.progress ++ leBytes 2 0 ++ leBytes 6 h.acc ++ leBytes 6 0 ++ leBytes 8 h.endStride) ++ fit 64 h.detail

/-- The first free handle slot (R201). -/
def Chip.freeHandle (c : Chip) : Option Nat :=
  (List.range 4096).find? (fun i => decide ((c.handle i).value = 0))

/-- Take a handle slot for a long operation (R201). -/
def Chip.takeHandle (c : Chip) (slot kind piste acc recordAddr : Nat) : Chip :=
  c.updHandle slot (fun h =>
    let g := (h.generation + 1) % 4096
    { Handle.reset with value := kind * 2 ^ 28 + g * 2 ^ 16 + slot, generation := g, piste, acc, recordAddr })

/-- End a long operation: the record to host memory, then HANDLE_END (R203). -/
def Chip.endHandle (c : Chip) (slot state status : Nat) (detail : Bytes) : Chip :=
  let h := c.handle slot
  if h.value = 0 ∨ h.state ≠ 0 then c
  else
    let h := { h with state, endStatus := status, detail, progress := if state = 1 then 1000 else h.progress,
                      endStride := c.clk.stride }
    let c := c.setHandle slot h
    (c.queueEvent 1 (h.value + status * 2 ^ 32) (some slot)
      (if h.recordAddr = 0 then none else some (h.recordAddr, h.bytes))).flushHeld

/-- A handle's slot becomes free (R203). -/
def Chip.freeSlot (c : Chip) (slot : Nat) : Chip :=
  c.updHandle slot (fun h => { Handle.reset with generation := h.generation })

/-! ### Faults -/

/-- A fault message (Table 15.1). -/
def faultMsg (source kind : Nat) (address : Option Nat) (forced rep direct : Bool) : Nat :=
  let b := fun (x : Bool) (i : Nat) => if x then 2 ^ i else 0
  address.getD 0 % 2 ^ 40 + b forced 40 + b rep 41 + b direct 42 + b address.isSome 43 + kind * 2 ^ 46 + source * 2 ^ 54

/-- Direct kinds (R416). -/
def directKind (kind : Nat) : Bool := kind = 0x30 || kind = 0x31

/-- The sources a kind is assigned to (Table 15.3). -/
def kindOf (source kind : Nat) : Bool :=
  if kind = 0x01 then source = 0x41
  else if kind = 0x02 then source = 0x40
  else if kind = 0x03 then source = 0xB3
  else if kind = 0x10 ∨ kind = 0x11 then source < 0x40
  else if kind = 0x12 then 0x70 ≤ source ∧ source ≤ 0xA4
  else if kind = 0x13 then 48 ≤ source ∧ source < 0x40
  else if kind = 0x14 then source < 48
  else if kind = 0x20 then source = 0xC0
  else if kind = 0x21 then source = 0xC3
  else if kind = 0x30 then source = 0x66
  else if kind = 0x31 then source = 0x67
  else false

/-- A history entry for a message arriving now. -/
def Chip.histEntry (c : Chip) (source message occurrence disposition : Nat) : HistEntry :=
  { message, occurrence, disposition, stride := c.clk.stride, cycles := c.clk.cycles, ms := c.nowMs, source }

/-- A fault is pending at a source (R409). -/
def Chip.faultPends (c : Chip) (source : Nat) : Bool := (c.faults.pending.find source).isSome

/-- Take a message into the collector (R409, R414): occurrence, history, pending fault or repeat; a record (Table 15.8)
and a flush within 1 lap (R426). In the safe state it is entered and recorded only (Table 15.6). -/
def Chip.faultTake (c : Chip) (source kind : Nat) (address : Option Nat) (forced : Bool) : Chip :=
  let occ := (c.faults.occurrences + 1) % 2 ^ 32
  let old := c.faults.pending.find source
  let direct := directKind kind
  let msg := faultMsg source kind address forced old.isSome direct
  let disp := if c.faults.safe then 7 else if old.isSome then 6 else 0
  let c := c.onFaults (fun f => { f with
    occurrences := occ
    history := keepLast 32 (f.history ++ [c.histEntry source msg occ disp])
    pending := if f.safe then f.pending
      else match old with
        | some p => f.pending.put source { p with repeats := p.repeats + 1 }
        | none => f.pending.put source { message := msg, occurrence := occ, left := c.val 0x4C10, started := false,
                                         repeats := 0, kind, forced } })
  (c.onRec (fun k => { k with flushDue := true })).record (0x100 + kind) (some source)

/-- Set the disposition of a pending fault's history entry (R414). -/
def Chip.dispose (c : Chip) (occurrence disposition : Nat) : Chip :=
  c.onFaults (fun f => { f with history := f.history.map (fun h =>
    if h.occurrence = occurrence ∧ h.disposition = 0 then { h with disposition } else h) })

/-- End a pending fault (R411). -/
def Chip.endFault (c : Chip) (source disposition : Nat) : Chip :=
  match c.faults.pending.find source with
  | none => c
  | some p => (c.dispose p.occurrence disposition).onFaults (fun f => { f with pending := f.pending.drop source })

/-- The supervisor clears a fault through `fault_clear`, with origin SELF; it never clears a forced one (R411, R413).
[DEDUCED, notes/assumptions/86.md] -/
def Chip.selfClear (c : Chip) (source : Nat) : Chip :=
  match c.faults.pending.find source with
  | none => c
  | some p =>
    if p.forced || (p.started && p.left = 0) then c
    else (c.endFault source 1).logChange 0x4C11 0 selfWriter 0 0 0 (source + p.occurrence % 2 ^ 16 * 2 ^ 16) false

/-- A fault the device reports and the supervisor clears once its event is recorded (Table 15.3). -/
def Chip.faultAndClear (c : Chip) (source kind : Nat) (address : Option Nat) : Chip :=
  (c.faultTake source kind address false).selfClear source

/-! ### Member commands -/

/-- Queue a member command in its class (R24 to R27). -/
def Chip.issue (c : Chip) (slot cls : Nat) (op : MOp) (bytes : Nat) (purpose : Purpose) (deadline : Option Nat)
    (readSeq : Nat) : Chip :=
  let id := c.sched.nextId
  let m := c.member slot
  let cmd : MCmd := { id, cls, op, bytes, deadline, admitted := 0, aborted := none, readSeq, purpose }
  (c.setMember slot { m with queues := setAt m.queues cls (atD m.queues cls [] ++ [cmd]) }).onSched
    (fun s => { s with nextId := id + 1 })

/-- Bytes of a block list. -/
def blockBytes (n : Nat) : Nat := n * 4096

/-- A command that is an NVMe Abort. -/
def MCmd.isAbort (k : MCmd) : Bool := match k.op with | .nvmeAbort _ => true | _ => false

/-- An NVMe Abort of a command waits for its boundary. -/
def Member.abortAsked (m : Member) (id : Nat) : Bool := m.queues.any (fun q => q.any (fun a => decide (a.op = .nvmeAbort id)))

/-- Ask for an NVMe Abort of an outstanding command: an admin command, admitted at a boundary like any other (R27, R245). -/
def Chip.issueAbort (c : Chip) (slot id : Nat) : Chip :=
  if (c.member slot).abortAsked id then c
  else c.issue slot 0 (.nvmeAbort id) 0 .none none 0

/-- Where a member operation goes: the zoned namespace or the conventional one, first member block and blocks. -/
def Member.target (m : Member) : MOp → Bool × Nat × Nat
  | .readBlocks z b n => (z, b, n)
  | .writeBlocks z b d _ => (z, b, d.length)
  | .writeZeroes z b n => (z, b, n)
  | .zoneReset z => (true, z * (match m.report with | some r => r.zoneSize | none => 0), 0)
  | .zoneFinish z => (true, z * (match m.report with | some r => r.zoneSize | none => 0), 0)
  | .nvmeAbort _ => (false, 0, 0)
  | .shutdown => (false, 0, 0)

/-- Logical blocks of a namespace to a member block: 8 where it is formatted with 512-byte blocks, else 1 (R43). -/
def Member.perBlock (m : Member) (zoned : Bool) : Nat :=
  match m.report with
  | some r => 4096 / max 512 (if zoned then r.lbaZoned else r.lbaConventional)
  | none => 1

/-- Hand a command to its port, addressed in logical blocks of the namespace (R43). -/
def Chip.sendCommand (c : Chip) (slot : Nat) (k : MCmd) : Chip :=
  let m := c.member slot
  let t := m.target k.op
  c.emit (.memberCommand slot { k with lba := (t.2.1 * m.perBlock t.1, t.2.2 * m.perBlock t.1) })

/-- [DESIGN CHOICE, notes/assumptions/91.md] -/
def Chip.issueRead (c : Chip) (slot cls : Nat) (zoned : Bool) (block count : Nat) (purpose : Purpose)
    (deadline : Option Nat) (readSeq : Nat) : Chip :=
  c.issue slot cls (.readBlocks zoned block count) (blockBytes count) purpose deadline readSeq

/-- [DESIGN CHOICE, notes/assumptions/91.md] -/
def Chip.issueWrite (c : Chip) (slot cls : Nat) (zoned : Bool) (block : Nat) (data : List Bytes) (fua : Bool)
    (purpose : Purpose) : Chip :=
  c.issue slot cls (.writeBlocks zoned block data fua) (blockBytes data.length) purpose none 0

/-! ### Directory changes (R68) -/

/-- Members in service that hold a copy of the directory: conventional namespaces of members in use. -/
def Chip.directoryMembers (c : Chip) : List Nat :=
  (c.members.filter (fun p => decide (p.2.slot = .inUse) && (decide (p.2.mstate ≠ .rebuilt) || p.2.replaces.isSome) &&
    (match p.2.report with | some r => decide (r.conventionalBlocks ≠ 0) | none => false))).map Prod.fst

/-- A copy of the directory as blocks: its generation and a CRC-64 of its contents, then the contents (R68). [DESIGN CHOICE,
notes/assumptions/89.md] -/
def DirImage.copy (d : DirImage) (generation : Nat) : List Bytes :=
  let b := d.bytes
  let n := ceilDiv b.length 4096
  fit 4096 (leBytes 8 generation ++ leBytes 8 (crc64 b) ++ leBytes 8 b.length) ::
    (List.range n).map (fun j => fit 4096 ((b.drop (4096 * j)).take 4096))

/-- Make a directory change: the generation rises and every copy is written, A and B alternately (R68, Table 9.4).
[DESIGN CHOICE, notes/assumptions/89.md] -/
def Chip.directoryChange (c : Chip) : Chip :=
  let g := c.dir.generation + 1
  let d := c.directoryNow
  let c := { c with dir := { c.dir with generation := g, copies := c.dir.copies.put g [], images := c.dir.images.put g d } }
  let copy := d.copy g
  c.each c.directoryMembers (fun c s => c.issueWrite s 3 false (if g % 2 = 0 then 1024 else 2048) copy true (.directory g))

end Sys2Proof.Machine
end

