-- ==== Sys2Proof/Machine/Columns.lean ====
section
/-! DEFINITION. Where the strips of a stripe stand and which of them are known: columns of fixed stripes, of map and relocation
areas, and of groomed stripes (R53 to R58, R117, R118, R124, R154, R158, R160), zones and zone-strip parity positions
(R112 to R115). -/

namespace Sys2Proof.Machine

/-- A place on a member: its slot and node, the namespace, and the member block of the strip's first block. -/
structure Spot where
  slot : Nat
  node : Nat
  zoned : Bool
  block : Nat
deriving DecidableEq, Repr, Inhabited

/-- A stripe: its piste, the area (0 the piste's own stripes, 1 the map area, 2 + slot a relocation area) and its number there.
`newGeom` tells the new geometry of a running fixed reshape (R173). -/
structure StripeId where
  piste : Nat
  newGeom : Bool
  area : Nat
  stripe : Nat
deriving DecidableEq, Repr, Inhabited

/-- First stripe number of map-area entries (R127), and of relocation-area entries (R158). -/
def mapStripes : Nat := 2 ^ 63
def relocStripes : Nat := 0xC000000000000000

/-- Split the stripe field of a journal entry into area and stripe (R127, R158, R132). -/
def areaOf (stripe : Nat) : Nat × Nat :=
  if relocStripes ≤ stripe then (2 + (stripe - relocStripes) / 2 ^ 58, (stripe - relocStripes) % 2 ^ 58)
  else if mapStripes ≤ stripe then (1, stripe - mapStripes)
  else (0, stripe)

/-- The stripe field of an entry for a stripe of an area. -/
def stripeField (area stripe : Nat) : Nat :=
  if area = 0 then stripe
  else if area = 1 then stripe + mapStripes
  else stripe + relocStripes + (area - 2) * 2 ^ 58

/-! ### Geometry in force -/

/-- Rows of a map or relocation area of `pages` pages (R124). -/
def areaRows (g : Geometry) (pages : Nat) : Nat := ceilDiv pages (max 1 (g.m * g.k * 4))

/-- Pages of a relocation area (R158): zone records, then relocation entries. -/
def relocPages (zones stripsPerZone : Nat) : Nat := ceilDiv zones 256 + ceilDiv (zones * stripsPerZone) 512

/-- The geometry of a groomed stripe q (R176): the old one below q_switch while a reshape runs. -/
def Piste.geomOf (x : Piste) (q : Nat) : Geometry :=
  if x.groomed ∧ x.fall.state ≠ 0 ∧ q < x.fall.qSwitch then x.fall.old else x.geom

/-- The geometry a stripe is addressed with. [DEDUCED, notes/assumptions/29.md] -/
def Piste.geometry (x : Piste) (i : StripeId) : Geometry :=
  if i.area = 0 then
    if x.groomed then x.geomOf i.stripe
    else if i.newGeom then x.fall.new else x.geom
  else
    { x.mapGeom with stripCode := 0, base := if i.area = 1 then x.mapBase
        else match x.rebuild.slots[i.area - 2]? with
          | some r => r.base
          | none => 0 }

/-- The member list a stripe's table indexes: the new list for the new geometry of a reshape. -/
def Piste.listOf (x : Piste) (i : StripeId) : List (Nat × Nat) :=
  if !x.groomed && i.newGeom then x.fall.newList else x.list

/-! ### Which strips of an index are rebuilt (R154) -/

/-- A row lies in a slot's rebuilt range, taken cyclically from its start. -/
def RebuildSlot.covers (r : RebuildSlot) (row : Nat) : Bool :=
  r.state = 3 || r.state = 4 ||
    (if r.wrapped then decide (r.start ≤ row) || decide (row < r.mark) else decide (r.start ≤ row) && decide (row < r.mark))

/-- Member-list indices a stripe has columns on, before any replacement. -/
def Piste.stripeIndices (x : Piste) (i : StripeId) : List Nat :=
  let g := x.geometry i
  let row := tableRow x.seed g.n (g.rowOf i.stripe % 4096)
  (List.range (g.k + 2)).map (fun c => atD row (g.colOf i.stripe c) 0)

/-- A priority item has rebuilt a stripe for an index (R154). -/
def Piste.itemCovers (x : Piste) (i : StripeId) (e : Nat) : Bool :=
  let g := x.geometry i
  let on := x.stripeIndices i
  x.rebuild.items.any (fun t => (decide (t.peerA = e) || decide (t.peerB = e)) && decide (t.peerA ∈ on) &&
    decide (t.peerB ∈ on) && decide (g.rowOf i.stripe < t.mark))

/-- A fixed stripe is rebuilt for an index of E (R154); map and relocation areas have no pass of their own. -/
def Piste.rebuiltFor (x : Piste) (i : StripeId) (r : RebuildSlot) : Bool :=
  decide (i.area = 0) && (r.covers ((x.geometry i).rowOf i.stripe) || x.itemCovers i r.index)

/-- The part of E that applies to a row: strips of a drain that are not yet copied stand on the member itself (R161), and rows
below a copy-back mark use E without the index (R162). [DEDUCED, notes/assumptions/29.md] -/
def Piste.replFor (x : Piste) (i : StripeId) : List Nat :=
  x.repl.filter (fun e => match x.slotOf e with
    | none => true
    | some r =>
      if r.drain && !x.rebuiltFor i r then false
      else !(decide (r.state = 4) && decide ((x.geometry i).rowOf i.stripe < r.copyMark)))

/-- The indices of E that the strip of a column has stood on, in E's order. -/
def Piste.movedFrom (x : Piste) (i : StripeId) (col : Nat) : List Nat :=
  let g := x.geometry i
  let e := x.replFor i
  ((List.range e.length).filter (fun j => decide (stripIndex x.seed g (e.take j) i.stripe col = some (atD e j 0)))).map
    (fun j => atD e j 0)

/-! ### Groomed serials (R117) -/

/-- The column that member-list index e holds in a row. -/
def colOfIndex (seed n row e : Nat) : Nat :=
  ((List.range n).find? (fun c => decide (atD (tableRow seed n (row % 4096)) c 0 = e))).getD n

def inUse (seed : Nat) (g : Geometry) (e row : Nat) : Bool := decide (colOfIndex seed g.n row e < g.m * (g.k + 2))

/-- Rows below `row` of one period in which e is in use. -/
def usesBelow (seed : Nat) (g : Geometry) (e row : Nat) : Nat := countOf (List.range row) (inUse seed g e)

/-- serial(e, q) of R117. -/
def serialOf (seed : Nat) (g : Geometry) (e q : Nat) : Nat :=
  let row := q / g.m
  (if row < 4096 then 0 else row / 4096 * usesBelow seed g e 4096) + usesBelow seed g e (row % 4096) +
    (if inUse seed g e row ∧ colOfIndex seed g.n row e / (g.k + 2) < q % g.m then 1 else 0)

/-- uses(e, q) of R117. -/
def usesStripe (seed : Nat) (g : Geometry) (e q : Nat) : Bool :=
  inUse seed g e (q / g.m) && decide (colOfIndex seed g.n (q / g.m) e / (g.k + 2) = q % g.m)

/-- The serial with the offset of R176. [DEDUCED, notes/assumptions/31.md] -/
def Piste.serial (x : Piste) (e q : Nat) : Nat :=
  let b := if x.fall.state ≠ 0 ∧ q < x.fall.qSwitch then x.serialBaseOld else x.serialBase
  ((serialOf x.seed (x.geomOf q) e q : Int) + KMap.getD b e 0).toNat

/-! ### Zones -/

/-- ZCAP and ZSZE of a slot's drive. -/
def Member.zcap (m : Member) : Nat := match m.report with | some r => r.zoneCapacity | none => 0
def Member.zsze (m : Member) : Nat := match m.report with | some r => r.zoneSize | none => 0

/-- Data capacity D of a zone (Table 5.4). -/
def zoneData (mode zcap : Nat) : Nat := if mode = 0 then 15 * (zcap / 16) else zcap
/-- Strips a zone holds: t. -/
def zoneStrips (mode zcap b : Nat) : Nat := zoneData mode zcap / b
/-- pos(x) (Table 5.4). -/
def dataPos (mode x : Nat) : Nat := if mode = 0 then x + x / 15 else x

/-- The first_serial of a rebuild zone (R159). -/
def rebuildSerial : Nat := 0xFFFFFFFFFF

/-- A zone record (Table 5.2). -/
def Zone.bytes (z : Zone) : Bytes :=
  leBytes 16 (z.zstate % 16 + z.role % 4 * 2 ^ 4 + z.parityMode % 4 * 2 ^ 6 + z.piste % 256 * 2 ^ 8 +
    z.resetCount % 2 ^ 32 * 2 ^ 16 + z.firstSerial % 2 ^ 40 * 2 ^ 48 + z.finishLap % 2 ^ 40 * 2 ^ 88)

/-! Pages of a relocation area, by key: 2j is page j of the zone records, 2j + 1 page j of the relocation entries (R158). -/

def recKey (zone : Nat) : Nat := 2 * (zone / 256)
def relocKey (entry : Nat) : Nat := 2 * (entry / 512) + 1

/-- Pages of a relocation area have changed: they are written back in the order of their oldest unwritten change (R127). -/
def RebuildSlot.touch (r : RebuildSlot) (lap : Nat) (keys : List Nat) : RebuildSlot :=
  { r with unwritten := keys.foldl (fun l k => if l.any (fun t => decide (t.1 = k)) then l else l ++ [(k, lap)]) r.unwritten }

/-- A zone's record among the virtual ones changes. -/
def RebuildSlot.setRec (r : RebuildSlot) (lap z : Nat) (f : Zone → Zone) : RebuildSlot :=
  let r' := { r with recs := r.recs.upd z Zone.reset f }
  if (r.recs.getD z Zone.reset).bytes = (r'.recs.getD z Zone.reset).bytes then r' else r'.touch lap [recKey z]

/-- The relocation entries of a zone of `t` strips go (R160, R162). -/
def RebuildSlot.clearZone (r : RebuildSlot) (lap z t : Nat) : RebuildSlot :=
  let mine := fun (q : Nat × Nat × Nat × Nat) => decide (z * t ≤ q.1) && decide (q.1 < (z + 1) * t)
  { r with reloc := r.reloc.filter (fun q => !mine q) }.touch lap ((r.reloc.filter mine).map (fun (q : Nat × Nat × Nat × Nat) => relocKey q.1))

/-- The zone records of a member-list index: of its virtual member while it is in E (R160), of a member of another unit as the
home keeps them, else of the member's own slot. -/
def Chip.zonesOf (c : Chip) (x : Piste) (e : Nat) : KMap Zone :=
  match x.slotOf e with
  | some r => if r.drain then
      (match c.localSlot x e with | some s => (c.member s).zones | none => x.remote.getD e [])
    else if r.state = 4 then
      r.recs.foldl (fun m z => KMap.put m z.1 z.2)
        (match c.localSlot x e with | some s => (c.member s).zones | none => x.remote.getD e [])
    else r.recs
  | none => match c.localSlot x e with
    | some s => (c.member s).zones
    | none => x.remote.getD e []

/-- Store a zone record of a member-list index. -/
def Chip.setZoneOf (c : Chip) (p e z : Nat) (f : Zone → Zone) : Chip :=
  let x := c.piste p
  let local_ := match c.localSlot x e with
    | some s => c.updMember s (fun m => { m with zones := m.zones.upd z Zone.reset f })
    | none => c.updPiste p (fun x => { x with remote := x.remote.upd e [] (fun m => KMap.upd m z Zone.reset f) })
  match x.slotOf e with
  | some r => if r.drain ∨ (r.state = 4 ∧ (r.recs.find z).isNone) then local_
    else c.updPiste p (fun x => { x with rebuild := { x.rebuild with slots := x.rebuild.slots.map (fun t =>
      if t.index = e then t.setRec c.lap z f else t) } })
  | none => local_

/-- Capacity figures of a member-list index: those of its own drive, whatever drive now stands in the slot, or, for a member of another unit, those of the piste's first
local member (Table 3.6 wants them equal). -/
def Chip.zoneFigures (c : Chip) (x : Piste) (e : Nat) : Nat × Nat × Nat :=
  let s := match c.localSlot x e with
    | some s => s
    | none => (c.localSlots x).headD 0
  let m := c.member s
  match m.figures.or m.report with
  | some r => (r.zoneCapacity, r.zoneSize, r.zoneCount)
  | none => (0, 0, 0)

/-- The zone of R118 for serial r on an index: the largest first_serial at or below r of the same parity. An OFFLINE zone keeps its
place in the chain (R112). -/
def zoneFor (zones : KMap Zone) (p r : Nat) : Option (Nat × Zone) :=
  (zones.filter (fun z => (z.2.zstate = 1 || z.2.zstate = 2 || (z.2.zstate = 3 && decide (z.2.fill ≠ 0))) && decide (z.2.role = 0) && decide (z.2.piste = p) &&
    decide (z.2.firstSerial ≤ r) && decide (z.2.firstSerial % 2 = r % 2) && decide (z.2.firstSerial ≠ rebuildSerial))).foldl
    (fun a z => match a with
      | none => some z
      | some y => if y.2.firstSerial < z.2.firstSerial then some z else some y) none

/-- Where the strip with serial r of an index lies: zone and data offset, if the chain holds it. -/
def Chip.stripZone (c : Chip) (p : Nat) (x : Piste) (e r b : Nat) : Option (Nat × Nat) :=
  match zoneFor (c.zonesOf x e) p r with
  | none => none
  | some (z, rec) =>
    let i := (r - rec.firstSerial) / 2
    if i < zoneStrips rec.parityMode (c.zoneFigures x e).1 b then some (z, i * b) else none

/-- A map entry (Table 5.5). -/
def mapEntry (e zone offset : Nat) : Nat := 1 + e % 512 * 4 + zone * 2 ^ 11 + offset * 2 ^ 35
def mapMember (v : Nat) : Nat := bitsAt v 2 9
def mapZone (v : Nat) : Nat := bitsAt v 11 24
def mapOffset (v : Nat) : Nat := bitsAt v 35 20
def mapped (v : Nat) : Bool := v % 4 = 1

/-- A page of a relocation area: zone records of 16 bytes, or relocation entries of 8 (R158). -/
def RebuildSlot.page (r : RebuildSlot) (key : Nat) : Bytes :=
  if key % 2 = 0 then ((List.range 256).map (fun i => (r.recs.getD (key / 2 * 256 + i) Zone.reset).bytes)).flatten
  else ((List.range 512).map (fun i => match r.reloc.find (key / 2 * 512 + i) with
    | some t => leBytes 8 (mapEntry t.1 t.2.1 t.2.2)
    | none => leBytes 8 0)).flatten

/-- The relocation entries that pages of an area hold. -/
def areaEntries (area : KMap Bytes) : KMap (Nat × Nat × Nat) :=
  area.foldl (fun m g => if g.1 % 2 = 0 then m else (List.range 512).foldl (fun m i =>
    let v := leAt g.2 (8 * i) 8
    if mapped v then KMap.put m (g.1 / 2 * 512 + i) (mapMember v, mapZone v, mapOffset v) else m) m) []

/-- The zone records that pages of an area hold; how far a zone is filled is not in its record. [DEDUCED, notes/assumptions/29.md] -/
def areaRecords (area : KMap Bytes) : KMap Zone :=
  area.foldl (fun m g => if g.1 % 2 = 1 then m else (List.range 256).foldl (fun m i =>
    let v := leAt g.2 (16 * i) 16
    if v = 0 then m else KMap.put m (g.1 / 2 * 256 + i) { Zone.reset with
      zstate := v % 16, role := v / 2 ^ 4 % 4, parityMode := v / 2 ^ 6 % 4, piste := v / 2 ^ 8 % 256, resetCount := v / 2 ^ 16 % 2 ^ 32
      firstSerial := v / 2 ^ 48 % 2 ^ 40, finishLap := v / 2 ^ 88 % 2 ^ 40, fill := if v % 16 = 0 then 0 else 2 ^ 20 }) m) []

/-- Index of the relocation entry of the strip at a data offset of a zone (R158). -/
def relocIndex (zone offset b t : Nat) : Nat := zone * t + offset / b

/-- The member block of a data offset of a zone. -/
def Chip.zoneBlock (c : Chip) (slot zone mode offset : Nat) : Nat :=
  zone * (c.member slot).zsze + dataPos mode offset

/-- The place of a strip of an index at a zone and offset, through the relocation entries of its slot where it is in E
(R160); `none` where it is not rebuilt. -/
def Chip.groomedSpot (c : Chip) (x : Piste) (e zone offset b : Nat) : Option Spot :=
  let own := atD x.list e (0, 255)
  let rec_ := (c.zonesOf x e).getD zone Zone.reset
  let mode := rec_.parityMode
  -- the strips of an OFFLINE zone are unknown (R112)
  let direct : Option Spot :=
    if rec_.zstate = 3 then none else
    some { slot := own.1, node := own.2, zoned := true, block := c.zoneBlock own.1 zone mode offset }
  match x.slotOf e with
  | none => direct
  | some r =>
    let t := zoneStrips mode (c.zoneFigures x e).1 b
    match r.reloc.find (relocIndex zone offset b t) with
    | some (e2, z2, o2) =>
      let o := atD x.list e2 (0, 255)
      let mode2 := ((c.zonesOf x e2).getD z2 Zone.reset).parityMode
      some { slot := o.1, node := o.2, zoned := true, block := c.zoneBlock o.1 z2 mode2 (o2 + offset % b) }
    | none => if r.drain ∨ (r.state = 4 ∧ (r.recs.find zone).isNone) then direct else none

/-! ### Columns -/

/-- Where column `col` of a stripe has its home under the E in force, whether or not it is rebuilt there. -/
def Chip.stripHome (c : Chip) (i : StripeId) (col : Nat) : Option Spot :=
  let x := c.piste i.piste
  let g := x.geometry i
  if x.groomed ∧ i.area = 0 then
    let e := atD (x.stripeIndices i) col 0
    match c.stripZone i.piste x e (x.serial e i.stripe) g.b with
    | none => none
    | some (z, o) => c.groomedSpot x e z o g.b
  else
    match stripIndex x.seed g (x.replFor i) i.stripe col with
    | none => none
    | some e =>
      let o := atD (x.listOf i) e (0, 255)
      some { slot := o.1, node := o.2, zoned := false, block := g.stripBlock i.stripe }

/-- The strip of a column stands at its home: no index it has stood on waits to be rebuilt (R154). -/
def Chip.stripRebuilt (c : Chip) (i : StripeId) (col : Nat) : Bool :=
  let x := c.piste i.piste
  if x.groomed ∧ i.area = 0 then (c.stripHome i col).isSome
  else (x.movedFrom i col).all (fun e => match x.slotOf e with
    | none => true
    | some r => r.drain || x.rebuiltFor i r)

/-- Data offset of a block of a zone (the inverse of pos, Table 5.4). -/
def dataOffset (mode pos : Nat) : Nat := if mode = 0 then pos - pos / 16 else pos

/-- A resyncing member's log still holds a place (R150): its region stands in the log, and the resync, which works through the first
region in order, has not passed it. [DEDUCED, notes/assumptions/30.md] -/
def Chip.inLog (c : Chip) (i : StripeId) (s : Spot) : Bool :=
  let x := c.piste i.piste
  match c.logs.find? (fun l => l.open_ && decide (l.slot = s.slot)) with
  | none => true
  | some l =>
    let m := c.member s.slot
    if s.zoned then
      let z := s.block / max 1 m.zsze
      let strip := dataOffset (m.zone z).parityMode (s.block % max 1 m.zsze) / max 1 (x.geometry i).b
      decide (z ∈ l.zones) && !(l.rows.isEmpty && decide (l.zones.headD z = z) && decide (strip < l.pos))
    else
      let row := (x.geometry i).rowOf i.stripe
      decide ((i.piste, row / 4096) ∈ l.rows) && !(decide (l.rows.head? = some (i.piste, row / 4096)) && decide (row % 4096 < l.pos))

/-- A member of this unit is FAILED for a piste: it has failed, or it is being rebuilt and could not enter this piste's E (R151). -/
def Chip.failedFor (c : Chip) (x : Piste) (slot : Nat) : Bool :=
  match (c.member slot).mstate with
  | .failed => true
  | .rebuilding => (List.range x.list.length).any (fun e =>
      decide ((atD x.list e (0, 255)).1 = slot) && c.ownNode (atD x.list e (0, 255)).2 && decide (e ∉ x.repl))
  | _ => false

/-- The member of a place can be read and written for a stripe. [DEDUCED, notes/assumptions/30.md] -/
def Chip.spotUp (c : Chip) (i : StripeId) (s : Spot) : Bool :=
  if c.ownNode s.node then
    let m := c.member s.slot
    match m.mstate with
    | .resyncing => decide (m.slot ≠ .contained) && !c.inLog i s
    | _ => decide (m.slot ≠ .contained) && !c.failedFor (c.piste i.piste) s.slot
  else c.reachable s.node

/-- The place of a known column; `none` where the strip is unknown. [DEDUCED, notes/assumptions/30.md] -/
def Chip.known (c : Chip) (i : StripeId) (col : Nat) : Option Spot :=
  match c.stripHome i col with
  | none => none
  | some s => if c.stripRebuilt i col && c.spotUp i s then some s else none

/-- Unknown columns of a stripe. -/
def Chip.unknownCols (c : Chip) (i : StripeId) : List Nat :=
  (List.range (((c.piste i.piste).geometry i).k + 2)).filter (fun col => (c.known i col).isNone)

/-- Unknown columns, those of an unreachable unit not counted: what makes a stripe lost (R61, R163). -/
def Chip.lostCols (c : Chip) (i : StripeId) : List Nat :=
  (c.unknownCols i).filter (fun col => match c.stripHome i col with
    | some s => !(!c.reachable s.node && c.stripRebuilt i col)
    | none => true)

/-- The columns Table 3.4 reads to solve a set of unknown columns. -/
def neededCols (k : Nat) (unknown : List Nat) : List Nat :=
  let d := (List.range k).filter (fun x => decide (x ∉ unknown))
  let n := (unknown.filter (fun x => decide (x < k))).length
  if n = 0 then d
  else if n = 1 then (if k ∈ unknown then d ++ [k + 1] else d ++ [k])
  else d ++ [k, k + 1]

/-- Host blocks a range of a fixed stripe covers, by column. -/
def Geometry.hostRange (g : Geometry) (stripe col first count : Nat) : List Nat :=
  (List.range count).map (fun j => g.hostBlock stripe col (first + j))

/-! ### The map -/

/-- The map entry of a granule; 0 where its page is absent or the granule was never mapped. -/
def Piste.mapOf (x : Piste) (gno : Nat) : Nat := ((x.pages.getD (gno / 512) MapPage.reset).entries).getD (gno % 512) 0

def Piste.pageHere (x : Piste) (page : Nat) : Bool := (x.pages.getD page MapPage.reset).present

/-- Stripe and column of a mapped granule (R118): the search of the serial function. -/
def Chip.stripeOfEntry (c : Chip) (x : Piste) (v : Nat) : Option (Nat × Nat) :=
  let e := mapMember v
  let rec_ := (c.zonesOf x e).getD (mapZone v) Zone.reset
  ((List.range x.nextQ).find? (fun q =>
    let g := x.geomOf q
    usesStripe x.seed g e q && decide (x.serial e q = rec_.firstSerial + 2 * (mapOffset v / g.b)))).map (fun q =>
      let g := x.geomOf q
      (q, colOfIndex x.seed g.n (q / g.m) e % (g.k + 2)))

/-! ### Passes, and critical pistes (R155, R157) -/

/-- Rows a pass walks: of both geometries while a reshape is paused. -/
def Piste.passRows (x : Piste) : Nat :=
  if x.fall.state ≠ 0 ∧ !x.groomed then max x.geom.rows (ceilDiv x.fall.position (max 1 x.fall.new.m)) else x.geom.rows

/-- A priority item has passed its last row or zone. -/
def Chip.itemPassed (c : Chip) (x : Piste) (t : PriorityItem) : Bool :=
  if x.groomed then decide ((c.zoneFigures x t.peerA).2.2 ≤ t.mark) else decide (x.passRows ≤ t.mark)

/-- An index is unknown here for R157: an unreachable unit's does not count. -/
def Chip.criticalIndex (c : Chip) (x : Piste) (i : Nat) : Bool :=
  (match c.localSlot x i with
   | some s => (c.member s).unknown
   | none => false) ||
  (match x.slotOf i with
   | some r => decide (r.state ≠ 3)
   | none => false)

/-- A stripe of a row has columns on two indices. -/
def Piste.rowPairs (x : Piste) (a b row : Nat) : Bool :=
  (List.range x.geom.m).any (fun j =>
    let on := x.stripeIndices ⟨0, false, 0, row * x.geom.m + j⟩
    decide (a ∈ on) && decide (b ∈ on))

/-- A row is rebuilt for an index, by its own pass or by an item of it (R154). -/
def Piste.rowRebuilt (x : Piste) (e row : Nat) : Bool :=
  (match x.slotOf e with | some r => r.covers row | none => false) ||
    x.rebuild.items.any (fun t => (decide (t.peerA = e) || decide (t.peerB = e)) && decide (row < t.mark))

/-- The rows at which what is rebuilt for a piste begins or ends. -/
def Piste.rowBounds (x : Piste) : List Nat :=
  0 :: (x.rebuild.slots.flatMap (fun r => [r.start, r.mark]) ++ x.rebuild.items.map (fun t => t.mark)).filter (fun r => decide (r < x.geom.rows))

/-- Every stripe with columns on two indices of a fixed piste is rebuilt for at least one of them. Between two bounds all rows are alike,
and the table's rows repeat after 4,096 (R56). -/
def Piste.rowsRebuilt (x : Piste) (a b : Nat) : Bool :=
  x.rowBounds.all (fun lo =>
    let hi := x.rowBounds.foldl (fun m r => if lo < r then min m r else m) x.geom.rows
    x.rowRebuilt a lo || x.rowRebuilt b lo || (List.range (min 4096 (hi - lo))).all (fun j => !x.rowPairs a b (lo + j)))

/-- The strip of a groomed stripe on an index has its relocation entry. -/
def Chip.stripMoved (c : Chip) (p : Nat) (x : Piste) (e q : Nat) : Bool :=
  match x.slotOf e, c.stripZone p x e (x.serial e q) (x.geomOf q).b with
  | some r, some (z, o) =>
    let t := zoneStrips ((c.zonesOf x e).getD z Zone.reset).parityMode (c.zoneFigures x e).1 (x.geomOf q).b
    (r.reloc.find (relocIndex z o (x.geomOf q).b t)).isSome
  | _, _ => false

/-- Every stripe with columns on both indices of a pair has been rebuilt for one of them (R157): where the pair has a priority item, once
the item has passed its last row (R155). -/
def Chip.pairRebuilt (c : Chip) (p : Nat) (x : Piste) (a b : Nat) : Bool :=
  match x.rebuild.items.find? (fun t => decide (t.peerA = a) && decide (t.peerB = b) || decide (t.peerA = b) && decide (t.peerB = a)) with
  | some t => c.itemPassed x t
  | none =>
    if (x.slotOf a).isNone && (x.slotOf b).isNone then false
    else if x.groomed then x.held.all (fun q =>
      let on := x.stripeIndices ⟨p, false, 0, q.1⟩
      !(decide (a ∈ on) && decide (b ∈ on)) || c.stripMoved p x a q.1 || c.stripMoved p x b q.1)
    else x.rowsRebuilt a b

/-- A piste is critical (R157): two of its indices are unknown and not every stripe with columns on both is rebuilt for one. -/
def Chip.critical (c : Chip) (p : Nat) (x : Piste) : Bool :=
  let u := (List.range x.list.length).filter (c.criticalIndex x)
  u.any (fun a => u.any (fun b => decide (a < b) && !c.pairRebuilt p x a b))

end Sys2Proof.Machine
end

