-- ==== Sys2Proof/Machine/Sched.lean ====
section
/-! DEFINITION. The stride scheduler: member budgets and admission (R24 to R28), engine budgets and plans (R29, R30), stride
overruns (R31 to R33). -/

namespace Sys2Proof.Machine

/-! ### Member budgets -/

/-- The credit a link as trained earns in a stride (R28, Table 2.1): 3.9375 GB/s a lane at 32 GT/s. [DEDUCED, notes/assumptions/11.md] -/
def autoRate (ticks speed width : Nat) : Nat := ticks * 63 * width / 16 / 2 ^ (5 - speed)

/-- The member credit in force (R28): a value that is set replaces the automatic one and is clipped to it. -/
def Chip.memberRate (c : Chip) (slot : Nat) : Nat :=
  let m := c.member slot
  let auto := autoRate c.clk.ticks m.linkSpeed m.linkWidth
  let v := c.val 0x1230 slot
  if v = 0 then auto else min v auto

/-- Some piste of which the slot holds a member is critical (R157). [DEDUCED, notes/assumptions/93.md] -/
def Chip.criticalSlot (c : Chip) (slot : Nat) : Bool :=
  c.livePistes.any (fun p => decide (slot ∈ c.localSlots p.2) && c.critical p.1 p.2)

/-- The share of a class as set: classes 5 and 6 are other objects (Table 2.7). [DEDUCED, notes/assumptions/93.md] -/
def Chip.shareSet (c : Chip) (cls : Nat) : Nat :=
  if cls = 5 then c.val 0x2C10 else if cls = 6 then c.val 0x2830 else c.val 0x1240 cls

/-- The sum of the shares, with REBUILD's taken as given. [DEDUCED, notes/assumptions/93.md] -/
def Chip.shareSum (c : Chip) (rebuild : Nat) : Nat :=
  sumOf (List.range 8) (fun i => if i = 5 then rebuild else c.shareSet i)

/-- The minimum share in force on a member (R157): REBUILD's is the critical one while a piste of it is critical, at most
what fits in 256. [DEDUCED, notes/assumptions/93.md] -/
def Chip.share (c : Chip) (slot cls : Nat) : Nat :=
  if cls = 5 && c.criticalSlot slot then min (c.val 0x2C11) (256 - c.shareSum 0) else c.shareSet cls

/-- A member operation writes to the drive. -/
def MOp.writes : MOp → Bool
  | .writeBlocks .. => true
  | .writeZeroes .. => true
  | .zoneReset _ => true
  | .zoneFinish _ => true
  | _ => false

/-- The writes of Table 15.5: the safe-state vault, the recorder flush. -/
def Purpose.inSafe : Purpose → Bool
  | .vault _ => true
  | .flushLog => true
  | _ => false

/-- A unit may write to members: it is ACTIVE or ALONE and its lease is not near its end (R273, R282). -/
def Chip.mayWrite (c : Chip) : Bool :=
  (c.pair.role = .alone || c.pair.role = .active) && !c.pair.writeStop && !c.onBackup

/-- Member commands a unit may admit now: none on a contained or unpowered port (R252), none on backup (R364); in the safe state and while FENCED
only NVMe Abort and the writes of Table 15.5 (R282, R417). -/
def Chip.mayAdmit (c : Chip) (slot : Nat) (k : MCmd) : Bool :=
  let m := c.member slot
  m.linkUp && !c.halted (.member slot) && decide (m.slot ≠ .contained) && (decide (m.slot ≠ .quiescing) || k.isAbort) && !c.onBackup &&
  (match k.op with
   | .nvmeAbort _ => true
   | .shutdown => true
   | op =>
     if c.faults.safe then k.purpose.inSafe
     else if c.pair.role = .fenced then k.purpose.inSafe
     else if op.writes then c.mayWrite || k.purpose.inSafe || decide (k.purpose = .label)
     else true)

/-- What admission works on: the member's credits, the room left, the queues, and the commands admitted so far. -/
structure Admission where
  credit : Int
  ccred : List Int
  room : Nat
  queues : List (List MCmd)
  admitted : List MCmd
deriving DecidableEq, Repr

/-- Commands that move no payload bypass the byte credits (R27): admitted while there is room. -/
def admitFree (ok : MCmd → Bool) : List MCmd → Nat → List MCmd × List MCmd × Nat
  | [], room => ([], [], room)
  | k :: r, room =>
    if k.bytes = 0 ∧ ok k ∧ 0 < room then
      let x := admitFree ok r (room - 1)
      (k :: x.1, x.2.1, x.2.2)
    else
      let x := admitFree ok r room
      (x.1, k :: x.2.1, x.2.2)

/-- The loop of one class in a pass of R26: heads are admitted while the credits are positive and there is room. -/
def admitHeads (ok : MCmd → Bool) (guarded : Bool) : List MCmd → Int → Int → Nat →
    List MCmd × List MCmd × Int × Int × Nat
  | [], cc, cr, room => ([], [], cc, cr, room)
  | k :: r, cc, cr, room =>
    if ok k ∧ (guarded → 0 < cc) ∧ 0 < cr ∧ 0 < room ∧ k.bytes ≠ 0 then
      let x := admitHeads ok guarded r (if guarded then cc - k.bytes else cc) (cr - k.bytes) (room - 1)
      (k :: x.1, x.2)
    else ([], k :: r, cc, cr, room)

/-- One class of a pass. -/
def admitClass (ok : MCmd → Bool) (guarded : Bool) (a : Admission) (cls : Nat) : Admission :=
  let x := admitHeads ok guarded (atD a.queues cls []) (atD a.ccred cls 0) a.credit a.room
  { credit := x.2.2.2.1, ccred := setAt a.ccred cls x.2.2.1, room := x.2.2.2.2,
    queues := setAt a.queues cls x.2.1, admitted := a.admitted ++ x.1 }

/-- The commands that bypass the credits, class by class. -/
def admitBypass (ok : MCmd → Bool) (a : Admission) (cls : Nat) : Admission :=
  let x := admitFree ok (atD a.queues cls []) a.room
  { a with room := x.2.2, queues := setAt a.queues cls x.2.1, admitted := a.admitted ++ x.1 }

/-- The credits of a stride added (R26). -/
def creditUp (rate : Nat) (credit : Int) : Int := min (credit + rate) (16 * rate)
/-- [DEDUCED, notes/assumptions/11.md] -/
def classUp (rate share : Nat) (credit : Int) : Int := min (credit + (rate * share / 256 : Nat)) (16 * rate * share / 256 : Nat)

/-- Admission of one member at a stride boundary (R26): the credits rise, then the two passes; in brace
REBUILD, GROOM and SWEEP have no part in the second (R361). The commands that bypass the credits (R27) go first, class by class,
while there is room: where they stand in the boundary's order the spec leaves open. [DESIGN CHOICE, notes/assumptions/100.md] -/
def admitMember (rate : Nat) (shares : List Nat) (ok : MCmd → Bool) (braced : Bool) (a : Admission) : Admission :=
  let a := { a with credit := creditUp rate a.credit,
                    ccred := (List.range 8).map (fun i => classUp rate (atD shares i 0) (atD a.ccred i 0)) }
  let a := (List.range 8).foldl (admitBypass ok) a
  let a := (List.range 8).foldl (admitClass ok true) a
  (if braced then List.range 5 else List.range 8).foldl (admitClass ok false) a

/-- The writes of a lap's lane go from plan 256L+2 on (Table 2.5). [DEDUCED, notes/assumptions/16.md] -/
def Chip.laneWaits (c : Chip) (k : MCmd) : Bool :=
  decide (c.clk.stride % 256 = 1) && (match k.purpose with
    | .lane _ => true
    | .logWrite _ => true
    | _ => false)

/-- The commands an admission's NVMe Aborts name: their aborts are sent now (R245). -/
def markAborted (now : List MCmd) (ns : Nat) (k : MCmd) : MCmd :=
  if now.any (fun a => decide (a.op = .nvmeAbort k.id)) then { k with aborted := some ns } else k

/-- A gather wants blocks, under the old geometry, of the new stripe that the fall line has just passed (R173). -/
def Chip.movedGather (c : Chip) (g : Gather) : Bool :=
  let x := c.piste g.piste
  let f := x.fall
  !x.groomed && decide (f.state ≠ 0) && decide (f.movedStride = c.clk.stride + 1) && !g.newGeom && decide (g.area = 0) &&
    g.want.any (fun col => decide (col < x.geom.k) && (List.range g.count).any (fun j =>
      decide (x.geom.hostBlock g.stripe col (g.first + j) / max 1 f.new.d + 1 = f.position)))

/-- In the stride in which a reshape's F advances no member read is admitted for the blocks it passes (R173). -/
def Chip.movedRead (c : Chip) (k : MCmd) : Bool :=
  match k.purpose with
  | .gather id _ => (match c.gathers.find id with | some g => c.movedGather g | none => false)
  | _ => false

/-- Admit the commands of a member, if the plan was frozen (Table 2.4; the credits rise all the same, R26); those admitted become
outstanding. [DEDUCED, notes/assumptions/17.md] -/
def Chip.admitSlot (c : Chip) (frozen : Bool) (slot : Nat) : Chip × List (Nat × MCmd) :=
  let m := c.member slot
  let a := admitMember (c.memberRate slot) ((List.range 8).map (c.share slot))
    (fun k => frozen && decide (k.id < c.sched.planId) && !c.laneWaits k && !c.movedRead k && c.mayAdmit slot k) c.braced
    { credit := m.credit, ccred := m.ccred, room := c.val 0x1231 slot - m.outstanding.length, queues := m.queues,
      admitted := [] }
  let now := a.admitted.map (fun k => { k with admitted := c.clk.opNs })
  (c.setMember slot { m with credit := a.credit, ccred := a.ccred, queues := a.queues,
                             outstanding := (m.outstanding ++ now).map (markAborted now c.clk.opNs),
                             lastIoNs := if now.isEmpty then m.lastIoNs else c.clk.opNs },
   now.map (fun k => (slot, k)))

/-- Admit for every member, in slot order. -/
def Chip.admitAll (c : Chip) (frozen : Bool) : Chip × List (Nat × MCmd) :=
  c.members.keys.foldl (fun a slot =>
    let x := a.1.admitSlot frozen slot
    (x.1, a.2 ++ x.2)) (c, [])

/-- Hand commands to the ports: the first `n` now, the rest in the next stride (Table 2.4); all where `n` is none. -/
def Chip.handOver (c : Chip) (l : List (Nat × MCmd)) (n : Option Nat) : Chip :=
  let k := n.getD l.length
  let c := c.each (l.take k) (fun c x => c.sendCommand x.1 x.2)
  c.onSched (fun s => { s with unhanded := l.drop k })

/-- One stride less on a read's deadline (R140). -/
def MCmd.tick (k : MCmd) : MCmd := { k with deadline := k.deadline.map (· - 1) }

/-- Deadlines of the reads outstanding count a stride (R140). -/
def Chip.tickDeadlines (c : Chip) : Chip :=
  { c with members := c.members.mapVal (fun _ m => { m with outstanding := m.outstanding.map MCmd.tick }) }

/-! ### Engine budgets -/

/-- Engine clocks of a stride at 1.25 GHz (Table 2.1). -/
def engineClocks (ticks : Nat) : Nat := ticks * 5 / 4

/-- The engine budget of a stride (R29, R33). -/
def Chip.engineBudget (c : Chip) : Nat :=
  engineClocks c.clk.ticks - 64 - c.val 0x1223 * (engineClocks c.clk.ticks / 16)

/-- The estimate of a step (R30). -/
def stepClocks (bytes : Nat) : Nat := ceilDiv bytes 32 + 16

/-- Cut engine work into steps of at most 32 KiB of input (R30). -/
def cutSteps (id cls job : Nat) : Nat → Nat → List EngineStep
  | 0, _ => []
  | n + 1, bytes =>
    let b := min 32768 bytes
    { id, cls, bytes := b, clocks := stepClocks b, job } :: cutSteps (id + 1) cls job n (bytes - b)

/-- Ask for engine work on a job. -/
def Chip.engineWork (c : Chip) (cls bytes job : Nat) : Chip :=
  let n := max 1 (ceilDiv bytes 32768)
  c.onSched (fun s => { s with requests := s.requests ++ cutSteps s.nextId cls job n bytes, nextId := s.nextId + n })

/-- Clocks a list of steps is estimated at. -/
def clocksOf (l : List EngineStep) : Nat := sumOf l (fun x => x.clocks)

/-- Put a step into the first engine's queue that has room under the budget (R29); what an engine carries is charged at the boundary
that finds it (Table 2.4). [DEDUCED, notes/assumptions/16.md] -/
def placeStep (budget : Nat) (e : KMap Engine) (x : EngineStep) : Option (KMap Engine) :=
  match (List.range 24).find? (fun i =>
      let g := KMap.getD e i Engine.reset
      decide (clocksOf g.loaded + x.clocks ≤ budget)) with
  | none => none
  | some i => some (KMap.upd e i Engine.reset (fun g => { g with loaded := g.loaded ++ [x] }))

/-- Fill the engines' queues from the requests of one class, in order. [DEDUCED, notes/assumptions/16.md] -/
def placeClass (budget cls : Nat) (a : KMap Engine × List EngineStep) : KMap Engine × List EngineStep :=
  a.2.foldl (fun a x =>
    if x.cls = cls then
      match placeStep budget a.1 x with
      | some e => (e, a.2)
      | none => (a.1, a.2 ++ [x])
    else (a.1, a.2 ++ [x])) (a.1, [])

/-- Place steps in order, of whatever class; those that do not fit stay. -/
def placeFirst (budget : Nat) (e : KMap Engine) (l : List EngineStep) : KMap Engine × List EngineStep :=
  l.foldl (fun a x => match placeStep budget a.1 x with
    | some e => (e, a.2)
    | none => (a.1, a.2 ++ [x])) (e, [])

/-- The stripe engines are unclocked on backup, and stopped in the safe state (R13, R364, R417). -/
def Chip.enginesStopped (c : Chip) : Bool := c.onBackup || c.faults.safe

/-- All engine work is abandoned. [DEDUCED, notes/assumptions/76.md] -/
def Chip.stopEngines (c : Chip) : Chip :=
  c.onSched (fun s => { s with requests := [], moved := [], engines := s.engines.mapVal (fun _ e =>
    { e with running := [], loaded := [], carried := 0, overrunIds := [] }) })

/-- Freeze plan n+1 (R21): the engines' queues are loaded within the budget (R29), the steps an overrun moved first (Table 2.4),
then the rest in class priority. -/
def Chip.planCutoff (c : Chip) : Chip :=
  if !c.clk.running || c.sched.frozen then c
  else
    let f := if c.enginesStopped then (c.sched.engines, c.sched.moved) else placeFirst c.engineBudget c.sched.engines c.sched.moved
    let r := if c.enginesStopped then (f.1, c.sched.requests)
      else (List.range 8).foldl (fun a i => placeClass c.engineBudget i a) (f.1, c.sched.requests)
    c.onSched (fun s => { s with engines := r.1, moved := f.2, requests := r.2, frozen := true, planId := s.nextId })

/-! ### Overruns -/

/-- Engines that still hold a step of the stride just ended. -/
def Scheduler.unfinished (s : Scheduler) : Bool := s.engines.vals.any (fun e => !e.running.isEmpty)

/-- Some engine step is unfinished at a second consecutive boundary (R32). -/
def Scheduler.twice (s : Scheduler) : Bool :=
  s.engines.vals.any (fun e => e.running.any (fun x => decide (x.id ∈ e.overrunIds)))

/-- The steps in priority order. -/
def byPriority (l : List EngineStep) : List EngineStep :=
  (List.range 8).flatMap (fun i => l.filter (fun x => decide (x.cls = i)))

/-- The first steps of a list that fit a budget, and those after them: the lowest-priority steps are moved until the rest fits
(Table 2.4). -/
def fitPrefix (budget : Nat) : List EngineStep → List EngineStep × List EngineStep
  | [] => ([], [])
  | x :: r =>
    if x.clocks ≤ budget then
      let y := fitPrefix (budget - x.clocks) r
      (x :: y.1, y.2)
    else ([], x :: r)

def fitSteps (budget : Nat) (l : List EngineStep) : List EngineStep × List EngineStep := fitPrefix budget (byPriority l)

/-- The clocks an engine still needs for what it has not finished: what is left of the step under way is between nothing and its
estimate, and no count of it is given; the steps behind it have not begun. [DESIGN CHOICE, notes/assumptions/101.md] -/
def remainingClocks (draw : Nat) : List EngineStep → Nat
  | [] => 0
  | x :: r => draw % (x.clocks + 1) + clocksOf r

/-- An engine at the boundary: unfinished steps run on, their remaining clocks charged to its budget; the loaded steps that fit
begin. -/
def Engine.boundary (e : Engine) (budget draw : Nat) (dispatch : Bool) : Engine × List EngineStep :=
  let carried := remainingClocks draw e.running
  let f := if dispatch then fitSteps (budget - carried) e.loaded else ([], [])
  ({ e with running := e.running ++ f.1, overrunIds := e.running.map (fun x => x.id), carried := carried,
            loaded := if dispatch then [] else e.loaded }, f.2)

/-- All engines at the boundary; steps that did not fit go to the front of plan n+2 (Table 2.4). -/
def Scheduler.boundary (s : Scheduler) (budget : Nat) (draw : Nat → Nat) (dispatch : Bool) : Scheduler :=
  let r := s.engines.foldl (fun (a : KMap Engine × List EngineStep) e =>
    let x := e.2.boundary budget (draw e.1) dispatch
    (a.1 ++ [(e.1, x.1)], a.2 ++ x.2)) ([], [])
  { s with engines := r.1, moved := s.moved ++ byPriority r.2 }

/-- The overruns found at the boundary of stride n (R31): one for each of the three conditions that holds. [DEDUCED, notes/assumptions/16.md] -/
def Scheduler.overruns (s : Scheduler) : Nat :=
  (if s.unfinished then 1 else 0) + (if s.frozen then 0 else 1) + (if s.unhanded.isEmpty then 0 else 1)

/-- Count and report the overruns (R31, R32). -/
def Chip.reportOverruns (c : Chip) (n : Nat) : Chip :=
  if n = 0 then c
  else
    let c := c.bump 0x1220 0 n
    let c := c.setVal 0x1222 0 c.clk.stride
    let c := c.onSched (fun s => { s with overrunsLap := s.overrunsLap + n, overrunOpen := true })
    c.each (List.range n) (fun c _ => c.faultTake 0x41 1 (some (c.clk.stride % 2 ^ 40)) false)

/-- Work carried forward has finished: the supervisor clears the fault, unless it is stuck (R32). -/
def Chip.clearOverrun (c : Chip) : Chip :=
  let s := c.sched
  if s.overrunOpen && !s.stuck && s.unhanded.isEmpty && !s.heldPlan &&
      s.engines.vals.all (fun e => e.running.all (fun x => decide (x.id ∉ e.overrunIds))) then
    (c.selfClear 0x41).onSched (fun s => { s with overrunOpen := false })
  else c

/-- Plans at the boundary of stride n: overruns, engine queues, member admissions (R21, R31, Table 2.4). `handed` is how many
admissions reach the ports by tick 256. -/
def Chip.issuePlan (c : Chip) (handed : Option Nat) : Chip :=
  let s := c.sched
  let n := s.overruns
  let frozen := s.frozen
  -- a fault that was left uncleared stays so until it is cleared from outside; the next one is another (R32)
  let stuck := (s.stuck && c.faultPends 0x41) || s.twice || (s.heldPlan && !frozen)
  let late := s.unhanded
  let c := c.onSched (fun s => { s with stuck, heldPlan := !frozen, frozen := false, unhanded := [] })
  let c := c.reportOverruns n
  let c := { c.onSched (fun s => s.boundary c.engineBudget (fun i => Config.stepLeft (c.draws + i)) frozen) with
    draws := c.draws + (if s.unfinished then 24 else 0) }
  let r := c.admitAll frozen
  (r.1.handOver (late ++ r.2) handed).clearOverrun

/-- The per-lap derate (R33). -/
def Chip.derateLap (c : Chip) : Chip :=
  let s := c.sched
  let d := c.val 0x1223
  let c := c.onSched (fun s => { s with overrunsLap := 0 })
  if c.val 0x1221 < s.overrunsLap then
    ((c.setVal 0x1223 0 (min 4 (d + 1))).onSched (fun s => { s with derateLaps := 16 })).record 0x010
  else if s.derateLaps ≤ 1 then
    let c := c.onSched (fun s => { s with derateLaps := 0 })
    if d = 0 then c else c.setVal 0x1223 0 0
  else c.onSched (fun s => { s with derateLaps := s.derateLaps - 1 })

/-- Clocks of the last complete lap (Table 2.7). -/
def Chip.engineLap (c : Chip) : Chip :=
  c.onSched (fun s => { s with engines := s.engines.mapVal (fun _ e => { e with clocksLast := e.clocksLap, clocksLap := 0 }) })

/-- Take a finished step off its engine (R23); the job's number where the step was its last. -/
def Chip.stepDone (c : Chip) (engine step : Nat) : Chip × Option Nat :=
  let e := c.engine engine
  match e.running.find? (fun x => decide (x.id = step)) with
  | none => (c, none)
  | some x =>
    let e := { e with running := e.running.filter (fun y => decide (y.id ≠ step)), clocksLap := e.clocksLap + x.clocks }
    let c := c.onSched (fun s => { s with engines := s.engines.put engine e })
    let left := c.sched.requests ++ c.sched.moved ++ (c.sched.engines.vals.map (fun e => e.running ++ e.loaded)).flatten
    (c.clearOverrun, if left.any (fun y => decide (y.job = x.job)) then none else some x.job)


end Sys2Proof.Machine
end

