-- ==== Sys2Proof/Machine/Gather.lean ====
section
/-! DEFINITION. Strips being collected: reads on members and over the ring, reconstructions by Table 3.4 and hedges (R119,
R140 to R144, R319). A gather is finished when every wanted column is at hand or solved, and lost when more than two columns
are unknown. -/

namespace Sys2Proof.Machine

/-! ### Reading one column -/

/-- The zone-strip parity mode of the zone at a place (1, which adds nothing, for a conventional namespace). -/
def Chip.spotMode (c : Chip) (s : Spot) : Nat :=
  if s.zoned then
    let m := c.member s.slot
    (m.zone (s.block / max 1 m.zsze)).parityMode
  else 1

/-- The member blocks that hold blocks `first` … `first + count - 1` of the strip at a place: the first, and how many. -/
def Chip.physical (c : Chip) (s : Spot) (first count : Nat) : Nat × Nat :=
  let mode := c.spotMode s
  if s.zoned ∧ mode = 0 then
    let z := (c.member s.slot).zsze
    let start := s.block / max 1 z * z
    let o := dataOffset 0 (s.block - start)
    let lo := dataPos 0 (o + first)
    let hi := dataPos 0 (o + first + count - 1)
    (start + lo, hi + 1 - lo)
  else (s.block + first, count)

/-- Drop the zone-strip parity blocks from what was read at a place. -/
def Chip.stripData (c : Chip) (s : Spot) (first count : Nat) (l : List Bytes) : List Bytes :=
  if s.zoned ∧ c.spotMode s = 0 then
    let rel := (c.physical s first count).1 % max 1 (c.member s.slot).zsze
    ((List.range l.length).filter (fun j => decide ((rel + j) % 16 ≠ 15))).map (fun j => atD l j [])
  else l

/-- The deadline of a read (R140): classes RECON, HOST_READ and MAP. -/
def Chip.deadlineFor (c : Chip) (piste cls : Nat) : Option Nat :=
  if cls ≤ 2 then
    let d := c.val 0x2C08 piste
    some (if d = 0 then c.val 0x2C00 else d)
  else none

/-- The stripe reference of a STRIPE message (Table 11.7). -/
def Chip.stripeRef (_c : Chip) (i : StripeId) (mask generation : Nat) : StripeRef :=
  { piste := i.piste, kind := 0, outcome := 0, acked := false, degraded := false, columnMask := mask,
    stripe := stripeField i.area i.stripe, generation, atStride := 0 }

/-- Ask a member for a column of a gather: a member read, or STRIP_READ to its node (R319). -/
def Chip.readColumn (c : Chip) (g : Gather) (cls readSeq col : Nat) (s : Spot) : Chip :=
  if c.ownNode s.node then
    let r := c.physical s g.first g.count
    c.issueRead s.slot cls s.zoned r.1 r.2 (.gather g.id col) (c.deadlineFor g.piste cls) readSeq
  else
    let t := c.ring.nextReqTag
    let c := c.onRing (fun r => { r with nextReqTag := t % (2 ^ 32 - 1) + 1, reads := r.reads ++ [(t, g.id, col, c.deadlineFor g.piste cls)] })
    c.emit (.stripe s.node 1 (c.stripeRef ⟨g.piste, g.newGeom, g.area, g.stripe⟩ (2 ^ col) 0)
      (leBytes 2 g.first ++ leBytes 2 g.count ++ leBytes 1 cls ++ leBytes 4 t))

def Gather.stripeId (g : Gather) : StripeId := ⟨g.piste, g.newGeom, g.area, g.stripe⟩

def Chip.gather (c : Chip) (id : Nat) : Option Gather := c.gathers.find id
def Chip.setGather (c : Chip) (g : Gather) : Chip := { c with gathers := c.gathers.put g.id g }
def Chip.dropGather (c : Chip) (id : Nat) : Chip := { c with gathers := c.gathers.drop id }

/-- Columns a gather still lacks. -/
def Gather.lacking (g : Gather) : List Nat := g.want.filter (fun x => (g.got.find x).isNone)

/-- A gather still collects columns of a stripe. -/
def Gather.live (g : Gather) (i : StripeId) : Bool := decide (g.stripeId = i) && !g.want.isEmpty

/-- A column that another READ's gather has in the stride buffers over a range. -/
def Gather.shares (g : Gather) (i : StripeId) (first count col : Nat) : Option (List Bytes) :=
  match g.why with
  | .hostRead _ _ =>
    if g.live i && decide (g.first ≤ first) && decide (first + count ≤ g.first + g.count) && decide (col ∈ g.want) then
      (g.got.find col).map (fun l => (l.drop (first - g.first)).take count)
    else none
  | _ => none

/-- Blocks of a strip that READs under way on a fixed piste hold in the stride buffers, as they came from the members. -/
def Chip.readBuffers (c : Chip) (i : StripeId) (first count col : Nat) : Option (List Bytes) :=
  let x := c.piste i.piste
  let g := x.geometry i
  if x.groomed || decide (i.area ≠ 0) || decide (g.k ≤ col) then none
  else
    let blocks := (List.range count).map (fun j => g.hostBlock i.stripe col (first + j))
    (c.cqi.cmds.find? (fun y => decide (y.opcode = 1) && decide (y.piste = i.piste) && !y.dead &&
      decide (y.stage = .reading) && blocks.all (fun b => (y.data.find b).isSome && (y.dataAcc.find b).isNone &&
        (c.versions i.piste b).isEmpty))).map (fun y => blocks.map (fun b => y.data.getD b []))

/-- A strip that is already in the stride buffers (R141): a READ's, whose blocks no entry overwrites while it is served (R199). -/
def Chip.inBuffers (c : Chip) (i : StripeId) (first count col : Nat) : Option (List Bytes) :=
  match c.gathers.vals.findSome? (fun g => g.shares i first count col) with
  | some l => some l
  | none => c.readBuffers i first count col

/-- Take the strips a reconstruction needs that are already in the stride buffers. -/
def Chip.fromBuffers (c : Chip) (g : Gather) (cols : List Nat) : Gather :=
  cols.foldl (fun g x =>
    if x ∈ g.waiting ∨ x ∈ g.unknown ∨ (g.got.find x).isSome then g
    else match c.inBuffers g.stripeId g.first g.count x with
      | some l => { g with got := g.got.put x l }
      | none => g) g

/-- Issue the reads of the columns that are neither at hand nor asked for. -/
def Chip.readColumns (c : Chip) (g : Gather) (cls readSeq : Nat) (cols : List Nat) : Chip :=
  let ask := cols.filter (fun x => decide (x ∉ g.waiting) && (g.got.find x).isNone && decide (x ∉ g.unknown))
  let c := c.setGather { g with waiting := g.waiting ++ ask }
  c.each ask (fun c x => match c.known g.stripeId x with
    | some s => c.readColumn g cls readSeq x s
    | none => c)

/-! ### Entries that hold a hedge back (R142) -/

/-- A stripe of a groomed piste's own, not of its map or relocation areas. -/
def Chip.groomedStripe (c : Chip) (i : StripeId) : Bool := (c.piste i.piste).groomed && decide (i.area = 0)

/-- The open journal entry of a stripe, if any. -/
def Chip.openEntryOf (c : Chip) (i : StripeId) : Option (Nat × Entry) :=
  c.journal.entries.find? (fun e => (e.2.state ≠ .free && (e.2.state ≠ .committed || e.2.sealed_ ≠ .committed)) &&
    decide (e.2.piste = i.piste) && decide (e.2.newGeom = i.newGeom) && decide (areaOf e.2.stripe = (i.area, i.stripe)))

/-- A member write of an entry is outstanding or has ended, here or on another unit (R142). -/
def Chip.writeAdmitted (c : Chip) (slot : Nat) (e : Entry) : Bool :=
  decide (e.durableMask ≠ 0) || e.round.sentWritten ||
    c.members.any (fun m => m.2.outstanding.any (fun k => match k.purpose with
      | .entryWrite s _ => decide (s = slot)
      | _ => false))

/-- The writes of an entry that no boundary has admitted yet are taken back; they are asked for again when they may go (R49). -/
def Chip.withdrawWrites (c : Chip) (slot : Nat) : Chip :=
  let mine := fun (k : MCmd) => match k.purpose with
    | .entryWrite s _ => decide (s = slot)
    | _ => false
  let c := { c with members := c.members.mapVal (fun _ m => if m.queues.any (fun q => q.any mine) then
      { m with queues := m.queues.map (fun (q : List MCmd) => q.filter (fun k => !mine k)) } else m) }
  c.updEntry slot (fun e => { e with issued := [] })

/-- The entry a reconstruction waits for: one that has had a member write admitted, or was inherited (R142). Writes that wait for
their boundary do not hold it back; those of an append are kept all the same, since nothing reads its stripe before it commits. -/
def Chip.holdsHedge (c : Chip) (i : StripeId) : Option Nat :=
  match c.openEntryOf i with
  | some (s, e) =>
    if e.inherited || c.writeAdmitted s e || (c.groomedStripe i && !e.issued.isEmpty) then some s else none
  | none => none

/-! ### Starting -/

/-- A gather that has been set up but has read nothing. -/
def newGather (id : Nat) (why : GatherFor) (i : StripeId) (first count : Nat) (want unknown far : List Nat) (cls : Nat) : Gather :=
  { id, why, cls, piste := i.piste, newGeom := i.newGeom, area := i.area, stripe := i.stripe, first, count, want, got := [],
    waiting := [], unknown, far, uncounted := 0, late := [], solving := false, holdFor := none, errors := [] }

/-- The acceptance number of the READ a gather serves. -/
def GatherFor.readSeq : GatherFor → Nat
  | .hostRead acc _ => acc
  | _ => 0

/-- The class reconstruction reads of a gather go in: RECON for reads of the host and of the map (R125, R141), the
gather's own class otherwise. -/
def Gather.reconClass (g : Gather) : Nat :=
  match g.why with
  | .hostRead _ _ => 0
  | .mapPage _ _ => 0
  | _ => g.cls

/-- A gather that is to be solved: a wanted column is unknown, and not already held. -/
def Gather.mustSolve (g : Gather) : Bool := g.lacking.any (fun x => decide (x ∈ g.unknown))

/-- Unknown columns that no read can still bring. -/
def Gather.gone (g : Gather) : List Nat := g.unknown.filter (fun x => decide (x ∉ g.late))

/-- Start or continue the reconstruction of the wanted columns that are unknown (R141, R142): held behind an entry's writes, waiting
for a member while more than two columns are unknown, else from what is in the stride buffers and reads of the rest. A missed
deadline counts once its reconstruction is issued (R143). -/
def Chip.reconstruct (c : Chip) (g : Gather) : Chip :=
  let k := ((c.piste g.piste).geometry g.stripeId).k
  if !g.mustSolve then c.setGather g
  else if 2 < g.unknown.length then c.setGather g
  else match c.holdsHedge g.stripeId with
    | some s => c.setGather { g with holdFor := some s }
    | none =>
      let c := match c.openEntryOf g.stripeId with
        | some (s, e) => if e.issued.isEmpty then c else c.withdrawWrites s
        | none => c
      let c := if g.uncounted = 0 then c else c.bump 0x2C01 0 g.uncounted
      let need := neededCols k g.unknown
      c.readColumns (c.fromBuffers { g with holdFor := none, uncounted := 0 } need) g.reconClass g.why.readSeq need

/-- Columns unknown because their unit is unreachable (R61). -/
def Chip.farCols (c : Chip) (i : StripeId) : List Nat :=
  (c.unknownCols i).filter (fun col => decide (col ∉ c.lostCols i))

/-- Start a gather. Columns already unknown are solved at once (R141). -/
def Chip.startGather (c : Chip) (why : GatherFor) (i : StripeId) (first count : Nat) (want : List Nat) (cls : Nat) : Chip :=
  let id := c.sched.nextId
  let c := c.onSched (fun s => { s with nextId := id + 1 })
  let u := c.unknownCols i
  let g := newGather id why i first count want u (c.farCols i) cls
  let c := c.readColumns g cls why.readSeq want
  let miss := want.filter (fun x => decide (x ∈ u))
  if miss.isEmpty then c
  else (c.bump 0x2C06 0 miss.length).reconstruct ((c.gather id).getD g)

/-! ### Progress -/

/-- What a step of a gather led to. -/
inductive GatherEnd where
  | more                  -- still collecting
  | done (g : Gather)     -- every wanted column is in `got`
  | lost (g : Gather)     -- more than two columns are unknown for good
  | cut (g : Gather)      -- more than two columns are unknown while a unit is unreachable (R61)
deriving DecidableEq, Repr

/-- End a gather: kept, with nothing wanted, while reads behind a reconstruction are out (R143). -/
def Chip.closeGather (c : Chip) (g : Gather) : Chip :=
  if g.late.isEmpty then c.dropGather g.id else c.setGather { g with want := [], got := [], waiting := g.late }

/-- Whether everything Table 3.4 needs is at hand. -/
def Chip.solvable (c : Chip) (g : Gather) : Bool :=
  let k := ((c.piste g.piste).geometry g.stripeId).k
  g.mustSolve && decide (g.unknown.length ≤ 2) && g.holdFor.isNone && (neededCols k g.unknown).all (fun x => (g.got.find x).isSome)

/-- Bytes an engine takes in to solve a gather. -/
def Gather.bytes (g : Gather) : Nat := g.got.length * g.count * 4096

/-- A gather of replay: the parity of its stripe is unproved, so nothing it lacks is solved (R104). -/
def Chip.unproven (c : Chip) (g : Gather) : Bool :=
  match g.why with
  | .replay _ => true
  | .entry slot =>
    let e := c.entry slot
    e.inherited && decide (e.piste = g.piste) && decide (e.newGeom = g.newGeom) && decide (areaOf e.stripe = (g.area, g.stripe))
  | _ => false

/-- A gather can never be whole: a column is gone and nothing may be solved, or more than two columns are gone. Where the ones gone
include an unreachable unit's, the stripe is not lost: a host command ends, all else waits for the unit (R61, R163). -/
def Chip.gatherOver (c : Chip) (g : Gather) : Option GatherEnd :=
  if !g.mustSolve then none
  else if 2 < (g.gone.filter (fun x => decide (x ∉ g.far))).length then some (.lost g)
  else if g.gone.any (fun x => decide (x ∉ g.far)) && c.unproven g then some (.lost g)
  else if 2 < g.gone.length then (match g.why with
    | .hostRead _ _ => some (.cut g)
    | .mapPage _ _ => some (.cut g)
    | _ => none)
  else none

/-- The columns of a unit that can be reached again are asked for anew (R61). -/
def Chip.reviveGather (c : Chip) (g : Gather) : Chip :=
  let back := g.far.filter (fun x => (c.known g.stripeId x).isSome)
  if back.isEmpty ∨ g.want.isEmpty then c
  else
    let g := { g with far := g.far.filter (fun x => decide (x ∉ back)), unknown := g.unknown.filter (fun x => decide (x ∉ back)) }
    let c := c.readColumns g g.cls g.why.readSeq (g.want.filter (fun x => decide (x ∉ g.unknown)))
    c.reconstruct ((c.gather g.id).getD g)

/-- What a gather has may suffice: go on (R141, R143). A reconstruction that needs more than two unknown strips waits for its
members, and is counted (R142). -/
def Chip.gatherStep (c : Chip) (id : Nat) : Chip × GatherEnd :=
  match c.gather id with
  | none => (c, .more)
  | some g =>
    if g.want.isEmpty then (c, .more)
    else if g.lacking.isEmpty then (c.closeGather g, .done g)
    else match c.gatherOver g with
      | some r => (c.dropGather id, r)
      | none =>
        if c.solvable g ∧ !g.solving then
          ((c.setGather { g with solving := true }).engineWork g.reconClass g.bytes (2 * id), .more)
        else (c, .more)

/-- A column of a gather is at hand (R143). -/
def Chip.gatherTake (c : Chip) (id col : Nat) (d : List Bytes) : Chip × GatherEnd :=
  match c.gather id with
  | none => (c, .more)
  | some g =>
    if g.want.isEmpty then
      let g := { g with waiting := g.waiting.filter (fun x => decide (x ≠ col)), late := g.late.filter (fun x => decide (x ≠ col)) }
      let c := c.bump 0x2C03
      (if g.late.isEmpty then c.dropGather id else c.setGather g, .more)
    else
      let was := decide (col ∈ g.unknown)
      let g := { g with got := g.got.put col d, waiting := g.waiting.filter (fun x => decide (x ≠ col)),
                        late := g.late.filter (fun x => decide (x ≠ col)),
                        unknown := g.unknown.filter (fun x => decide (x ≠ col)) }
      (if was then c.reconstruct g else c.setGather g).gatherStep id

/-- A member read of a column has ended with data (R23). -/
def Chip.gatherArrive (c : Chip) (id col : Nat) (data : List Bytes) : Chip × GatherEnd :=
  match c.gather id with
  | none => (c, .more)
  | some g => c.gatherTake id col (c.stripData ((c.stripHome g.stripeId col).getD default) g.first g.count data)

/-- A column of a gather has become unknown: a read error, a failed member, or a unit out of reach (R61, R141, R144). With more than
two columns unknown and some only late, the read waits for its members (R142). -/
def Chip.gatherFail (c : Chip) (id col : Nat) (media far : Bool) : Chip × GatherEnd :=
  match c.gather id with
  | none => (c, .more)
  | some g =>
    if g.want.isEmpty then
      let g := { g with late := g.late.filter (fun x => decide (x ≠ col)) }
      (if g.late.isEmpty then c.dropGather id else c.setGather g, .more)
    else
      let g := { g with errors := if media then addNew g.errors col else g.errors, unknown := addNew g.unknown col,
                        far := if far then addNew g.far col else g.far,
                        waiting := g.waiting.filter (fun x => decide (x ≠ col)),
                        late := g.late.filter (fun x => decide (x ≠ col)) }
      let wait := decide (2 < g.unknown.length) && (c.gatherOver g).isNone
      ((if wait then c.bump 0x2C04 else c).reconstruct g).gatherStep id

/-- A read of a gather has missed its deadline (R141, R142). -/
def Chip.gatherLate (c : Chip) (id col : Nat) : Chip :=
  match c.gather id with
  | none => c
  | some g =>
    if g.want.isEmpty ∨ col ∈ g.unknown then c
    else if 2 ≤ g.unknown.length then c.bump 0x2C04
    else c.reconstruct { g with unknown := g.unknown ++ [col], late := addNew g.late col, uncounted := g.uncounted + 1 }

/-- An engine has finished the solving of a gather (R50): every unknown column is computed. The hedges whose own read is still out
have won (R143). -/
def Chip.gatherSolved (c : Chip) (id : Nat) : Chip × GatherEnd :=
  match c.gather id with
  | none => (c, .more)
  | some g =>
    let g := { g with solving := false }
    if g.want.isEmpty || !c.solvable g then (c.setGather g, .more)
    else
      let k := ((c.piste g.piste).geometry g.stripeId).k
      match solve k g.unknown g.got with
      | none => (c.setGather g, .more)
      | some m =>
        let c := if g.late.isEmpty then c else c.bump 0x2C02 0 g.late.length
        let g := { g with got := m }
        if g.lacking.isEmpty then (c.closeGather g, .done g) else (c.setGather g, .more)

/-- Gathers that waited for an entry's COMMITTED seal go on with the strips of the new generation (R142): of what was read before, only
the wanted strips stand. -/
def Chip.releaseHedges (c : Chip) (slot : Nat) : Chip :=
  c.each (c.gathers.vals.filter (fun g => decide (g.holdFor = some slot)))
    (fun c g => c.reconstruct { g with holdFor := none, got := g.got.filter (fun t => decide (t.1 ∈ g.want)) })

/-- A reconstruction of a stripe is under way over a block range: it and an entry's writes do not mix (R49). -/
def Chip.solvingOver (c : Chip) (i : StripeId) (first count : Nat) : Bool :=
  c.gathers.vals.any (fun g => g.live i && g.mustSolve && g.holdFor.isNone && decide (g.unknown.length ≤ 2) &&
    decide (g.first < first + count) && decide (first < g.first + g.count))

/-! ### Runs of blocks -/

/-- Merge consecutive blocks of one strip: stripe, column, first block, count. -/
def mergeRuns : List (Nat × Nat × Nat) → List (Nat × Nat × Nat × Nat)
  | [] => []
  | (s, i, o) :: r =>
    match mergeRuns r with
    | (s', i', o', n) :: t => if s = s' ∧ i = i' ∧ o + 1 = o' then (s, i, o, n + 1) :: t else (s, i, o, 1) :: (s', i', o', n) :: t
    | [] => [(s, i, o, 1)]

end Sys2Proof.Machine
end

