-- ==== Sys2Proof/Machine/Cache.lean ====
section
/-! DEFINITION. The protected cache: block versions (R70, R71, R77, R198), the energy gate and the ceiling (R79 to R84), lost
ranges (R108), and the mirror stream's sending side (R74, R290). -/

namespace Sys2Proof.Machine

/-- a is an earlier acceptance number than b (R197). -/
def accEarlier (a b : Nat) : Bool :=
  let d := (b + 2 ^ 48 - a % 2 ^ 48) % 2 ^ 48
  decide (1 ≤ d) && decide (d ≤ 2 ^ 47 - 1)

/-- [DESIGN CHOICE, notes/assumptions/91.md] -/
def zeroBlock : Bytes := List.replicate 4096 0

/-! ### Versions -/

def Chip.setVersions (c : Chip) (p b : Nat) (l : List Version) : Chip :=
  c.onCache (fun k => { k with blocks := k.blocks.store (blockKey p b) l [] })

/-- Holds acknowledged data: DIRTY or FROZEN. -/
def Version.acked (v : Version) : Bool := v.isDirty

/-- Waits for destage: DIRTY or THROUGH, in no entry, and not yet on the members. -/
def Version.pending (v : Version) : Bool := (v.state = .dirty || v.state = .through) && v.entry = 0 && !v.landed

/-- The newest version that can be read: THROUGH data is not acknowledged (Table 4.1). -/
def readable (l : List Version) : Option Version := l.find? (fun v => decide (v.state ≠ .through))

/-- What a block has to destage: its newest version that is not CLEAN, if that one waits (R71). An older version never follows a
newer one to the members. -/
def toDestage (l : List Version) : Option Version :=
  match l.find? (fun v => decide (v.state ≠ .clean)) with
  | some v => if v.pending then some v else none
  | none => none

/-- A block that is already DIRTY adds nothing at the gate (R79). -/
def isDirtyBlock (l : List Version) : Bool := l.any (fun v => v.state = .dirty && v.entry = 0)

/-- Place a version among the others, newest acceptance first. [DESIGN CHOICE, notes/assumptions/27.md] -/
def placeVersion (v : Version) : List Version → List Version
  | [] => [v]
  | w :: r => if w.state ≠ .clean && accEarlier v.acc w.acc then w :: placeVersion v r else v :: w :: r

/-- A completed write-back write is applied to a block that no later-accepted write has taken (R198, R199); it replaces the
DIRTY version and a CLEAN one, and stands beside a FROZEN one (R71). [DESIGN CHOICE, notes/assumptions/27.md] -/
def applyVersion (v : Version) (l : List Version) : List Version :=
  if l.any (fun w => w.isDirty && accEarlier v.acc w.acc) then l
  else
    -- a block that stays DIRTY has been dirty since the version it replaces became so (R85)
    let since := match l.find? (fun w => w.state = .dirty && w.entry = 0) with
      | some w => min w.dirtyLap v.dirtyLap
      | none => v.dirtyLap
    placeVersion { v with dirtyLap := since } (l.filter (fun w => decide (w.state ≠ .clean) && !(w.state = .dirty && w.entry = 0)))

/-- A THROUGH version is put beside what the block holds (R77). -/
def addThrough (v : Version) (l : List Version) : List Version := placeVersion v (l.filter (fun w => decide (w.state ≠ .clean)))

/-- A write-through write completes with success (R77): its version is the block's CLEAN contents, unless a newer one stands, and the
older acknowledged versions are FREE. -/
def landThrough (acc : Nat) : List Version → List Version
  | [] => []
  | v :: r =>
    if v.state = .through ∧ v.acc = acc then { v with state := .clean, landed := false } :: r.filter (fun w => !w.acked)
    else v :: r.filter (fun w => !(w.state = .through && decide (w.acc = acc)) && !(w.acked && accEarlier w.acc acc))

/-- New dirty bytes of a write over blocks (R79). -/
def Chip.newDirty (c : Chip) (p first count : Nat) : Nat :=
  4096 * countOf (List.range count) (fun j => !isDirtyBlock (c.versions p (first + j)))

/-! ### Lost ranges (R108) -/

/-- Whether a host block answers 0x0404. -/
def Chip.lostBlock (c : Chip) (p b : Nat) : Bool :=
  c.cache.lostRanges.any (fun r => decide (r.piste = p) && decide (r.first ≤ b) && decide (b < r.first + r.count))

/-- Take a block off one range: up to two ranges remain. -/
def LostRange.without (r : LostRange) (b : Nat) : List LostRange :=
  let part : Nat → Nat → List LostRange := fun f n => if n = 0 then [] else
    [{ r with first := f, count := n, blocks := r.blocks.filter (fun x => decide (f ≤ x) && decide (x < f + n)) }]
  if r.first ≤ b ∧ b < r.first + r.count then part r.first (b - r.first) ++ part (b + 1) (r.first + r.count - b - 1) else [r]

/-- Blocks between a range and a block, 0 when they adjoin. -/
def LostRange.gap (r : LostRange) (b : Nat) : Nat :=
  if b < r.first then r.first - b - 1 else if b < r.first + r.count then 0 else b - (r.first + r.count)

/-- One range that covers two. [DEDUCED, notes/assumptions/35.md] -/
def LostRange.merge (a b : LostRange) : LostRange :=
  let f := min a.first b.first
  let e := max (a.first + a.count) (b.first + b.count)
  { piste := a.piste, first := f, count := e - f, blocks := a.blocks ++ b.blocks, seq := max a.seq b.seq }

/-- The range of a piste nearest to a block, ties to the lower first block. -/
def nearestRange (l : List LostRange) (b : Nat) : Option LostRange :=
  l.foldl (fun a r => match a with
    | none => some r
    | some y => if r.gap b < y.gap b ∨ (r.gap b = y.gap b ∧ r.first < y.first) then some r else some y) none

/-- The pair of ranges of one piste whose merge adds the fewest blocks, ties to the lower piste, then first block, among the pairs
that `ok` admits. -/
def cheapestPair (l : List LostRange) (ok : LostRange → LostRange → Bool) : Option (LostRange × LostRange) :=
  let cost := fun (a b : LostRange) => (a.merge b).count - a.count - b.count
  let pairs := (l.map (fun a => (l.filter (fun b => decide (b.piste = a.piste) && decide (a.first < b.first) && ok a b)).map
    (fun b => (a, b)))).flatten
  pairs.foldl (fun best p => match best with
    | none => some p
    | some q =>
      if cost p.1 p.2 < cost q.1 q.2 ∨ (cost p.1 p.2 = cost q.1 q.2 ∧ (p.1.piste < q.1.piste ∨
        (p.1.piste = q.1.piste ∧ p.1.first < q.1.first))) then some p else best) none

/-- Free one entry by a merge (R108). -/
def mergePair (l : List LostRange) (ok : LostRange → LostRange → Bool) : List LostRange :=
  match cheapestPair l ok with
  | some (x, y) => (l.filter (fun r => decide (r ≠ y))).map (fun r => if r = x then x.merge y else r)
  | none => l

/-- A write that covers a block removes it from the table (R108). Where that splits a range of a full table, two other entries are
merged as for a further lost block, and never so that they cover the block again. [DESIGN CHOICE, notes/assumptions/105.md] -/
def Chip.uncover (c : Chip) (p b : Nat) : Chip :=
  c.onCache (fun k =>
    let l := (k.lostRanges.map (fun r => if r.piste = p then r.without b else [r])).flatten
    { k with lostRanges := if l.length ≤ 4096 then l
        else mergePair l (fun x y => !(decide (x.piste = p) && decide (x.first < b) && decide (b < y.first))) })

/-- Enter a lost block in the table (R108). [DEDUCED, notes/assumptions/35.md] -/
def Chip.addLostBlock (c : Chip) (p b : Nat) : Chip :=
  let l := c.cache.lostRanges
  let one : LostRange := { piste := p, first := b, count := 1, blocks := [b], seq := c.nextSeq }
  if c.lostBlock p b then
    c.onCache (fun k => { k with lostRanges := k.lostRanges.map (fun r =>
      if r.piste = p ∧ r.first ≤ b ∧ b < r.first + r.count then { r with blocks := addNew r.blocks b } else r) })
  else if l.length < 4096 then c.onCache (fun k => { k with lostRanges := k.lostRanges ++ [one] })
  else match nearestRange (l.filter (fun r => decide (r.piste = p))) b with
    | some r => c.onCache (fun k => { k with lostRanges := k.lostRanges.map (fun y => if y = r then r.merge one else y) })
    | none => c.onCache (fun k => { k with lostRanges := mergePair l (fun _ _ => true) ++ [one] })

/-- Enter a run of lost blocks of one piste in the table as one range (R104), as a further lost block is entered where the table is full.
[DEDUCED, notes/assumptions/35.md] -/
def Chip.addLostRange (c : Chip) (p first count : Nat) : Chip :=
  let l := c.cache.lostRanges
  let one : LostRange := { piste := p, first, count, blocks := (List.range count).map (fun j => first + j), seq := c.nextSeq }
  if count = 0 then c
  else if one.blocks.any (c.lostBlock p) then c.each one.blocks (fun c b => c.addLostBlock p b)
  else if l.length < 4096 then c.onCache (fun k => { k with lostRanges := k.lostRanges ++ [one] })
  else match nearestRange (l.filter (fun r => decide (r.piste = p))) first with
    | some r => c.onCache (fun k => { k with lostRanges := k.lostRanges.map (fun y => if y = r then r.merge one else y) })
    | none => c.onCache (fun k => { k with lostRanges := mergePair l (fun _ _ => true) ++ [one] })

/-- The place in the lost-range table that covers a block (Table 7.16). [DEDUCED, notes/assumptions/35.md] -/
def Chip.lostSource (c : Chip) (p b : Nat) : Nat :=
  (c.cache.lostRanges.findIdx? (fun r => decide (r.piste = p) && decide (r.first ≤ b) && decide (b < r.first + r.count))).getD 0xFFFFFFFF

/-- An acknowledged block is lost: it enters the table, and one deferred error reports it (R108). -/
def Chip.reportLost (c : Chip) (p b : Nat) : Chip :=
  let c := c.addLostBlock p b
  c.deferError p 2 b 1 (c.lostSource p b)

/-- A range whose blocks cannot be told apart is lost as one entry, with one deferred error (Table 14.3). [DEDUCED, notes/assumptions/35.md] -/
def Chip.reportLostRange (c : Chip) (p first count : Nat) : Chip :=
  let c := c.addLostBlock p first
  let whole : LostRange := { piste := p, first, count, blocks := [], seq := 0 }
  let c := c.onCache (fun k => { k with lostRanges := k.lostRanges.map (fun r =>
    if r.piste = p ∧ r.first ≤ first ∧ first < r.first + r.count then
      { r.merge whole with blocks := r.blocks.filter (fun b => decide (b ≠ first)) } else r) })
  c.deferError p 2 first count (c.lostSource p first)

/-! ### The gate (R79 to R84) -/

/-- A STANDBY partner is reachable (R72, R80, R94). -/
def Chip.hasStandby (c : Chip) : Bool :=
  c.pair.role = .active && c.pair.formed && !c.pair.silent &&
    (match c.pair.lastHb with | some h => decide (h.role = 2) && !h.leaving | none => false)

/-- own of R80. [DEDUCED, notes/assumptions/11.md] -/
def Chip.ownCeiling (c : Chip) : Nat :=
  let draw := c.val 0x2414 + c.val 0x2415                       -- mW
  let usable := (c.power.usable * 1000000000000 : Rat)          -- pJ
  let fixed : Rat := ((draw * c.val 0x2418 + c.val 0x2413 * 1000) * 1000000 : Nat)   -- mW * ms = uJ; mJ = 1000 uJ
  let bytes := if c.eByte = 0 then 0 else ((usable - fixed) / (c.eByte : Rat)).floor.toNat
  if c.vaultUp.isEmpty then 0 else min bytes (c.val 0x2412) / 4096 * 4096

/-- Recompute the ceiling (R80): it takes effect at the next boundary (R35). -/
def Chip.computeCeiling (c : Chip) : Chip :=
  let own := c.ownCeiling
  let n := if c.hasStandby then min own c.partnerOwn else own
  c.onCache (fun k => { k with own, nextCeiling := some n })

/-- The gate is shut whatever the ceiling: brace, a pack that is not CONNECTED, ship mode (R84, R381, R384).
[DEDUCED, notes/assumptions/75.md] -/
def Chip.gateShut (c : Chip) : Bool := c.cache.gateClosed || c.power.supply ≠ .normal

/-- The check of R79; on backup nothing is admitted (R362). -/
def Chip.gatePasses (c : Chip) (new : Nat) : Bool :=
  if c.onBackup then false else if new = 0 then true else !c.gateShut && decide (c.dirtyBytes + new ≤ c.cache.ceiling)

/-- A piste handles new writes in write-through (R76, R77, R82, R102). -/
def Chip.throughMode (c : Chip) (p : Nat) : Bool :=
  c.val 0x2420 p = 1 || (c.piste p).fellBack || (c.piste p).throughUntilLane ||
    (c.pair.role = .alone && c.val 0x2430 = 0)

/-! ### Mirror (R74, R290) -/

/-- The contents of a map page, 4 KiB (R123). -/
def MapPage.bytes (g : MapPage) : Bytes := ((List.range 512).map (fun s => leBytes 8 (g.entries.getD s 0))).flatten

/-- Mirror an item where a partner holds a copy. [DESIGN CHOICE, notes/assumptions/58.md] -/
def Chip.mirrorItem (c : Chip) (item : BulkItem) : Chip :=
  if c.mirroring then (c.mirrorSend item).1 else c

/-- The issue phase's mirror flush: what is queued, then the stride-end mark (R21, R22, R74). -/
def Chip.mirrorFlush (c : Chip) : Chip :=
  let bytes := sumOf c.pair.mirrorQueue (fun x => match x.2 with | .block _ _ _ d => d.length | .mapPage _ _ d => d.length | _ => 128)
  let c := c.onPair (fun p => { p with lapBytes := p.lapBytes + bytes })
  let c := c.each c.pair.mirrorQueue (fun c x => c.emit (.mirror x.1 x.2))
  let c := c.onPair (fun p => { p with mirrorQueue := [] })
  if c.mirroring then c.emit (.strideEnd (c.clk.stride - 1) c.pair.mirrorSeq) else c

end Sys2Proof.Machine
end

