-- ==== Sys2Proof/Machine/Route.lean ====
section
/-! DEFINITION. Paths on the ring (R310): which port a message leaves by, and broadcasts. How the nodes stand around the ring is
the cabling's: Config.eastOf. -/

namespace Sys2Proof.Machine

/-- The hop delay of a node's E or W link in ns (R312); 0 while the link is not UP. -/
def Chip.hopDelay (c : Chip) (n port : Nat) : Nat :=
  if n = c.straps.nodeId then
    (if (c.port port).pstate = 2 then (c.port port).delayPs / 1000 + c.val 0x3C09 else 0)
  else if port = 1 then (c.node n).delayE else (c.node n).delayW

/-- The node reached from a node's E port: this unit's neighbours are known from their HELLOs (R311), the rest of the ring is the
cabling's. -/
def Chip.eastOf (c : Chip) (n : Nat) : Nat :=
  if n = c.straps.nodeId then (c.port 1).peer
  else if n = (c.port 2).peer then c.straps.nodeId
  else Config.eastOf n

/-- The node reached from a node's W port. -/
def Chip.westOf (c : Chip) (n : Nat) : Nat :=
  if n = c.straps.nodeId then (c.port 2).peer
  else if n = (c.port 1).peer then c.straps.nodeId
  else ((List.range 32).find? (fun i => decide (Config.eastOf i = n))).getD n

/-- The node next to a node on one side. -/
def Chip.nextTo (c : Chip) (port n : Nat) : Nat := if port = 1 then c.eastOf n else c.westOf n

/-- The delay from one node to another by one side; `none` where a link is down. -/
def Chip.pathDelay (c : Chip) (port : Nat) : Nat → Nat → Nat → Option Nat
  | 0, a, b => if a = b then some 0 else none
  | n + 1, a, b =>
    if a = b then some 0
    else if c.hopDelay a port = 0 then none
    else (Chip.pathDelay c port n (c.nextTo port a) b).map (· + c.hopDelay a port)

/-- The unit that answers for a node ID: its claimant, where one stands (R318). -/
def Chip.answering (c : Chip) (node : Nat) : Nat := match c.ring.claims.find node with | some k => k.1 | none => node

/-- The port a unicast message leaves by: the smaller sum of hop delays, ties to E; the other side where one is broken. What is
addressed to a claimed node ID goes to its claimant (R318). -/
def Chip.towards (c : Chip) (dst : Nat) : Option Nat :=
  let dst := c.answering dst
  match c.pathDelay 1 32 c.straps.nodeId dst, c.pathDelay 2 32 c.straps.nodeId dst with
  | some e, some w => some (if w < e then 2 else 1)
  | some _, none => some 1
  | none, some _ => some 2
  | none, none => none

/-- Flits for a node that no path reaches are discarded and counted (R310). The spec names no object for the count.
[DEDUCED, notes/assumptions/62.md] -/
def Chip.noPath (c : Chip) (flits : Nat) : Chip := c.onRing (fun r => { r with unrouted := r.unrouted + flits })

/-- Send a message to a node. [DEDUCED, notes/assumptions/61.md; DEDUCED, notes/assumptions/62.md] -/
def Chip.send (c : Chip) (dst cls type : Nat) (body : Bytes) : Chip := c.emit (.message 3 dst cls type body)

/-- Broadcast a message out of E and W. [DEDUCED, notes/assumptions/62.md] -/
def Chip.broadcast (c : Chip) (cls type : Nat) (body : Bytes) : Chip := c.emit (.message 3 32 cls type body)

/-- Send a message over one link (Table 11.6). [DEDUCED, notes/assumptions/61.md] -/
def Chip.sendLink (c : Chip) (port cls type : Nat) (body : Bytes) : Chip := c.emit (.message port 33 cls type body)

end Sys2Proof.Machine
end

