-- ==== Sys2Proof/Machine/Flit.lean ====
section
/-! DEFINITION. The Utofer link layer (R300 to R310): the bytes of every message, flits with their FEC and CRC, sequence numbers,
retry, credits and priorities on the sending side, and assembly, delivery and forwarding on the receiving side. -/

namespace Sys2Proof.Machine

/-! ### Bodies (Tables 10.3, 11.6 to 11.9) -/

def flag (b : Bool) (i : Nat) : Nat := if b then 2 ^ i else 0

/-- A stripe reference (Table 11.7). -/
def refBytes (r : StripeRef) : Bytes :=
  leBytes 1 r.piste ++ leBytes 1 r.kind ++ leBytes 1 r.outcome ++ leBytes 1 (flag r.acked 0 + flag r.degraded 1) ++
  leBytes 4 r.columnMask ++ leBytes 8 r.stripe ++ leBytes 8 r.generation ++ leBytes 8 r.atStride

/-- A partner heartbeat (Table 10.3). -/
def hbBytes (h : PartnerHb) : Bytes :=
  leBytes 1 h.role ++
  leBytes 3 (h.syncState % 4 + flag h.endorseRequest 2 + flag h.endorseGrant 3 + flag h.brace 4 + flag h.leaving 5 +
    flag h.judgeReachable 6 + flag h.vaultStart 7 + h.lastLaneBlock % 4 * 2 ^ 8) ++
  leBytes 4 h.epoch ++ leBytes 8 h.hbSeq ++ leBytes 8 h.serial ++ leBytes 8 h.sealSeq ++ leBytes 8 h.ownCeiling ++
  leBytes 8 h.lastLaneLap ++ leBytes 6 h.acceptanceHigh ++ leBytes 2 h.leaseRemaining ++ leBytes 8 h.dirtyBytes

/-- A ring heartbeat (Table 11.9). -/
def ringHbBytes (h : RingHbMsg) : Bytes :=
  leBytes 1 h.nodeId ++ leBytes 1 h.role ++ leBytes 2 (h.syncState % 4 + flag h.timeValid 2) ++ leBytes 4 h.aliases ++
  leBytes 8 h.serial ++ leBytes 8 h.pairId ++ leBytes 4 h.epoch ++ leBytes 4 (h.partnerNode % 256) ++ leBytes 8 h.lap ++
  List.replicate 24 0

/-- A time marker (Table 11.8). -/
def markerBytes (m : MarkerMsg) : Bytes :=
  leBytes 4 (m.pacerNode % 256) ++ leBytes 4 m.accDelayPs ++ leBytes 8 m.stride ++ leBytes 4 m.strideTicks ++
  leBytes 4 m.pacerGeneration ++ List.replicate 8 0

/-- A mirrored record: its kind, and its bytes (Table 10.8). -/
def recordBytes (r : MirrorRecord) : Bytes :=
  match r with
  | .entryState slot image => leBytes 1 0 ++ leBytes 2 slot ++ image
  | .changeRecord slot rows => leBytes 1 1 ++ leBytes 2 slot ++
      ((rows.map (fun x => leBytes 8 x.1 ++ leBytes 8 x.2.1 ++ leBytes 8 x.2.2.1 ++ leBytes 1 (flag x.2.2.2 0))).flatten)
  | .dirtyLog i member regions => leBytes 1 2 ++ leBytes 1 i ++ leBytes 1 member ++ (regions.map (leBytes 8)).flatten
  | .lostRange p first count => leBytes 1 3 ++ leBytes 1 p ++ leBytes 8 first ++ leBytes 8 count
  | .lostStripe image => leBytes 1 4 ++ image
  | .rebuildRecord p image => leBytes 1 5 ++ leBytes 1 p ++ image
  | .fallLine p image => leBytes 1 6 ++ leBytes 1 p ++ image
  | .deferred n p kind first count by_ q delivered posted => leBytes 1 7 ++ leBytes 4 n ++ leBytes 1 p ++ leBytes 1 kind ++
      leBytes 8 first ++ leBytes 8 count ++ leBytes 6 by_ ++ leBytes 2 q ++ leBytes 1 (flag delivered 0 + flag posted 1)
  | .dictWrite index sub value => leBytes 1 8 ++ leBytes 2 index ++ leBytes 1 sub ++ value
  | .acceptance high => leBytes 1 9 ++ leBytes 6 high

/-- The body of a mirrored item, and its message type: 1 data, 2 a record. -/
def itemBytes (i : BulkItem) : Nat × Bytes :=
  match i with
  | .block p b state data => (1, leBytes 1 p ++ leBytes 8 b ++ leBytes 1 state ++ data)
  | .mapPage p page data => (2, leBytes 1 10 ++ leBytes 1 p ++ leBytes 8 page ++ data)
  | .record r => (2, recordBytes r)
  | .bulkEnd => (2, leBytes 1 11)

/-- A message on its way out: ports, destination (32 broadcast, 33 one link), class, type, body. -/
structure Wire where
  port : Nat
  dst : Nat
  cls : Nat
  type : Nat
  body : Bytes
deriving DecidableEq, Repr

/-- The Utofer message an output is; `none` for what leaves elsewhere. -/
def Output.wire (o : Output) : Option Wire :=
  match o with
  | .message p d c t b => some ⟨p, d, c, t, b⟩
  | .partnerHb h => some ⟨0, 33, 6, 1, hbBytes h⟩
  | .marker p m => some ⟨p, 32, 4, 1, markerBytes m⟩
  | .ringHb h => some ⟨3, 32, 6, 2, ringHbBytes h⟩
  | .echo p t1 none => some ⟨p, 33, 4, 2, leBytes 8 t1⟩
  | .echo p t1 (some d) => some ⟨p, 33, 4, 3, leBytes 8 t1 ++ leBytes 8 d⟩
  | .stripe d t r b => some ⟨3, d, 2, t, refBytes r ++ b⟩
  | .commit d t r => some ⟨3, d, 3, t, refBytes r⟩
  | .mirror 0 i => some ⟨0, 33, 1, 5, leBytes 1 (itemBytes i).1 ++ (itemBytes i).2⟩
  | .mirror n i => some ⟨0, 33, 1, (itemBytes i).1, leBytes 8 n ++ (itemBytes i).2⟩
  | .strideEnd s n => some ⟨0, 33, 1, 3, leBytes 8 s ++ leBytes 8 n⟩
  | .mirrorAccept n => some ⟨0, 33, 1, 4, leBytes 8 n⟩
  | .unitReset d t n => some ⟨3, d, 5, 4, leBytes 1 t ++ leBytes 8 n⟩
  | _ => none

/-! ### FEC (R303) -/

/-- The polynomial a byte string spells, first byte at the highest degree, evaluated at g. -/
def hornerG (b : Bytes) : Byte := b.foldl (fun a x => xtime a ^^^ x) 0

def sumBytes (b : Bytes) : Byte := b.foldl (fun a x => a ^^^ x) 0

/-- Places of interleave i among bytes 0 to 249, then its check bytes. -/
def interleave (i : Nat) : List Nat :=
  ((List.range 84).map (fun n => 3 * n + i)).filter (fun j => decide (j < 250)) ++ [250 + i, 253 + i]

/-- The check bytes of an interleave's data: roots 1 and g. -/
def checkBytes (d : Bytes) : Byte × Byte :=
  let a := sumBytes d
  let b := xtime (xtime (hornerG d))
  let c1 := gmul (a ^^^ b) (ginv 3)
  (c1, a ^^^ c1)

/-- Bytes 250 to 255 of a flit. -/
def fecBytes (b : Bytes) : Bytes :=
  let cs := (List.range 3).map (fun i => checkBytes (((interleave i).take ((interleave i).length - 2)).map (byteAt b)))
  cs.map Prod.fst ++ cs.map Prod.snd

/-- Correct one interleave: the place and the value of its one bad byte, where its syndromes name one.
[DESIGN CHOICE, notes/assumptions/64.md] -/
def badByte (b : Bytes) (i : Nat) : Option (Nat × Byte) :=
  let l := interleave i
  let d := l.map (byteAt b)
  let s0 := sumBytes d
  let s1 := hornerG d
  if s0 = 0 then none
  else match (List.range l.length).find? (fun n => decide (xpow n s0 = s1)) with
    | some n => let j := atD l (l.length - 1 - n) 0; some (j, byteAt b j ^^^ s0)
    | none => none

/-- Correct a flit: the bytes, and how many were corrected. [DESIGN CHOICE, notes/assumptions/64.md] -/
def correctFlit (b : Bytes) : Bytes × Nat :=
  (List.range 3).foldl (fun (a : Bytes × Nat) i => match badByte b i with
    | some (j, v) => (setAt a.1 j v, a.2 + 1)
    | none => a) (b, 0)

/-! ### Flits (Tables 11.2 and 11.3) -/

/-- A flit's bytes. -/
def flitBytes (f : TxFlit) (fsn ack : Nat) (nak : Bool) (creditClass creditCount : Nat) : Bytes :=
  let head := leBytes 10 (f.cls % 16 + fsn % 4096 * 2 ^ 4 + ack % 4096 * 2 ^ 16 + flag nak 28 + f.src % 32 * 2 ^ 29 +
    f.dst % 32 * 2 ^ 34 + flag f.broadcast 39 + f.hops % 32 * 2 ^ 40 + flag f.first 45 + flag f.last 46 +
    f.payload.length % 256 * 2 ^ 47 + creditClass % 16 * 2 ^ 55 + creditCount % 16 * 2 ^ 59)
  let b := head ++ fit 232 f.payload
  let b := b ++ leBytes 8 (crc64 b)
  b ++ fecBytes b

/-- A flit as its header tells it. [DESIGN CHOICE, notes/assumptions/60.md] -/
def parseFlit (b : Bytes) : TxFlit :=
  let h := leAt b 0 10
  { cls := bitsAt h 0 4, src := bitsAt h 29 5, dst := bitsAt h 34 5, broadcast := h.testBit 39, hops := bitsAt h 40 5
    first := h.testBit 45, last := h.testBit 46, payload := slice b 10 (min 232 (bitsAt h 47 8)) }

/-- Receive buffer of a class in flits (Table 11.4). -/
def bufferFlits (cls : Nat) : Nat :=
  match cls with | 1 => 2048 | 2 => 2048 | 3 => 256 | 5 => 64 | 6 => 32 | _ => 0

/-- Classes sequenced, stored and under credit. -/
def sequenced (cls : Nat) : Bool := decide (cls ≠ 0) && decide (cls ≠ 4) && decide (cls ≤ 6)

/-- Classes a port carries (Table 11.1). -/
def portCarries (port cls : Nat) : Bool :=
  if port = 0 then decide (cls ∈ [0, 1, 5, 6]) else decide (cls ∈ [0, 2, 3, 4, 5, 6])

/-- Message types defined in a class (Table 11.6). -/
def definedType (cls type : Nat) : Bool :=
  decide (1 ≤ type) && decide (type ≤ (match cls with | 1 => 5 | 2 => 4 | 3 => 7 | 4 => 3 | 5 => 6 | 6 => 2 | _ => 0))

/-! ### Sending (R304, R306, R307) -/

/-- The acknowledgement a port sends: the last sequenced flit received in order. -/
def Port.ack (x : Port) : Nat := match x.delivered with | some n => n | none => 4095

/-- Send credit of a class. -/
def Port.credit (x : Port) (cls : Nat) : Nat := x.credits.getD cls (bufferFlits cls)

/-- The credit a header returns: a class with 4 flits or more to return, and the units. -/
def Port.refund (x : Port) : Nat × Nat :=
  match x.rxUsed.find? (fun u => decide (4 ≤ u.2)) with
  | some (cls, n) => (cls, min 15 (n / 4))
  | none => (0, 0)

/-- Put a flit on a port's wire. -/
def Chip.putFlit (c : Chip) (p : Nat) (f : TxFlit) (fsn : Nat) (nak : Bool) : Chip :=
  let x := c.port p
  let r := x.refund
  (c.setPort p { x with rxUsed := x.rxUsed.store r.1 (x.rxUsed.getD r.1 0 - 4 * r.2) 0 }).emit
    (.flit p (flitBytes f fsn x.ack nak r.1 r.2))

/-- A LINK flit: acknowledgement, credit, and nak. -/
def Chip.linkFlit (c : Chip) (p : Nat) (nak : Bool) : Chip :=
  let n := c.straps.nodeId
  c.putFlit p { cls := 0, src := n, dst := n, broadcast := false, hops := 0, first := false, last := false, payload := [] }
    (c.port p).nextFsn nak

/-- The flit whose turn it is, by the priorities of Table 11.4, and what stays queued. -/
def Port.nextFlit (x : Port) : Option (TxFlit × List TxFlit) :=
  let order := [6, 3, 5] ++ (if x.turn = 2 then [2, 1] else [1, 2])
  match order.find? (fun k => decide (0 < x.credit k) && x.txq.any (fun f => decide (f.cls = k))) with
  | none => none
  | some k => match x.txq.find? (fun f => decide (f.cls = k)) with
    | some f => some (f, x.txq.erase f)
    | none => none

/-- Send what may be sent: flits under credit, while the retry buffer has room. -/
def Chip.pumpPort : Nat → Chip → Nat → Chip
  | 0, c, _ => c
  | n + 1, c, p =>
    let x := c.port p
    if x.pstate ≠ 2 ∨ c.halted (.utofer p) ∨ 1024 ≤ x.retry.length then c
    else match x.nextFlit with
      | none => c
      | some (f, rest) =>
        let fsn := x.nextFsn
        let c := c.setPort p { x with
          txq := rest, nextFsn := (fsn + 1) % 4096, retry := x.retry ++ [(fsn, f)]
          credits := x.credits.put f.cls (x.credit f.cls - 1)
          turn := if f.cls = 1 then 2 else if f.cls = 2 then 1 else x.turn }
        Chip.pumpPort n (c.putFlit p f fsn false) p

/-- A unit that is a LOCKED member of the ring (R326). -/
def Chip.lockedMember (c : Chip) : Bool := (c.ring.rstate = 2 || c.ring.rstate = 3) && c.clk.sync = .locked

/-- A unit that is a member and has been a LOCKED one: what it has launched goes on while it is in HOLDOVER or ACQUIRING (R38, R39,
R326). -/
def Chip.joinedMember (c : Chip) : Bool := (c.ring.rstate = 2 || c.ring.rstate = 3) && (c.ring.joined || decide (c.clk.sync = .locked))

/-- What a unit sends on E and W before it is a LOCKED member (R326). -/
def openMessage (cls type : Nat) : Bool :=
  decide (cls = 4) || decide (cls = 5 ∧ type ≤ 2) || decide (cls = 6 ∧ type = 2)

/-- The flits of a message (R308). -/
def cutFlits : Nat → Bool → TxFlit → Bytes → List TxFlit
  | 0, _, _, _ => []
  | n + 1, start, f, b =>
    let g := { f with first := start, last := decide (b.length ≤ 232), payload := b.take 232 }
    if b.length ≤ 232 then [g] else g :: cutFlits n false f (b.drop 232)

/-- Ports a message leaves by, of those with a link (R310). -/
def Chip.portsFor (c : Chip) (w : Wire) : List Nat :=
  let l := if w.port < 3 then [w.port] else if w.dst = 32 then [1, 2] else match c.towards w.dst with
    | some p => [p]
    | none => []
  l.filter (fun p => decide (2 ≤ (c.port p).pstate) && (decide (p = 0) || c.joinedMember || openMessage w.cls w.type))

/-- Put flits on a port: TIME goes at once, the others wait their turn. -/
def Chip.queueFlits (c : Chip) (p : Nat) (l : List TxFlit) : Chip :=
  c.each l (fun c f => if f.cls = 4 then
      (if (c.port p).pstate = 2 then c.putFlit p f (c.port p).nextFsn false else c)
    else c.updPort p (fun x => { x with txq := x.txq ++ [f] }))

/-- Send one message: a number, the header of Table 11.5, its flits. A message to this unit's own node, or to one it serves, is
delivered to itself (R310). -/
def Chip.sendWire (c : Chip) (w : Wire) : Chip :=
  let me := c.straps.nodeId
  if w.port = 3 ∧ w.dst < 32 ∧ (w.dst = me ∨ c.ring.aliases.any (fun a => decide (a.1 = w.dst))) then
    c.emit (.delivered 3 me w.cls w.type w.body)
  else
    let id := (c.ring.msgId + 1) % 2 ^ 16
    let b := leBytes 1 w.type ++ leBytes 1 1 ++ leBytes 3 w.body.length ++ leBytes 1 0 ++ leBytes 2 id ++ leBytes 8 c.clk.stride ++
      w.body
    let f : TxFlit := { cls := w.cls, src := me, dst := w.dst % 32, broadcast := decide (32 ≤ w.dst),
                        hops := if w.dst = 33 then 31 else 0, first := false, last := false, payload := [] }
    let l := cutFlits (b.length / 232 + 1) true f b
    let c := c.onRing (fun r => { r with msgId := id })
    let c := if w.port = 3 ∧ w.dst < 32 ∧ (c.towards w.dst).isNone then c.noPath l.length else c
    c.each (c.portsFor w) (fun c p => c.queueFlits p l)

/-- What a command sends over Utofer leaves as flits. -/
def Chip.sendUtofer (old new : Chip) : Chip :=
  let ws := (new.out.drop old.out.length).filterMap Output.wire
  let c := new.each ws Chip.sendWire
  c.each ((c.ring.ports.filter (fun x => !x.2.txq.isEmpty)).map Prod.fst) (fun c p => Chip.pumpPort (c.port p).txq.length c p)

/-! ### Receiving (R303 to R310) -/

/-- Everything a port kept after ack_fsn is sent again, each counted. -/
def Chip.resend (c : Chip) (p : Nat) : Chip :=
  c.each (c.port p).retry (fun c r => (c.putFlit p r.2 r.1 false).bump 0x3C16 p)

/-- A port enters RECOVERY (R305). -/
def Chip.enterRecovery (c : Chip) (p : Nat) : Chip :=
  ((c.updPort p (fun x => { x with pstate := 3, nakRun := 0, downNs := c.clk.opNs })).bump 0x3C17 p).emit (.linkTrain p)

/-- What an acknowledgement covers leaves the retry buffer. -/
def ackRetry (l : List (Nat × TxFlit)) (ack : Nat) : List (Nat × TxFlit) :=
  match l.findIdx? (fun r => decide (r.1 = ack)) with
  | some i => l.drop (i + 1)
  | none => l

/-- The acknowledgement, NAK and credit of a good flit's header. [DESIGN CHOICE, notes/assumptions/60.md] -/
def Chip.takeHeader (c : Chip) (p h : Nat) : Chip :=
  let x := c.port p
  let ack := bitsAt h 16 12
  let k := bitsAt h 55 4
  let kept := ackRetry x.retry ack
  let nak := h.testBit 28
  let bad := (ack + 1) % 4096
  let run := if nak then (if x.nakRun ≠ 0 ∧ x.nakFsn = bad then x.nakRun + 1 else 1) else if kept.length < x.retry.length then 0 else x.nakRun
  let c := c.setPort p { x with
    retry := kept, nakRun := run, nakFsn := if nak then bad else x.nakFsn
    credits := if bitsAt h 59 4 = 0 then x.credits
      else x.credits.put k (min (bufferFlits k) (x.credit k + 4 * bitsAt h 59 4)) }
  if !nak then c else if 8 ≤ run then c.enterRecovery p else c.resend p

/-- Ask the peer to send again. [DEDUCED, notes/assumptions/61.md] -/
def Chip.nakPeer (c : Chip) (p : Nat) : Chip := (c.updPort p (fun x => { x with nakSent := true })).linkFlit p true

/-- A broadcast's first copy is taken, its second discarded (R310). -/
def Chip.firstCopy (c : Chip) (src id : Nat) : Bool × Chip :=
  if decide ((src, id) ∈ c.ring.seen) then (false, c)
  else (true, c.onRing (fun r => { r with seen := ((src, id) :: r.seen).take 4096 }))

/-- Hand up a whole message (R308). -/
def Chip.handUp (c : Chip) (p : Nat) (f : TxFlit) (b : Bytes) : Chip :=
  let type := leAt b 0 1
  if leAt b 1 1 ≠ 1 ∨ !definedType f.cls type then c
  else
    let r := if f.broadcast && decide (p ≠ 0) then c.firstCopy f.src (leAt b 6 2) else (true, c)
    if r.1 then r.2.emit (.delivered p f.src f.cls type (slice b 16 (leAt b 2 3))) else r.2

/-- A marker that is forwarded carries the delay of the link it came by and its residence (R316). -/
def Chip.patchMarker (c : Chip) (p : Nat) (f : TxFlit) : TxFlit :=
  if f.cls = 4 ∧ leAt f.payload 0 1 = 1 then
    let d := leAt f.payload 20 4 + (c.port p).delayPs + c.val 0x3C09 * 1000
    { f with payload := patch f.payload 20 (leBytes 4 d) }
  else f

/-- Forward a message's flits (R310). -/
def Chip.forward (c : Chip) (p : Nat) (l : List TxFlit) : Chip :=
  match l with
  | [] => c
  | f :: _ =>
    let next : Option Nat :=
      if f.broadcast then
        let q := 3 - p
        if f.hops = 31 ∨ (c.port q).peer = f.src then none else some q
      else c.towards f.dst
    match next with
    | none => if f.broadcast then c else c.noPath l.length
    | some q =>
      if (c.port q).pstate < 2 then c
      else c.queueFlits q (l.map (fun g => { c.patchMarker p g with hops := g.hops + 1 }))

/-- A flit taken in order: kept until its message is whole, then delivered and forwarded. -/
def Chip.takeFlit (c : Chip) (p : Nat) (f : TxFlit) : Chip :=
  let l := (if f.first then [] else (c.port p).partial_.getD f.cls []) ++ [f]
  if !f.last then c.updPort p (fun x => { x with partial_ := x.partial_.put f.cls l })
  else
    let c := c.updPort p (fun x => { x with partial_ := x.partial_.drop f.cls })
    let mine := decide (p = 0) || f.broadcast || decide (f.dst = c.straps.nodeId) ||
      c.ring.aliases.any (fun a => decide (a.1 = f.dst))
    let c := if mine then c.handUp p f ((l.map (fun g => g.payload)).flatten) else c
    if p = 0 ∨ (mine ∧ !f.broadcast) then c else c.forward p l

/-- FLIT_RECEIVE: 256 bytes arrive on a port. -/
def Chip.flitReceive (c : Chip) (p : Nat) (raw : Bytes) : Chip :=
  if (c.port p).pstate ≠ 2 ∨ raw.length ≠ 256 then c
  else
    let b := correctFlit raw
    let c := if b.2 = 0 then c else c.bump 0x3C14 p b.2
    let h := leAt b.1 0 10
    let f := parseFlit b.1
    if crc64 (b.1.take 242) ≠ leAt b.1 242 8 then
      let c := c.bump 0x3C15 p
      if f.cls = 4 then c.bump 0x3C32 else c.nakPeer p
    else
      let c := c.takeHeader p h
      if f.cls = 0 then c
      else if !sequenced f.cls then
        (if portCarries p f.cls then c.takeFlit p f else c.bump 0x3C15 p)
      else
        let x := c.port p
        let fsn := bitsAt h 4 12
        let want := (x.ack + 1) % 4096
        if fsn = want then
          let c := c.setPort p { x with delivered := some fsn, nakSent := false, nakRun := x.nakRun
                                        rxUsed := x.rxUsed.put f.cls (x.rxUsed.getD f.cls 0 + 1) }
          let c := if portCarries p f.cls then c.takeFlit p f else c.bump 0x3C15 p
          if (c.port p).txq.isEmpty ∧ (c.port p).pstate = 2 then c.linkFlit p false else c
        else if (want + 4096 - fsn) % 4096 ≤ 2048 then c
        else if x.nakSent then c
        else c.nakPeer p

end Sys2Proof.Machine
end

