-- ==== Sys2Proof/Machine/Effect.lean ====
section
/-! DEFINITION. How a command's effect on the chip becomes a next state: the queue of commands is kept, change counts are
brought up to date (R332), and only the commands of the stride clock, the ring's time and the resets touch the clock. -/

namespace Sys2Proof.Machine

/-- Regions of a dirty-region log as the mirror carries them: a row group of a piste, or a zone. -/
def DirtyLog.regions (l : DirtyLog) : List Nat := l.rows.map (fun r => r.1 * 2 ^ 32 + r.2) ++ l.zones.map (fun z => 2 ^ 63 + z)

/-- A dirty-region log as the mirror carries it; 255 stands for the member of a free log. [DESIGN CHOICE, notes/assumptions/58.md] -/
def DirtyLog.record (i : Nat) (l : DirtyLog) : MirrorRecord := .dirtyLog i (if l.open_ then l.slot else 255) l.regions

/-- Tables the mirror carries at each change (Table 10.8): what a command changed in them joins the stream.
[DESIGN CHOICE, notes/assumptions/58.md] -/
def mirrorTables (old new : Chip) : Chip :=
  if !new.mirroring then new
  else
    let logs := (List.range new.logs.length).filter (fun i => decide (new.logs[i]? ≠ old.logs[i]?))
    let c := new.each logs (fun c i => match new.logs[i]? with
      | some l => c.mirrorItem (.record (DirtyLog.record i l))
      | none => c)
    -- what has left a table goes ahead with a count of 0
    let c := c.each (old.cache.lostRanges.filter (fun r => decide (r ∉ new.cache.lostRanges))) (fun c r =>
      c.mirrorItem (.record (.lostRange r.piste r.first 0)))
    let c := c.each (old.cache.lostStripes.filter (fun r => !(new.cache.lostStripes.any (fun y => decide (y.piste = r.piste) &&
        decide (y.stripe = r.stripe) && decide (y.newGeom = r.newGeom))))) (fun c r =>
      c.mirrorItem (.record (.lostStripe { r with count := 0 }.bytes)))
    let c := c.each (new.cache.lostRanges.filter (fun r => decide (r ∉ old.cache.lostRanges))) (fun c r =>
      c.mirrorItem (.record (.lostRange r.piste r.first r.count)))
    let c := c.each (new.cache.lostStripes.filter (fun r => decide (r ∉ old.cache.lostStripes))) (fun c r =>
      c.mirrorItem (.record (.lostStripe r.bytes)))
    let c := c.each (new.cqi.deferred.filter (fun d => decide (d ∉ old.cqi.deferred))) (fun c d =>
      c.mirrorItem (.record d.record))
    -- map pages that are dirty and new or changed (R126)
    let c := c.each new.pistes (fun c p =>
      c.each (p.2.pages.filter (fun g => g.2.dirty && decide (((old.pistes.getD p.1 Piste.reset).pages.find g.1).map (fun o =>
          (o.entries, o.dirty)) ≠ some (g.2.entries, true)))) (fun c g => c.mirrorItem (.mapPage p.1 g.1 g.2.bytes)))
    if new.cqi.nextAcc ≠ old.cqi.nextAcc then c.mirrorItem (.record (.acceptance (new.cqi.nextAcc - 1))) else c

/-- A part of an effect that leaves the stride clock and the straps as they stand. -/
def Chip.aside (c : Chip) (f : Chip → Chip) : Chip := { f c with clk := c.clk, straps := c.straps }

/-- What a command leaves: the tables mirrored, its Utofer messages sent as flits, the change counts brought up to date. -/
def Chip.afterCommand (old new : Chip) : Chip :=
  new.aside (fun c => countChanges old (Chip.sendUtofer old (mirrorTables old c)))

/-- The next state of a command of the clock's families. -/
def State.clockEffect (s : State) (f : Chip → Chip) : Host.Outcome State Fault Refusal :=
  .next { s with toChip := Chip.afterCommand s.toChip (f s.toChip) }

/-- The next state of a command outside the clock's families: the stride clock and the straps stand.
[DESIGN CHOICE, notes/assumptions/4.md; DEDUCED, notes/assumptions/12.md; DESIGN CHOICE, notes/assumptions/95.md] -/
def State.effect (s : State) (f : Chip → Chip) : Host.Outcome State Fault Refusal := s.clockEffect (fun c => c.aside f)

end Sys2Proof.Machine
end

