-- ==== Sys2Proof/Machine/Zones.lean ====
section
/-! DEFINITION. Groomed media: zone records, opening, filling, finishing and resetting of zones (R111 to R119), zone-strip
parity (R114 to R116), map pages and their changes (R122 to R128), live counts, and the space test (R135). -/

namespace Sys2Proof.Machine

/-! ### Zone records -/

/-- Write the block of the reserved area that holds a zone's record (R111, R112); what depends on it waits. -/
def Chip.writeZoneRecord (c : Chip) (slot z : Nat) : Chip :=
  let m := c.member slot
  let data := ((List.range 256).map (fun i => (m.zone (z / 256 * 256 + i)).bytes)).flatten
  (c.setMember slot { m with zones := m.zones.upd z Zone.reset (fun r => { r with working := true }) }).issueWrite slot 4 false
    (65536 + z / 256) [data] true (.zoneRecord z)

/-- An index is kept as a virtual member: in E, or failed (R160). [DEDUCED, notes/assumptions/29.md] -/
def Chip.virtualIndex (c : Chip) (x : Piste) (e : Nat) : Bool :=
  (match x.slotOf e with | some r => !r.drain | none => false) ||
    (match c.localSlot x e with | some s => c.failedFor x s | none => true)

/-- A zone of an index is virtual: with a copy-back, those that have not yet been written to the drive (R162).
[DEDUCED, notes/assumptions/29.md] -/
def Chip.virtualZone (c : Chip) (x : Piste) (e z : Nat) : Bool :=
  match x.slotOf e with
  | some r => if r.state = 4 then (r.recs.find z).isSome else c.virtualIndex x e
  | none => c.virtualIndex x e

/-- Change a zone of an index; its record is written unless the index is virtual or on another unit. -/
def Chip.changeZone (c : Chip) (p e z : Nat) (f : Zone → Zone) : Chip :=
  let x := c.piste p
  let c := c.setZoneOf p e z f
  match c.localSlot x e with
  | some s => if c.virtualZone x e z then c else c.writeZoneRecord s z
  | none => c

/-- The EMPTY zone with the lowest reset_count, ties to the lowest number (R113). -/
def emptyZone (zones : KMap Zone) (count : Nat) : Option Nat :=
  ((List.range count).foldl (fun (a : Option (Nat × Nat)) z =>
    let r := KMap.getD zones z Zone.reset
    if r.zstate ≠ 0 ∨ r.working then a
    else match a with
      | none => some (z, r.resetCount)
      | some (_, n) => if r.resetCount < n then some (z, r.resetCount) else a) none).map Prod.fst

/-- EMPTY zones of an index. -/
def Chip.emptyZones (c : Chip) (x : Piste) (e : Nat) : Nat :=
  (c.zoneFigures x e).2.2 - countOf (c.zonesOf x e).vals (fun z => z.zstate ≠ 0)

/-- R_e of an index (R113). -/
def Chip.reserveOf (c : Chip) (x : Piste) (e : Nat) : Nat :=
  ceilDiv (((c.zoneFigures x e).2.2 - countOf (c.zonesOf x e).vals (fun z => z.zstate = 3)) * c.sched.spare) 1000

/-- A_e, the general free zones of an index (R113). -/
def Chip.generalFree (c : Chip) (x : Piste) (e : Nat) : Nat := c.emptyZones x e - c.reserveOf x e

/-- A zone may be opened on an index: host appends leave the groom floor (R113). -/
def Chip.mayOpen (c : Chip) (x : Piste) (e : Nat) (groom : Bool) : Bool :=
  if groom then decide (0 < c.emptyZones x e)
  else decide (ceilDiv (c.reserveOf x e) 4 < c.emptyZones x e)

/-- Open a zone on an index (R112, R113, R118). -/
def Chip.openZone (c : Chip) (p e role firstSerial : Nat) (groom : Bool) : Chip × Option Nat :=
  let x := c.piste p
  if !c.mayOpen x e groom then (c, none)
  else match emptyZone (c.zonesOf x e) (c.zoneFigures x e).2.2 with
    | none => (c, none)
    | some z =>
      (c.changeZone p e z (fun r => { r with zstate := 1, role, parityMode := x.geom.zoneParity, piste := p, firstSerial,
                                             finishLap := 0, fill := 0, live := 0, slots := 0, kill := 0,
                                             repaired := false, verified := false, verifyLeft := 0 }), some z)

/-- The zone and data offset of the strip with serial r (R118): a place in the OPEN zone of its chain. Where that zone is full, the strip
waits until its FULL record is written, and then opens the next one (R112); so it does behind a zone that was finished (R119). -/
def Chip.placeStrip (c : Chip) (p e r : Nat) (groom : Bool) : Chip × Option (Nat × Nat) :=
  let x := c.piste p
  let fresh := fun (c : Chip) =>
    let o := c.openZone p e 0 r groom
    (o.1, o.2.map (fun z => (z, 0)))
  match zoneFor (c.zonesOf x e) p r with
  | none => fresh c
  | some (z, rec_) =>
    let i := (r - rec_.firstSerial) / 2
    if rec_.zstate = 1 then
      (if i < zoneStrips rec_.parityMode (c.zoneFigures x e).1 x.geom.b then (c, some (z, i * x.geom.b)) else (c, none))
    else if rec_.working then (c, none)
    else fresh c

/-- A zone becomes FULL (R112, R118). -/
def Chip.fullZone (c : Chip) (p e z : Nat) : Chip :=
  c.changeZone p e z (fun r => { r with zstate := 2, finishLap := c.lap })

/-- Finish a zone before it is filled (R119). -/
def Chip.finishZone (c : Chip) (p e z : Nat) : Chip :=
  let x := c.piste p
  let c := match c.localSlot x e with
    | some s => if c.virtualZone x e z then c else c.issue s 4 (.zoneFinish z) 0 (.zoneWork z) none 0
    | none => c
  c.fullZone p e z

/-- Finish every OPEN zone of a piste (R119, R176). -/
def Chip.finishAll (c : Chip) (p : Nat) : Chip :=
  let x := c.piste p
  if !x.groomed then c
  else c.each (List.range x.list.length) (fun c e =>
    c.each ((c.zonesOf x e).filter (fun z => z.2.zstate = 1 && decide (z.2.piste = p))) (fun c z => c.finishZone p e z.1))

/-- Reset a zone (R112, R128): a reset command, and the EMPTY record once it has completed; a virtual zone at once. -/
def Chip.resetZone (c : Chip) (p e z : Nat) : Chip :=
  let x := c.piste p
  if c.virtualZone x e z then
    let t := zoneStrips ((c.zonesOf x e).getD z Zone.reset).parityMode (c.zoneFigures x e).1 x.geom.b
    (c.setZoneOf p e z (fun r => { Zone.reset with resetCount := r.resetCount + 1 })).updPiste p (fun x =>
      { x with rebuild := { x.rebuild with slots := x.rebuild.slots.map (fun r => if r.index = e then
        r.clearZone c.lap z t else r) } })
  else match c.localSlot x e with
    | some s =>
      let c := c.updMember s (fun m => { m with zones := m.zones.upd z Zone.reset (fun r => { r with working := true }) })
      c.issue s 6 (.zoneReset z) 0 (.zoneWork z) none 0
    | none => c.setZoneOf p e z (fun r => { Zone.reset with resetCount := r.resetCount + 1 })

/-- A reset has completed: the zone is EMPTY, its record is written (R112). -/
def Chip.zoneWasReset (c : Chip) (slot z : Nat) : Chip :=
  (c.updMember slot (fun m => { m with zones := m.zones.upd z Zone.reset (fun r =>
    { Zone.reset with resetCount := r.resetCount + 1 }) })).writeZoneRecord slot z

/-! ### Zone-strip parity -/

/-- The key of a parity group. -/
def groupKey (slot zone group : Nat) : Nat := (slot * 2 ^ 24 + zone) * 2 ^ 20 + group

/-- Append companion blocks that wait (Table 5.4, OPEN_ONLY): to the OPEN COMPANION zone of the index, once its record is written; a zone
is opened where there is none, and behind a full one only when that one's record is written (R112). A block that finds no zone stays in
cache. [DESIGN CHOICE, notes/assumptions/108.md] -/
def Chip.pumpCompanions : Nat → Chip → Nat → Nat → Chip
  | 0, c, _, _ => c
  | n + 1, c, p, e =>
    let x := c.piste p
    match x.parityDue.find? (fun d => decide (d.1 = e)), c.localSlot x e with
    | some d, some slot =>
      let mine := (c.zonesOf x e).filter (fun z => z.2.role = 1 && decide (z.2.piste = p) && (z.2.zstate = 1 || z.2.zstate = 2))
      match mine.find? (fun z => z.2.zstate = 1) with
      | some (cz, r) =>
        if r.working || decide ((c.member slot).zcap ≤ r.fill) then c
        else
          let c := c.setZoneOf p e cz (fun z => { z with fill := r.fill + 1 })
          let c := c.updPiste p (fun x => { x with
            parityDue := x.parityDue.erase d, companion := x.companion.put d.2.1 (cz, r.fill) })
          let c := c.issueWrite slot 4 true (cz * (c.member slot).zsze + r.fill) [d.2.2] true .none
          Chip.pumpCompanions n (if r.fill + 1 = (c.member slot).zcap then c.fullZone p e cz else c) p e
      | none =>
        if mine.any (fun z => z.2.working) then c else (c.openZone p e 1 0 false).1
    | _, _ => c

/-- A complete group's XOR is to be appended (Table 5.4, OPEN_ONLY). -/
def Chip.appendCompanion (c : Chip) (p e slot zone group : Nat) (parity : Bytes) : Chip :=
  let c := c.updPiste p (fun x => { x with parityDue := x.parityDue ++ [(e, groupKey slot zone group, parity)] })
  Chip.pumpCompanions (c.piste p).parityDue.length c p e

/-- Companion blocks of every piste that wait. -/
def Chip.pumpParity (c : Chip) : Chip :=
  c.each (c.livePistes.filter (fun p => !p.2.parityDue.isEmpty)) (fun c p =>
    c.each ((p.2.parityDue.map Prod.fst).foldl addNew []) (fun c e => Chip.pumpCompanions p.2.parityDue.length c p.1 e))

/-- The blocks a strip write carries (R115): in KEPT mode the parity block of every group it completes stands after the group.
`acc` is the XOR of the group so far. -/
def keptBlocks : Nat → Bytes → List Bytes → List Bytes × Bytes
  | _, acc, [] => ([], acc)
  | x, acc, d :: r =>
    let a := xorBytes acc d
    if x % 15 = 14 then
      let t := keptBlocks (x + 1) [] r
      (d :: a :: t.1, t.2)
    else
      let t := keptBlocks (x + 1) a r
      (d :: t.1, t.2)

/-- The groups a run of data blocks completes, with their XOR, and the XOR of the group it leaves open. -/
def groupsDone : Nat → Bytes → List Bytes → List (Nat × Bytes) × Bytes
  | _, acc, [] => ([], acc)
  | x, acc, d :: r =>
    let a := xorBytes acc d
    if x % 15 = 14 then
      let t := groupsDone (x + 1) [] r
      ((x / 15, a) :: t.1, t.2)
    else groupsDone (x + 1) a r

/-- Prepare the write of strip data at a data offset of a zone: what goes to the member, and the parity kept or appended. -/
def Chip.zoneStripWrite (c : Chip) (p e slot zone offset : Nat) (data : List Bytes) : Chip × List Bytes :=
  let x := c.piste p
  let mode := ((c.zonesOf x e).getD zone Zone.reset).parityMode
  let acc := if offset % 15 = 0 then [] else x.partial_.getD (groupKey slot zone (offset / 15)) []
  let last := groupKey slot zone ((offset + data.length) / 15)
  let first := groupKey slot zone (offset / 15)
  if mode = 0 then
    let r := keptBlocks offset acc data
    (c.updPiste p (fun x => { x with partial_ := (x.partial_.drop first).store last r.2 [] }), r.1)
  else
    let r := groupsDone offset acc data
    let c := c.updPiste p (fun x => { x with partial_ := (x.partial_.drop first).store last r.2 [] })
    (c.each r.1 (fun c g => c.appendCompanion p e slot zone g.1 g.2), data)

/-- The companion blocks of a zone are released (R115). -/
def Chip.releaseCompanions (c : Chip) (p slot zone : Nat) : Chip :=
  c.updPiste p (fun x => { x with
    companion := x.companion.filter (fun g => decide (g.1 / 2 ^ 20 ≠ slot * 2 ^ 24 + zone))
    parityDue := x.parityDue.filter (fun g => decide (g.2.1 / 2 ^ 20 ≠ slot * 2 ^ 24 + zone)) })

/-- COMPANION zones that are FULL and hold no unreleased block are reset (R115). -/
def Chip.resetCompanions (c : Chip) (p : Nat) : Chip :=
  let x := c.piste p
  c.each (List.range x.list.length) (fun c e =>
    let slot := (atD x.list e (0, 255)).1
    let x := c.piste p
    c.each ((c.zonesOf x e).filter (fun z => z.2.zstate = 2 && z.2.role = 1 && decide (z.2.piste = p) && !z.2.working &&
        !(x.companion.any (fun g => decide (g.1 / 2 ^ 44 = slot) && decide (g.2.1 = z.1)))))
      (fun c z => c.resetZone p e z.1))

/-! ### Live counts (R128) -/

/-- The zones that hold a strip of a stripe: member-list index and zone. -/
def Chip.zonesHolding (c : Chip) (p q : Nat) : List (Nat × Nat) :=
  let x := c.piste p
  let g := x.geomOf q
  ((List.range (g.k + 2)).map (fun col =>
    let e := atD (x.stripeIndices ⟨p, false, 0, q⟩) col 0
    match c.stripZone p x e (x.serial e q) g.b with
    | some (z, o) => (e, z) :: (match x.slotOf e with
        | some r =>
          let t := zoneStrips ((c.zonesOf x e).getD z Zone.reset).parityMode (c.zoneFigures x e).1 g.b
          (match r.reloc.find (relocIndex z o g.b t) with
           | some (e2, z2, _) => [(e2, z2)]
           | none => [])
        | none => [])
    | none => [])).flatten

/-- Change the live count of a stripe and of every zone that holds a strip of it. -/
def Chip.changeLive (c : Chip) (p q : Nat) (up : Bool) : Chip :=
  let x := c.piste p
  let old := x.liveCount.getD q (0, 0)
  let live := if up then old.1 + 1 else old.1 - 1
  let c := c.updPiste p (fun x => { x with liveCount := x.liveCount.put q (live, old.2) })
  c.each (c.zonesHolding p q) (fun c z => c.setZoneOf p z.1 z.2 (fun r =>
    let n := if up then r.live + 1 else r.live - 1
    { r with live := n, kill := if n = 0 ∧ !up then c.journal.sealSeq else r.kill }))

/-- Queue granules of a stripe to be copied (R131, R134, R167). -/
def Chip.queueCopies (c : Chip) (p q : Nat) (l : List Nat) : Chip :=
  c.updPiste p (fun x => { x with copyQueue := l.foldl addNew x.copyQueue, copyFrom := l.foldl (fun m g => KMap.put m g q) x.copyFrom })

/-- Keep the list of the granules mapped to a stripe. -/
def Chip.holdGranule (c : Chip) (p q gno : Nat) (up : Bool) : Chip :=
  c.updPiste p (fun x =>
    let l := x.held.getD q []
    { x with held := x.held.store q (if up then addNew l gno else l.filter (fun g => decide (g ≠ gno))) [] })

/-- Granule slots of a groomed stripe: k*(S/G). -/
def Piste.granuleSlots (x : Piste) : Nat := x.geom.k * (x.geom.b / max 1 x.gb)

/-- Count the granule slots of a new stripe in its zones, filled or not (R128). -/
def Chip.addSlots (c : Chip) (p q : Nat) : Chip :=
  let slots := (c.piste p).granuleSlots
  let c := c.updPiste p (fun x => { x with liveCount := x.liveCount.put q (0, slots) })
  c.each (c.zonesHolding p q) (fun c z => c.setZoneOf p z.1 z.2 (fun r => { r with slots := r.slots + slots }))

/-! ### Map pages -/

/-- Change a map entry (R122): the page becomes dirty, the live counts follow. -/
def Chip.setMap (c : Chip) (p gno v : Nat) : Chip :=
  let x := c.piste p
  let old := x.mapOf gno
  if old = v then c
  else
    let counted := !x.suspended || decide (gno / 512 + x.censusLeft < x.mapPages)
    let before := if mapped old && counted then c.stripeOfEntry x old else none
    let c := c.updPiste p (fun x => { x with pages := x.pages.upd (gno / 512) MapPage.reset (fun g =>
      { g with entries := g.entries.store (gno % 512) v 0, dirty := true, reserved := false, present := true,
               firstChangeLap := if g.dirty then g.firstChangeLap else c.lap,
               changeSeq := if g.dirty then g.changeSeq else c.journal.sealSeq, lastUse := c.ownStride }) })
    let c := match before with
      | some (q, _) => (c.changeLive p q false).holdGranule p q gno false
      | none => c
    if mapped v && counted then
      match c.stripeOfEntry (c.piste p) v with
      | some (q, _) => (c.changeLive p q true).holdGranule p q gno true
      | none => c
    else c

/-- Record an entry's change record (R122). -/
def Chip.applyChange (c : Chip) (p : Nat) (copy : Bool) (rows : List ChangeRow) : Chip :=
  c.each rows (fun c r =>
    if copy then (if (c.piste p).mapOf r.granule = r.oldEntry then c.setMap p r.granule r.newEntry else c)
    else if r.superseded ∨ r.oldEntry = r.newEntry then c else c.setMap p r.granule r.newEntry)

/-- The entries of a map page that was read. -/
def pageEntries (b : Bytes) : KMap Nat :=
  (List.range 512).foldl (fun m s => KMap.store m s (leAt b (8 * s) 8) 0) []

/-- Evict clean pages, least recently used first, until the map cache fits (R125). -/
def Chip.evictPages : Nat → Chip → Chip
  | 0, c => c
  | n + 1, c =>
    let all := (c.pistes.map (fun x => (x.2.pages.filter (fun g => g.2.present)).map (fun g => (x.1, g.1, g.2)))).flatten
    if 4096 * all.length ≤ c.mapLimit then c
    else
      let clean := all.filter (fun g => !g.2.2.dirty && !g.2.2.reserved)
      match clean.foldl (fun (a : Option (Nat × Nat × MapPage)) g => match a with
          | none => some g
          | some y => if g.2.2.lastUse < y.2.2.lastUse then some g else some y) none with
      | none => c
      | some g => Chip.evictPages n (c.updPiste g.1 (fun x => { x with pages := x.pages.drop g.2.1 }))

/-- A map page has been read (R125). -/
def Chip.fillPage (c : Chip) (p page : Nat) (data : Bytes) : Chip :=
  (c.updPiste p (fun x => { x with pages := x.pages.upd page MapPage.reset (fun g =>
    if g.present then g else { g with entries := pageEntries data, present := true, lastUse := c.ownStride }) })).evictPages 1

/-- Whether a page is being read. -/
def Chip.pageComing (c : Chip) (p page : Nat) : Bool :=
  c.gathers.vals.any (fun g => decide (g.why = .mapPage p page))

/-- Ask for a map page (R125): one read of 4 KiB in the MAP class, counted as a miss. -/
def Chip.fetchPage (c : Chip) (p page : Nat) : Chip :=
  if (c.piste p).pageHere page || c.pageComing p page then c
  else
    let x := c.piste p
    let g := x.geometry ⟨p, false, 1, 0⟩
    let l := g.locate page
    ((c.bump 0x2803).bump 0x2813 p).startGather (.mapPage p page) ⟨p, false, 1, l.1⟩ l.2.2 1 [l.2.1] 2

/-- The contents of a map page are gone: every granule it maps enters the lost-range table (Table 14.3). [DEDUCED, notes/assumptions/35.md] -/
def Chip.losePage (c : Chip) (p page : Nat) : Chip :=
  let x := c.piste p
  let first := page * 512 * x.gb
  c.reportLostRange p first (min (512 * x.gb) (x.capacity - first))

/-- A lookup served from the map cache (Table 5.10). -/
def Chip.hitPage (c : Chip) (p page : Nat) : Chip :=
  (c.bump 0x2802).updPiste p (fun x => { x with pages := x.pages.upd page MapPage.reset (fun g =>
    { g with lastUse := c.ownStride }) })

/-! ### The space test (R135) -/

/-- Whether member-list index e2 of piste p2 names the same member as a (slot, node). -/
def Piste.holds (x : Piste) (m : Nat × Nat) : Bool := decide (m ∈ x.list)

/-- What one piste owes on a member (R135). -/
def Chip.owedOn (c : Chip) (p : Nat) (x : Piste) (w zcap : Nat) : Nat :=
  let rows := ceilDiv (c.owedStripes p w) (max 1 x.geom.m) + 1
  let t := max 1 (zoneStrips x.geom.zoneParity zcap x.geom.b)
  ceilDiv rows t + 2 + (if x.geom.zoneParity = 1 then ceilDiv rows (15 * t) + 1 else 0)

/-- The space test for a write of w new granules (R135). -/
def Chip.spaceTest (c : Chip) (p w : Nat) : Bool :=
  let x := c.piste p
  (List.range x.list.length).all (fun e =>
    let m := atD x.list e (0, 255)
    let re := c.reserveOf x e
    let free := c.emptyZones x e
    let a := free - re
    let v := min free re
    let need := sumOf (c.livePistes.filter (fun y => y.2.groomed && y.2.holds m)) (fun y =>
      c.owedOn y.1 y.2 (if y.1 = p then w else 0) (c.zoneFigures x e).1)
    decide (need + ceilDiv re 4 ≤ a + v))

end Sys2Proof.Machine
end

