-- ==== Sys2Proof/Machine/Journal.lean ====
section
/-! DEFINITION. The stripe journal: entries and their states (R91 to R98), what an engine computes for them (R48, R86 to R88,
R95), their member writes (R90, R94), sealing and commit (R93, R122), journal lanes (R99 to R102) and dirty-region logs
(R149). -/

namespace Sys2Proof.Machine

/-! ### The entry as recorded -/

/-- member_set: one 16-bit word for each column. -/
def Entry.memberBytes (e : Entry) : Bytes :=
  ((List.range 32).map (fun c => match e.memberSet.find c with
    | some (s, n) => leBytes 2 (s + n * 2 ^ 8 + 2 ^ 15)
    | none => leBytes 2 0)).flatten

/-- A journal entry (Table 4.2); `slot` stands in cache_ref. -/
def Entry.bytes (e : Entry) (slot : Nat) : Bytes :=
  let flags := (if e.acked then 1 else 0) + (if e.spanning then 2 else 0) + (if e.degraded then 4 else 0)
  let head := leBytes 1 e.state.code ++ leBytes 1 e.piste ++ leBytes 1 e.kind ++ leBytes 1 flags ++ leBytes 4 e.stripMask ++
    leBytes 8 e.stripe ++ leBytes 8 e.generation ++ leBytes 8 e.stride ++ leBytes 8 e.parityCheck ++
    leBytes 2 e.first ++ leBytes 2 e.count ++ leBytes 8 slot ++ leBytes 4 0 ++ leBytes 4 e.durableMask
  let set := e.memberBytes
  head ++ leBytes 4 (crc32c (head ++ set)) ++ set

/-- The entry state of a code (Table 4.3). -/
def entryStateOf (n : Nat) : EntryState :=
  match n with | 1 => .open_ | 2 => .dataDurable | 3 => .parityDurable | 4 => .committed | _ => .free

/-- A member_set: column to slot and node. -/
def parseMemberSet (b : Bytes) : KMap (Nat × Nat) :=
  (List.range 32).foldl (fun m col =>
    let w := leAt b (2 * col) 2
    if 2 ^ 15 ≤ w then KMap.put m col (w % 256, w / 256 % 32) else m) []

/-- The stripe of an entry's image lies in a reshape's new geometry (R173). [DEDUCED, notes/assumptions/31.md] -/
def Chip.inNewGeom (c : Chip) (p kind stripe : Nat) : Bool :=
  let x := c.piste p
  !x.groomed && decide (x.fall.state ≠ 0) && (decide (kind = 6) || decide ((stripe + 1) * x.fall.new.d ≤ x.fall.position))

/-- A journal entry's image (Table 4.2) laid over what is kept of the entry. -/
def Chip.parseEntry (c : Chip) (old : Entry) (b : Bytes) : Entry :=
  let flags := leAt b 3 1
  { old with
    state := entryStateOf (leAt b 0 1), sealed_ := entryStateOf (leAt b 0 1), piste := leAt b 1 1, kind := leAt b 2 1
    acked := flags.testBit 0, spanning := flags.testBit 1, degraded := flags.testBit 2, stripMask := leAt b 4 4
    stripe := leAt b 8 8, generation := leAt b 16 8, stride := leAt b 24 8, parityCheck := leAt b 32 8, first := leAt b 40 2
    count := leAt b 42 2, durableMask := leAt b 56 4, memberSet := parseMemberSet (b.drop 64)
    newGeom := c.inNewGeom (leAt b 1 1) (leAt b 2 1) (leAt b 8 8), touched := false }

/-- The stripe an entry is of. -/
def Entry.stripeId (e : Entry) : StripeId :=
  let a := areaOf e.stripe
  ⟨e.piste, e.newGeom, a.1, a.2⟩

/-- The entry belongs to a groomed piste's own stripes. -/
def Chip.groomedEntry (c : Chip) (e : Entry) : Bool := (c.piste e.piste).groomed && decide ((areaOf e.stripe).1 = 0)

/-- The geometry of an entry's stripe. -/
def Chip.entryGeom (c : Chip) (e : Entry) : Geometry := (c.piste e.piste).geometry e.stripeId

/-- The class of an entry's member traffic. -/
def Entry.cls (e : Entry) : Nat :=
  if e.kind = 4 then 6 else if e.kind = 5 ∨ e.kind = 6 then 5 else if 2 ^ 63 ≤ e.stripe then 2 else 4

/-- Data columns and parity an entry has still to write: what is not durable, and what it writes once more. -/
def Entry.toWrite (e : Entry) (k : Nat) : List Nat :=
  (bitsOf (k + 2) e.stripMask).filter (fun i => !e.durableMask.testBit i || e.again.testBit i)

/-- Every column the entry writes, on this unit and on others (R98). -/
def Entry.allMask (e : Entry) : Nat := e.stripMask ||| e.farMask

/-! ### Dirty-region logs (R149) -/

/-- The region of a place in a member's log. -/
def Chip.logRegion (c : Chip) (i : StripeId) (s : Spot) : Nat × Nat :=
  if s.zoned then (256, s.block / max 1 (c.member s.slot).zsze)
  else (i.piste, ((c.piste i.piste).geometry i).rowOf i.stripe / 4096)

/-- Enter a region in the open log of a failed member. -/
def Chip.logMissed (c : Chip) (i : StripeId) (s : Spot) : Chip :=
  let r := c.logRegion i s
  { c with logs := c.logs.map (fun l => if l.open_ ∧ l.slot = s.slot then
      (if s.zoned then { l with zones := addNew l.zones r.2 }
       else { l with rows := if r ∈ l.rows then l.rows else l.rows ++ [r] }) else l) }

/-- A durable copy of the log holds a region, or the member keeps no log. -/
def Chip.logDurable (c : Chip) (i : StripeId) (s : Spot) : Bool :=
  match c.logs.find? (fun l => l.open_ && decide (l.slot = s.slot)) with
  | none => true
  | some l =>
    let r := c.logRegion i s
    if s.zoned then decide (r.2 ∈ l.durZones) else decide (r ∈ l.durRows)

/-- Places of the columns an entry leaves out because their members have failed or are contained (R149, R252); a REBUILD entry changes no strip it leaves out. -/
def Chip.missedSpots (c : Chip) (e : Entry) : List Spot :=
  if e.kind = 5 then []
  else ((List.range (((c.piste e.piste).geometry e.stripeId).k + 2)).map (fun col => match c.stripHome e.stripeId col with
    | some s => if c.ownNode s.node ∧ !c.spotUp e.stripeId s ∧ !e.allMask.testBit col then [s] else []
    | none => [])).flatten

/-- An entry is opened: what it leaves out is logged. -/
def Chip.logOpened (c : Chip) (e : Entry) : Chip := c.each (c.missedSpots e) (fun c s => c.logMissed e.stripeId s)

/-! ### Opening (R71, R93, R96, R97) -/

/-- The first FREE journal slot. [DEDUCED, notes/assumptions/32.md] -/
def Chip.freeJournalSlot (c : Chip) : Option Nat :=
  (List.range 65536).find? (fun i => (c.journal.entries.find i).isNone)

/-- Freeze the blocks an entry destages. -/
def Chip.freezeBlock (c : Chip) (p slot b : Nat) : Chip :=
  let l := c.versions p b
  match toDestage l with
  | none => c
  | some v => c.setVersions p b (l.map (fun w => if w = v then
      { w with state := if w.state = .dirty then .frozen else w.state, entry := slot + 1 } else w))

/-- The member set of a stripe (Table 4.2). -/
def Chip.memberSetOf (c : Chip) (i : StripeId) : KMap (Nat × Nat) :=
  (List.range (((c.piste i.piste).geometry i).k + 2)).foldl (fun m col => match c.stripHome i col with
    | some s => KMap.put m col (s.slot, s.node)
    | none => m) []

/-- Open an entry: the next generation of its piste, the stride, and its blocks frozen; `none` when no slot is free (R97): every attempt
that a full journal turns away is counted in 0x2444. [DESIGN CHOICE, notes/assumptions/109.md] -/
def Chip.openEntry (c : Chip) (e : Entry) : Chip × Option Nat :=
  match c.freeJournalSlot with
  | none => (c.bump 0x2444, none)
  | some slot =>
    let g := (c.piste e.piste).generation
    let set := if e.memberSet.isEmpty then c.memberSetOf e.stripeId else e.memberSet
    let far := (bitsOf 32 e.stripMask).filter (fun col => !c.ownNode (set.getD col (0, c.straps.nodeId)).2)
    let e := { e with state := .open_, sealed_ := .free, generation := g, spanning := (c.piste e.piste).spanning, stride := c.clk.stride, touched := true,
                      memberSet := set, farMask := maskOf far,
                      stripMask := maskOf ((bitsOf 32 e.stripMask).filter (fun col => decide (col ∉ far))) }
    let c := c.updPiste e.piste (fun x => { x with generation := g + 1 })
    let c := c.each e.blocks (fun c b => c.freezeBlock e.piste slot b)
    ((c.setEntry slot e).logOpened e, some slot)

/-! ### What an engine computes -/

/-- The block at column `col`, offset `o` of the strip: what the entry freezes, else what was read. -/
def Entry.newBlock (e : Entry) (col o : Nat) : Bytes :=
  match e.overlay.find (col * 2 ^ 16 + o) with
  | some b => b
  | none => atD (e.oldCols.getD col []) (o - e.first) zeroBlock

/-- The new contents of a data column over the range. -/
def Entry.newCol (e : Entry) (col : Nat) : List Bytes := (List.range e.count).map (fun j => e.newBlock col (e.first + j))

/-- P and Q of the entry's range: from all data columns (R48), or corrected by old and new data (R87). -/
def Entry.parity (e : Entry) (k : Nat) : List Bytes × List Bytes :=
  if e.delta then
    let d := (List.range k).map (fun i => if e.allMask.testBit i then xorBlocks (e.oldCols.getD i []) (e.newCol i) else [])
    (xorBlocks (e.oldCols.getD k []) (parityP d), xorBlocks (e.oldCols.getD (k + 1) []) (parityQ d))
  else
    let d := (List.range k).map e.newCol
    (parityP d, parityQ d)

/-- parity_check of R95. All units of a spanning stripe hold one parity_check (R320), so `mask` names the columns of the stripe that
are written, on whichever unit. [DEDUCED, notes/assumptions/31.md] -/
def parityCheckOf (mask k : Nat) (p q : List Bytes) : Nat :=
  crc64 ((if mask.testBit k then p.flatten else []) ++ (if mask.testBit (k + 1) then q.flatten else []))

/-- The columns an entry writes, once everything it needs is read: repair and rebuild entries write what was solved.
[DEDUCED, notes/assumptions/31.md] -/
def Entry.compute (e : Entry) (k : Nat) : Entry :=
  let pq := e.parity k
  let col := fun i => if e.kind = 5 then e.oldCols.getD i [] else if i = k then pq.1 else if i = k + 1 then pq.2 else e.newCol i
  let p := col k
  let q := col (k + 1)
  { e with columns := (bitsOf (k + 2) e.allMask).foldl (fun m i => KMap.put m i (col i)) [], computed := true,
           parityCheck := parityCheckOf e.allMask k p q, touched := true }

/-- An engine has finished the work of an entry. -/
def Chip.computeEntry (c : Chip) (slot : Nat) : Chip :=
  let e := c.entry slot
  if e.state = .free || e.computed then c else c.setEntry slot (e.compute (c.entryGeom e).k)

/-- Ask an engine for the work of an entry (R30). [DEDUCED, notes/assumptions/31.md] -/
def Chip.entryWork (c : Chip) (slot : Nat) : Chip :=
  let e := c.entry slot
  c.engineWork e.cls (((c.entryGeom e).k + 2) * e.count * 4096) (2 * slot + 1)

/-! ### Member writes (R90, R94) -/

/-- A READ accepted before the writes an entry carries still needs one of its blocks from the members (R94, R199). -/
def Chip.readHolds (c : Chip) (slot : Nat) (e : Entry) : Bool :=
  e.blocks.any (fun b =>
    let v := (c.versions e.piste b).find? (fun w => decide (w.entry = slot + 1))
    match v with
    | none => false
    | some v => c.cqi.cmds.any (fun x => decide (x.opcode = 1) && decide (x.piste = e.piste) && !x.dead &&
        accEarlier x.acc v.acc && decide (b ∈ x.need)))

/-- The conditions of R94 (and of R118 and R320 for groomed stripes), with the log condition of R149; nor do an entry's writes mix with
a reconstruction that is under way on its stripe (R49). -/
def Chip.entryMayWrite (c : Chip) (slot : Nat) (e : Entry) : Bool :=
  let fixedForm := !c.groomedEntry e
  e.computed && decide (e.sealed_ ≠ .free) && !e.remade &&
  (e.state = .open_ || e.state = .dataDurable || (e.state = .parityDurable && decide (e.again ≠ 0))) &&
  (!c.hasStandby || decide (e.openMirror ≤ c.pair.mirrorAcc)) &&
  (!fixedForm || (e.laneDurable && !c.readHolds slot e && !c.solvingOver e.stripeId e.first e.count)) &&
  (c.missedSpots e).all (fun s => c.logDurable e.stripeId s)

/-- A mask without one bit. -/
def clearBit (mask i : Nat) : Nat := if mask.testBit i then mask - 2 ^ i else mask

/-- parity_check covers the parity that strip_mask still names (R95). -/
def Entry.recheck (e : Entry) (k : Nat) : Entry :=
  if e.computed then { e with parityCheck := parityCheckOf e.allMask k (e.columns.getD k []) (e.columns.getD (k + 1) []) } else e

/-- A column of an entry becomes unknown: it leaves strip_mask (R94), and what it gave to parity_check goes (R95). -/
def Entry.withoutColumn (e : Entry) (k col : Nat) : Entry :=
  let e := { e with stripMask := clearBit e.stripMask col, again := clearBit e.again col, degraded := true, touched := true,
                    issued := e.issued.filter (fun x => decide (x ≠ col)) }
  if k ≤ col then e.recheck k else e

/-- Advance an entry by the columns that are durable (R93). -/
def Entry.advance (e : Entry) (k : Nat) : Entry :=
  let left := e.toWrite k
  if !e.computed ∨ (e.state ≠ .open_ ∧ e.state ≠ .dataDurable) then e
  else if left.isEmpty then { e with state := .parityDurable, touched := true }
  else if e.state = .open_ ∧ left.all (fun i => decide (k ≤ i)) then { e with state := .dataDurable, touched := true }
  else e

/-- The member-list index that names a place's member. -/
def Piste.indexOf (x : Piste) (s : Spot) : Nat :=
  ((List.range x.list.length).find? (fun j => decide (atD x.list j (0, 255) = (s.slot, s.node)))).getD 0

/-- Where an entry writes a column: its home; the target of a REBUILD entry of a fixed piste stands in its member set (R153,
R161, R162), that of a groomed one in its change record (R159). -/
def Chip.entrySpot (c : Chip) (e : Entry) (col : Nat) : Option Spot :=
  let i := e.stripeId
  let x := c.piste e.piste
  if e.kind ≠ 5 then c.stripHome i col
  else if c.groomedEntry e then
    match e.change with
    | [] => c.stripHome i col
    | r :: _ =>
      let m := atD x.list (mapMember r.newEntry) (0, 255)
      let mode := ((c.zonesOf x (mapMember r.newEntry)).getD (mapZone r.newEntry) Zone.reset).parityMode
      some { slot := m.1, node := m.2, zoned := true, block := c.zoneBlock m.1 (mapZone r.newEntry) mode (mapOffset r.newEntry) }
  else match e.memberSet.find col with
    | some m => some { slot := m.1, node := m.2, zoned := false, block := (x.geometry i).stripBlock i.stripe }
    | none => c.stripHome i col

/-- The member of a place takes a write of an entry: REBUILD entries also write what a resyncing member still lacks. -/
def Chip.entryUp (c : Chip) (e : Entry) (s : Spot) : Bool :=
  if e.kind = 5 ∧ c.ownNode s.node then
    decide ((c.member s.slot).mstate ≠ .failed) && decide ((c.member s.slot).slot ≠ .contained)
  else c.spotUp e.stripeId s

/-- Strip writes to a zone go one at a time, in ascending block order (R118): no open entry still has to write a lower block of
the zone. -/
def Chip.zoneTurn (c : Chip) (s : Spot) : Bool :=
  let z := max 1 (c.member s.slot).zsze
  c.journal.entries.all (fun t =>
    let y := t.2
    if c.groomedEntry y && (y.state = .open_ || y.state = .dataDurable) then
      (bitsOf 32 y.stripMask).all (fun col => col ∉ y.toWrite 30 ||
        (match c.entrySpot y col with
         | some s2 => !(decide (s2.slot = s.slot) && decide (s2.node = s.node) && s2.zoned &&
             decide (s2.block / z = s.block / z) && decide (s2.block < s.block))
         | none => true))
    else true)

/-- Issue the write of one column of an entry. -/
def Chip.issueColumn (c : Chip) (slot col : Nat) : Chip :=
  let e := c.entry slot
  let i := e.stripeId
  let drop := fun (c : Chip) (s : Option Spot) =>
    let c := match s with | some s => c.logMissed i s | none => c
    c.updEntry slot (fun e => let k := (c.entryGeom e).k; (e.withoutColumn k col).advance k)
  match c.entrySpot e col with
  | none => drop c none
  | some s =>
    if !c.entryUp e s then drop c (some s)
    else if !c.ownNode s.node then c
    else
      let data := e.columns.getD col []
      let mark := fun (c : Chip) => c.updEntry slot (fun e => { e with issued := e.issued ++ [col] })
      if s.zoned then
        let x := c.piste e.piste
        let m := c.member s.slot
        let z := s.block / max 1 m.zsze
        let idx := x.indexOf s
        let rec_ := m.zone z
        if rec_.working || !c.zoneTurn s then c
        else
          let o := dataOffset rec_.parityMode (s.block % max 1 m.zsze)
          let r := c.zoneStripWrite e.piste idx s.slot z o data
          mark (r.1.issueWrite s.slot e.cls true s.block r.2 true (.entryWrite slot col))
      else mark (c.issueWrite s.slot e.cls false (s.block + e.first) data true (.entryWrite slot col))

/-- This unit is the home of an entry's piste, or serves it for its partner (R59, R318). -/
def Chip.isHome (c : Chip) (e : Entry) : Bool := c.ownNode (c.piste e.piste).home

/-- The other units that hold a column of a spanning stripe, by the node IDs of its member set (R319). -/
def Chip.farNodes (c : Chip) (e : Entry) : List Nat :=
  ((e.memberSet.map (fun m => m.2.2)).filter (fun n => !c.ownNode n)).foldl addNew []

/-- The home's STRIP_WRITE to the other units of a spanning stripe, once (R320). -/
def Chip.sendStripWrites (c : Chip) (slot : Nat) : Chip :=
  let e := c.entry slot
  let node := fun (col : Nat) => (e.memberSet.getD col (0, 255)).2
  let far := c.farNodes e
  if !e.spanning || !c.isHome e || e.round.sentWritten || far.isEmpty then c
  else
    let c := c.each far (fun c n =>
      let cols := (bitsOf 32 e.farMask).filter (fun col => decide (node col = n))
      c.emit (.stripe n 3 { c.stripeRef e.stripeId (maskOf cols) e.generation with
          kind := e.kind, acked := e.acked, degraded := e.degraded, stripe := e.stripe } 
        (e.memberBytes ++ leBytes 8 e.parityCheck ++ leBytes 2 e.first ++ leBytes 2 e.count ++
          ((cols.map (fun col => (e.columns.getD col []).flatten)).flatten))))
    c.updEntry slot (fun e => { e with round := { e.round with sentWritten := true } })

/-- Issue what an entry may write now. -/
def Chip.pumpEntry (c : Chip) (slot : Nat) : Chip :=
  let e := c.entry slot
  if !c.entryMayWrite slot e then c
  else
    let c := c.sendStripWrites slot
    let e := c.entry slot
    let c := c.each ((e.toWrite (c.entryGeom e).k).filter (fun col => decide (col ∉ e.issued)))
      (fun c col => c.issueColumn slot col)
    c.updEntry slot (fun e => e.advance (c.entryGeom e).k)

/-- Issue the writes of every entry that may write. -/
def Chip.pumpEntries (c : Chip) : Chip := c.each c.journal.entries.keys Chip.pumpEntry

/-- A column write has ended (R93, R94): durable, or to be tried again while its member is up. -/
def Chip.columnEnded (c : Chip) (slot col : Nat) (ok : Bool) : Chip :=
  let e := c.entry slot
  if e.state = .free then c
  else if ok then
    let c := c.updEntry slot (fun e => ({ e with durableMask := e.durableMask ||| 2 ^ col, again := clearBit e.again col, touched := true }).advance
      (c.entryGeom e).k)
    match c.entrySpot e col with
    | some s =>
      if s.zoned then
        let x := c.piste e.piste
        let idx := x.indexOf s
        let z := s.block / max 1 (c.member s.slot).zsze
        let rec_ := (c.zonesOf x idx).getD z Zone.reset
        let n := dataOffset rec_.parityMode (s.block % max 1 (c.member s.slot).zsze) / x.geom.b + 1
        let c := c.setZoneOf e.piste idx z (fun r => { r with fill := max r.fill n })
        if n = zoneStrips rec_.parityMode (c.zoneFigures x idx).1 x.geom.b ∧ rec_.zstate = 1 then c.fullZone e.piste idx z else c
      else c
    | none => c
  else c.updEntry slot (fun e => { e with issued := e.issued.filter (fun x => decide (x ≠ col)) })

/-- Columns of every entry on a member that has failed become unknown (R94). -/
def Chip.dropMemberColumns (c : Chip) (slot : Nat) : Chip :=
  c.each c.journal.entries (fun c t =>
    let e := t.2
    if e.state = .open_ || e.state = .dataDurable || decide (e.again ≠ 0) then
      c.each ((e.toWrite (c.entryGeom e).k).filter (fun col =>
          match e.memberSet.find col with | some m => decide (m.1 = slot) && c.ownNode m.2 | none => false))
        (fun c col =>
          let c := match c.stripHome e.stripeId col with
            | some s => c.logMissed e.stripeId s
            | none => c
          c.updEntry t.1 (fun e => let k := (c.entryGeom e).k; (e.withoutColumn k col).advance k))
    else c)

/-! ### Sealing (R93) -/

/-- COMMITTED of a version is sealed: it becomes CLEAN, or FREE when a newer one stands (R71, R93); a lost block is dropped from the
cache, its zeros stand on the members (R108). THROUGH data stands on the members, and stays apart until its write completes (R77); an
older THROUGH version has been carried with it. -/
def settle (slot : Nat) (l : List Version) : List Version :=
  let older := fun (r : List Version) => (r.filter (fun w => decide (w.entry ≠ slot + 1))).map (fun w =>
    if w.state = .through && w.entry = 0 then { w with landed := true } else w)
  match l with
  | [] => []
  | v :: r =>
    if v.entry = slot + 1 then
      if v.state = .through then { v with entry := 0, landed := true } :: older r
      else if v.lost then older r
      else { v with state := .clean, entry := 0 } :: older r
    else v :: (r.map (fun w => if w.entry = slot + 1 ∧ w.state = .through then { w with entry := 0, landed := true } else w)).filter
      (fun w => decide (w.entry ≠ slot + 1))

/-- What the COMMITTED seal of an entry does to the cache (R71, R93, R96). [DEDUCED, notes/assumptions/32.md] -/
def Chip.commitSealed (c : Chip) (slot : Nat) : Chip :=
  let e := c.entry slot
  let c := c.each e.blocks (fun c b => c.setVersions e.piste b (settle slot (c.versions e.piste b)))
  let c := c.updPiste e.piste (fun x => { x with committedGen := x.committedGen.put e.stripe e.generation })
  c.releaseHedges slot

/-- A groomed entry of a write-through piste waits until its map pages are durable (R122). [DEDUCED, notes/assumptions/32.md] -/
def Chip.mapDurable (c : Chip) (e : Entry) : Bool :=
  if c.throughMode e.piste && (e.kind = 3 || e.kind = 4 || e.kind = 6) then
    let x := c.piste e.piste
    e.change.all (fun r => r.superseded || !(x.pages.getD (r.granule / 512) MapPage.reset).dirty)
  else true

/-- A rebuilt strip's relocation entry is recorded (R159): the index stands in the row's oldEntry, the entry's place among the
relocation entries in its granule. -/
def Chip.applyReloc (c : Chip) (p : Nat) (rows : List ChangeRow) : Chip :=
  c.each rows (fun c r => c.updPiste p (fun x => { x with rebuild := { x.rebuild with slots := x.rebuild.slots.map (fun t =>
    if t.index = r.oldEntry ∧ !r.superseded then
      { t with reloc := t.reloc.put r.granule (mapMember r.newEntry, mapZone r.newEntry, mapOffset r.newEntry) }.touch c.lap
        [relocKey r.granule] else t) } }))

/-- A rebuild zone counts the stripes whose relocated strips it holds (R159). -/
def Chip.countReloc (c : Chip) (p q : Nat) (rows : List ChangeRow) : Chip :=
  let n := (c.piste p).liveCount.getD q (0, 0)
  c.each (rows.filter (fun r => !r.superseded)) (fun c r => c.setZoneOf p (mapMember r.newEntry) (mapZone r.newEntry) (fun z =>
    { z with live := z.live + n.1, slots := z.slots + n.2 }))

/-- Record COMMITTED in the stride in which PARITY_DURABLE is sealed, with the exceptions of R93. -/
def Chip.recordCommit (c : Chip) (slot : Nat) : Chip :=
  let e := c.entry slot
  let c := if c.groomedEntry e ∧ !e.change.isEmpty then
      if e.kind = 5 then (c.applyReloc e.piste e.change).countReloc e.piste e.stripe e.change
      else (c.applyChange e.piste (decide (e.kind ≠ 3)) e.change).updEntry slot (fun e =>
        { e with change := e.change.map (fun r => { r with oldEntry := r.newEntry }) })
    else c
  if (c.groomedEntry e && !c.mapDurable e) || decide (e.again ≠ 0) then c
  else c.updEntry slot (fun e => { e with state := .committed, touched := true })

/-- Seal one entry's changes. [DEDUCED, notes/assumptions/32.md] -/
def Chip.sealEntry (c : Chip) (slot : Nat) : Chip :=
  let e := c.entry slot
  if e.state = .committed ∧ e.sealed_ = .committed then
    c.onJournal (fun j => { j with entries := j.entries.drop slot })
  else if !e.touched then
    (if e.sealed_ = .parityDurable ∧ e.state = .parityDurable ∧ !e.spanning then c.recordCommit slot else c)
  else
    let r := if c.mirroring then c.mirrorSend (.record (.entryState slot (e.bytes slot))) else (c, 0)
    let r := if e.sealed_ = .free ∧ r.2 ≠ 0 ∧ !e.change.isEmpty then
        r.1.mirrorSend (.record (.changeRecord slot (e.change.map (fun x => (x.granule, x.oldEntry, x.newEntry, x.superseded)))))
      else r
    let c := r.1.setEntry slot { e with touched := false, sealed_ := e.state, remade := e.remade && !e.computed,
                                        openMirror := if e.sealed_ = .free then r.2 else e.openMirror }
    match e.state with
    | .parityDurable =>
      if (e.sealed_ = .parityDurable ∧ !e.round.rewrite) ∨ e.again ≠ 0 then c
      else if e.spanning then
        let c := c.updEntry slot (fun e => { e with round := { e.round with sinceLap := c.lap, rewrite := false } })
        if c.isHome e then c
        else c.emit (.commit (c.piste e.piste).home 1 { c.stripeRef e.stripeId e.durableMask e.generation with
          degraded := e.degraded, stripe := e.stripe, kind := e.kind })
      else c.recordCommit slot
    | .committed => if e.sealed_ = .committed then c else c.commitSealed slot
    | _ => c

/-- Seal the journal (R21, R93): the seal number rises when any entry changes. -/
def Chip.sealJournal (c : Chip) : Chip :=
  let any := c.journal.entries.any (fun t => t.2.touched || (t.2.state = .committed && t.2.sealed_ = .committed))
  let c := if any then c.onJournal (fun j => { j with sealSeq := j.sealSeq + 1 }) else c
  c.each c.journal.entries.keys Chip.sealEntry

/-! ### Lanes (R100 to R102) -/

/-- A lane as a drive holds it, read at a start (R100, R103): its header and its entries, 128 bytes each, under a CRC-32C that holds;
`none` where the block holds no lane. The entries stand under the numbers their cache_ref gives. [DEDUCED, notes/assumptions/79.md] -/
def Chip.laneFrom (c : Chip) (slot block : Nat) (b : Bytes) : Option Lane :=
  let n := leAt b 24 4
  let head := fit 4096 b
  let body := slice b 4096 (128 * n)
  if leAt b 0 2 ≠ 1 ∨ 65536 < n ∨ crc32c (patch head 56 (leBytes 4 0) ++ body) ≠ leAt b 56 4 then none
  else
    let entries := (List.range n).foldl (fun m j =>
      let x := slice body (128 * j) 128
      KMap.put m (leAt x 44 8 % 65536) (c.parseEntry Entry.reset x)) []
    some { lap := leAt b 4 8, node := leAt b 2 1, sealSeq := leAt b 12 8, block, entries, writeBack := bitsOf 256 (leAt b 28 32),
           slots := [slot], targets := [slot], failed := [] }

/-- A slot whose member has not left: in use, in containment, or with a removal asked for or under way. -/
def SlotState.seated (s : SlotState) : Bool := s = .inUse || s = .contained || s = .removalPending || s = .quiescing

/-- Members that may take a lane, by slot: those with a reserved area, not failed, and in the rotation (R100). -/
def Chip.laneMembers (c : Chip) : List Nat :=
  (c.members.filter (fun m => m.2.slot.seated && decide (m.2.mstate ≠ .failed) && !m.2.mstate.away && m.2.inRotation &&
    (match m.2.report with | some r => decide (r.conventionalBlocks ≠ 0) | none => false))).map Prod.fst

/-- First member block of a lane block. -/
def laneBlockStart (b : Nat) : Nat := if b = 0 then 4096 else if b = 1 then 6656 else 12288

/-- The members a lane of lap L goes to (R100). -/
def laneTargets (l : List Nat) (lap : Nat) : List Nat :=
  let n := l.length
  if n = 0 then []
  else if n = 1 then [atD l 0 0]
  else
    let a := lap % n
    [atD l a 0, atD l ((a + n / 2) % n) 0]

/-- The block a lane of lap L is written to (R100, R287). -/
def Journal.laneBlock (j : Journal) (lap : Nat) : Nat :=
  let taken := (match j.lastOwn with | some _ => [j.lastBlock] | none => []) ++
    (match j.avoidBlock with | some b => [b] | none => [])
  if lap % 2 ∉ taken then lap % 2
  else if 2 ∉ taken then 2
  else ([0, 1, 2].find? (fun b => decide (b ∉ taken))).getD 2

/-- Pistes in write-back mode or with dirty blocks (Table 4.6). -/
def Chip.writeBackPistes (c : Chip) : List Nat :=
  (c.livePistes.filter (fun p => decide (c.val 0x2420 p.1 = 0) && !p.2.fellBack &&
    !(c.pair.role = .alone && c.val 0x2430 = 0) || decide (0 < c.pisteDirty p.1))).map Prod.fst

/-- The lane image: header block, then the entries, 32 to a block (Table 4.6). -/
def Chip.laneBlocks (c : Chip) (lap : Nat) (es : List (Nat × Entry)) (wb : List Nat) : List Bytes :=
  let body := (es.map (fun e => e.2.bytes e.1)).flatten
  let head := fit 4096 (leBytes 2 1 ++ leBytes 1 c.straps.nodeId ++ leBytes 1 0 ++ leBytes 8 lap ++
    leBytes 8 c.journal.sealSeq ++ leBytes 4 es.length ++ leBytes 32 (maskOf wb))
  let head := patch head 56 (leBytes 4 (crc32c (head ++ body)))
  head :: (List.range (ceilDiv es.length 32)).map (fun b => slice body (b * 4096) 4096)

/-- The dirty-region logs' blocks go to the members of the lap's lane (R149). [DEDUCED, notes/assumptions/88.md] -/
def Chip.writeLogs (c : Chip) (targets : List Nat) : Chip :=
  c.each ((List.range c.logs.length).filter (fun i => (c.logs[i]?.map (fun l => l.open_)).getD false)) (fun c i =>
    let l := (c.logs[i]?).getD DirtyLog.reset
    if l.rows = l.durRows ∧ l.zones = l.durZones then c
    else
      let b := ((l.rows.map (fun r => leBytes 1 r.1 ++ leBytes 7 r.2)).flatten ++ (l.zones.map (leBytes 8)).flatten)
      let data := (List.range (min 128 (max 1 (ceilDiv b.length 4096)))).map (fun j => fit 4096 ((b.drop (4096 * j)).take 4096))
      let c := c.each targets (fun c s => c.issueWrite s 3 false (9216 + 128 * i) data true (.logWrite i))
      { c with logs := (List.range c.logs.length).map (fun j =>
          let y := (c.logs[j]?).getD DirtyLog.reset
          if j = i then { y with pendRows := l.rows, pendZones := l.zones, writesOut := targets.length } else y) })

/-- The lane of a lap boundary (R100, R101). While replay runs, no lane is written, and the logs go where its lane would. -/
def Chip.writeLane (c : Chip) : Chip :=
  let ms := c.laneMembers
  let lap := c.lap + c.journal.lapOffset
  if !c.mayWrite then c
  else if !c.journal.lanesAllowed then (if c.start.phase = 4 then c.writeLogs (laneTargets ms lap) else c)
  else
    if c.journal.pendingLane.isSome then c.bump 0x2452
    else if ms.isEmpty then (c.bump 0x2453).record 0x420
    else
      -- an entry stands in the lane as it was last sealed (R93)
      let es := (c.journal.entries.filter (fun t => decide (t.2.sealed_ ≠ .free) && decide (t.2.sealed_ ≠ .committed))).map
        (fun t => (t.1, { t.2 with state := t.2.sealed_ }))
      let wb := c.writeBackPistes
      let t := laneTargets ms lap
      let b := c.journal.laneBlock lap
      let lane : Lane := { lap, node := c.straps.nodeId, sealSeq := c.journal.sealSeq, block := b, entries := es,
                           writeBack := wb, slots := [], targets := t, failed := [] }
      let data := c.laneBlocks lap es wb
      let c := c.onJournal (fun j => { j with pendingLane := some lane, issuedBlock := b, issuedLap := lap })
      let c := c.each t (fun c s => c.issueWrite s 3 false (laneBlockStart b) data true (.lane lap))
      c.writeLogs t

/-- The lanes on the members once one more is durable: a member's lane block holds the last one written to it (R100). -/
def storeLane (l : Lane) (ls : List Lane) : List Lane :=
  (ls.map (fun y => if y.block = l.block then { y with slots := y.slots.filter (fun s => decide (s ∉ l.slots)) } else y)).filter
    (fun y => !y.slots.isEmpty) ++ [l]

/-- A lane is durable: its entries may write, its pistes are named (R94, R100, R102). -/
def Chip.laneDone (c : Chip) (l : Lane) : Chip :=
  let c := c.onJournal (fun j => { j with
    pendingLane := none
    lastOwn := some l.lap
    lastBlock := l.block
    entries := j.entries.mapVal (fun slot e => match l.entries.find slot with
      | some x => if x.generation = e.generation ∧ x.piste = e.piste then { e with laneDurable := true } else e
      | none => e) })
  let c := c.onStart (fun k => { k with lanesFound := storeLane l k.lanesFound })
  let c := (c.setVal 0x2450 0 l.lap).setOctets 0x2451 0
    (leBytes 1 (l.slots.headD 0xFF) ++ leBytes 1 (l.slots.getD 1 0xFF) ++ leBytes 2 0)
  let c := c.each l.writeBack (fun c p => c.updPiste p (fun x => { x with laneNamed := x.laneNamed || x.throughUntilLane }))
  c.pumpEntries

/-- A lane write has ended (R100, R101). -/
def Chip.laneWriteEnded (c : Chip) (slot lap : Nat) (ok : Bool) : Chip :=
  let c := if ok then c else c.updMember slot (fun m => { m with inRotation := false, ranResync := false })
  match c.journal.pendingLane with
  | none => c
  | some l =>
    if l.lap ≠ lap then c
    else
      let l := if ok then { l with slots := l.slots ++ [slot] } else { l with failed := l.failed ++ [slot] }
      if l.slots.length + l.failed.length < l.targets.length then c.onJournal (fun j => { j with pendingLane := some l })
      else if l.slots.isEmpty then (c.onJournal (fun j => { j with pendingLane := none })).bump 0x2453
      else c.laneDone l

/-- A dirty-region log copy has ended (R149). -/
def Chip.logWriteEnded (c : Chip) (i : Nat) (ok : Bool) : Chip :=
  let c := { c with logs := (List.range c.logs.length).map (fun j =>
    let y := (c.logs[j]?).getD DirtyLog.reset
    if j = i then { y with writesOut := y.writesOut - 1, durRows := if ok then y.pendRows else y.durRows,
                           durZones := if ok then y.pendZones else y.durZones } else y) }
  c.pumpEntries

/-- A write of a lane or of a dirty-region log. -/
def MCmd.ofLap (k : MCmd) : Bool := match k.purpose with | .lane _ => true | .logWrite _ => true | _ => false

/-- A contained port issues nothing (R252): the writes a lap gives it have ended without result. [DEDUCED, notes/assumptions/40.md] -/
def Chip.failContained (c : Chip) : Chip :=
  c.each (c.members.keys.filter (fun s => decide ((c.member s).slot = .contained))) (fun c s =>
    let l := (c.member s).queues.flatten.filter MCmd.ofLap
    let c := c.updMember s (fun m => { m with queues := m.queues.map (fun q => q.filter (fun k => !k.ofLap)) })
    c.each l (fun c k => match k.purpose with
      | .lane lap => c.laneWriteEnded s lap false
      | .logWrite i => c.logWriteEnded i false
      | _ => c))

/-- Members whose rotation ended return at a lap boundary, once a resync or a rebuild has run (R101). -/
def Chip.rotationLap (c : Chip) : Chip :=
  { c with members := c.members.mapVal (fun _ m =>
      if !m.inRotation ∧ m.ranResync ∧ m.mstate = .inService then { m with inRotation := true } else m) }

/-- The stride under way begins a lap (R34). -/
def Chip.atLap (c : Chip) : Bool := decide (c.clk.stride % 256 = 0)

/-- Write-back of a piste takes effect at the first lap boundary after a lane that names it (R102). -/
def Chip.writeBackLap (c : Chip) (p : Nat) : Chip :=
  let x := c.piste p
  if c.atLap ∧ x.throughUntilLane ∧ x.laneNamed then c.setPiste p { x with throughUntilLane := false, laneNamed := false } else c

end Sys2Proof.Machine
end

