-- ==== Sys2Proof/Machine/Destage.lean ====
section
/-! DEFINITION. Destage: what releases a stripe (R85), the paths of fixed stripes (R86 to R88), the appends of groomed pistes
(R89, R120, R121), lost stripes and held blocks (R163 to R166, R174) and map write-back (R127). -/

namespace Sys2Proof.Machine

/-! ### Lost stripes -/

/-- The table entry of a stripe. -/
def Chip.lostEntry (c : Chip) (i : StripeId) : Option LostStripe :=
  c.cache.lostStripes.find? (fun l => decide (l.piste = i.piste) && decide (l.stripe = i.stripe) &&
    decide (l.newGeom = i.newGeom) && decide (i.area = 0))

/-- Make room in a full table (R166): the oldest entry of the piste that is reported and not held goes; `none` where the piste
has none. -/
def roomFor (l : List LostStripe) (p : Nat) : Option (List LostStripe) :=
  if l.length < 16384 then some l
  else match (l.filter (fun x => decide (x.piste = p) && decide (x.deferred ≠ 0) && !x.held)).foldl
      (fun (a : Option LostStripe) x => match a with
        | none => some x
        | some y => if x.seq < y.seq then some x else some y) none with
    | some v => some (l.filter (fun x => decide (x.seq ≠ v.seq)))
    | none => none

/-- Rebuild of a piste pauses because the table is full (R166). -/
def Chip.pauseByTable (c : Chip) (p : Nat) : Chip :=
  (c.updPiste p (fun x => { x with rebuild := { x.rebuild with slots := x.rebuild.slots.map (fun r =>
    if r.state = 1 ∨ r.state = 2 then { r with state := 0, pausedByTable := true, was := r.state } else r) } })).faultAndClear
    0xC3 0x21 (some p)

/-- Enter a stripe in the lost-stripe table (R163, R166): cause, lost data columns and the lost range. Acknowledged data that
is lost with it is reported as one deferred error (R165). -/
def Chip.enterLost (c : Chip) (i : StripeId) (cause first count : Nat) (cols : List Nat) (kind : Nat) : Chip :=
  let x := c.piste i.piste
  let g := x.geometry i
  let data := cols.filter (fun col => decide (col < g.k))
  if i.area ≠ 0 then c
  else match c.lostEntry i with
    | some l =>
      let f := min l.first first
      let e := max (l.first + l.count) (first + count)
      c.onCache (fun k => { k with lostStripes := k.lostStripes.map (fun y => if y.seq = l.seq then
        { y with first := f, count := e - f, columns := y.columns ||| maskOf data } else y) })
    | none =>
      match roomFor c.cache.lostStripes i.piste with
      | none => c.pauseByTable i.piste
      | some l =>
        let n := c.cache.lostSeq + 1
        let host := if x.groomed then 0 else g.hostBlock i.stripe (data.headD 0) first
        let rep := decide (kind ≠ 0) && !data.isEmpty
        let d := if rep then c.cqi.nextDeferred else 0
        let entry : LostStripe := { piste := i.piste, cause, groomed := x.groomed, newGeom := i.newGeom, columns := maskOf data,
                                    stripe := i.stripe, first, count, deferred := d, seq := n, sinceLap := c.lap, held := false,
                                    logSeq := c.nextSeq }
        let c := (c.onCache (fun k => { k with lostStripes := l ++ [entry], lostSeq := n })).record 0xA01 (some i.piste)
        if rep then c.deferError i.piste kind host (count * data.length) n else c

/-- A stripe is lost now: more than two of its columns are unknown, unreachable units apart (R61, R163). -/
def Chip.isLost (c : Chip) (i : StripeId) : Bool := decide (2 < (c.lostCols i).length)

/-- A host block of a fixed stripe is lost (R164): its column is unknown in a lost stripe, or the table names it. -/
def Chip.lostAt (c : Chip) (i : StripeId) (col o : Nat) : Bool :=
  (match c.lostEntry i with
    | some l => l.columns.testBit col && decide (l.first ≤ o) && decide (o < l.first + l.count)
    | none => false) ||
  (c.isLost i && decide (col ∈ c.lostCols i))

/-- A lost stripe that is met enters the table (R163). [DEDUCED, notes/assumptions/42.md] -/
def Chip.meetLost (c : Chip) (i : StripeId) : Chip :=
  if c.isLost i && (c.lostEntry i).isNone then c.enterLost i 0 0 ((c.piste i.piste).geometry i).b (c.lostCols i) 1 else c

/-- Take a stripe off the table. -/
def Chip.leaveLost (c : Chip) (i : StripeId) : Chip :=
  c.onCache (fun k => { k with lostStripes := k.lostStripes.filter (fun l =>
    !(decide (l.piste = i.piste) && decide (l.stripe = i.stripe) && decide (l.newGeom = i.newGeom))) })

/-! ### Where a host block of a fixed piste is destaged (R55, R173, R174) -/

/-- The stripe, column and offset of a host block: the new geometry below the fall line. -/
def Piste.locate (x : Piste) (p b : Nat) : StripeId × Nat × Nat :=
  if x.fall.state ≠ 0 ∧ !x.groomed ∧ b < x.fall.position * x.fall.new.d then
    let l := x.fall.new.locate b
    (⟨p, true, 0, l.1⟩, l.2.1, l.2.2)
  else
    let l := x.geom.locate b
    (⟨p, false, 0, l.1⟩, l.2.1, l.2.2)

/-- A reshape holds a block back (R174): between the durable checkpoint and the fall line, or in the stripe being copied. -/
def Chip.reshapeHolds (c : Chip) (p : Nat) (x : Piste) (b : Nat) : Bool :=
  (!x.groomed && x.rebuild.slots.any (fun r => decide (r.state = 4) &&
    (let row := x.geom.rowOf (x.geom.locate b).1
     decide (r.copyDurable ≤ row) && decide (row < r.copyMark)))) ||
  !x.groomed && decide (x.fall.state ≠ 0) &&
    (decide (x.fall.durable * x.fall.new.d ≤ b ∧ b < x.fall.position * x.fall.new.d) ||
     (decide (b / max 1 x.fall.new.d = x.fall.position) && c.journal.entries.any (fun e => decide (e.2.piste = p) &&
       decide (e.2.kind = 6) && e.2.newGeom && decide (e.2.state ≠ .free))))

/-- A block to destage: host block, column, offset, version. -/
structure Due where
  block : Nat
  col : Nat
  off : Nat
  ver : Version
deriving DecidableEq, Repr, Inhabited

/-- Blocks of a piste that wait for destage. -/
def Chip.waitingBlocks (c : Chip) (p : Nat) : List (Nat × Version) :=
  ((c.cache.blocks.filter (fun b => decide (b.1 / 2 ^ 64 = p))).map (fun b => match toDestage b.2 with
    | some v => [(b.1 % 2 ^ 64, v)]
    | none => [])).flatten

/-- Stripes of a fixed piste with blocks to destage. -/
def Chip.dueStripes (c : Chip) (p : Nat) : List (StripeId × List Due) :=
  let x := c.piste p
  (c.waitingBlocks p).foldl (fun (a : List (StripeId × List Due)) bv =>
    if c.reshapeHolds p x bv.1 then a
    else
      let l := x.locate p bv.1
      let d : Due := { block := bv.1, col := l.2.1, off := l.2.2, ver := bv.2 }
      if a.any (fun s => decide (s.1 = l.1)) then a.map (fun s => if s.1 = l.1 then (s.1, s.2 ++ [d]) else s)
      else a ++ [(l.1, [d])]) []

/-- All k data strips are to be destaged, all DIRTY or all THROUGH (R85, R86). [DEDUCED, notes/assumptions/26.md] -/
def fullDue (g : Geometry) (l : List Due) : Bool :=
  decide (l.length = g.d) && (l.all (fun d => d.ver.state = .dirty) || l.all (fun d => d.ver.state = .through))

/-- The data a version gives to the members: zeros where it is lost (R108). -/
def Version.out (v : Version) : Bytes := if v.lost then zeroBlock else v.data

/-- The entry of a fixed stripe before it opens. -/
def dueEntry (i : StripeId) (spanning : Bool) (kind first count mask : Nat) (l : List Due) : Entry :=
  { Entry.reset with
    piste := i.piste, newGeom := i.newGeom, stripe := stripeField i.area i.stripe, kind, first, count, stripMask := mask, spanning
    acked := l.any (fun d => d.ver.state = .dirty)
    blocks := l.map (fun d => d.block)
    through := (l.filter (fun d => d.ver.state = .through)).foldl (fun a d => addNew a d.ver.acc) []
    overlay := l.foldl (fun m d => KMap.put m (d.col * 2 ^ 16 + d.off) d.ver.out) [] }

/-- Union range of the offsets (R87). -/
def dueRange (l : List Due) : Nat × Nat :=
  let os := l.map (fun d => d.off)
  let lo := minOf os 0
  (lo, maxOf os + 1 - lo)

/-- Hold the dirty blocks on lost columns (R165). -/
def Chip.holdLost (c : Chip) (i : StripeId) : Chip :=
  c.onCache (fun k => { k with lostStripes := k.lostStripes.map (fun l =>
    if l.piste = i.piste ∧ l.stripe = i.stripe ∧ l.newGeom = i.newGeom ∧ !l.held then { l with held := true, sinceLap := c.lap }
    else l) })

/-- Destage of a stripe in the lost-stripe table (R163, R165): blocks on known columns in place; the whole stripe once every lost block is to
be destaged, and then again only when a member has returned. A write-through write to a lost block waits with it.
[DEDUCED, notes/assumptions/42.md] -/
def Chip.destageLost (c : Chip) (i : StripeId) (l : List Due) : Chip :=
  let x := c.piste i.piste
  let g := x.geometry i
  let c := c.meetLost i
  let cells := (List.range g.k).flatMap (fun col => (List.range g.b).map (fun o => (col, o)))
  let due := fun (t : Nat × Nat) => l.any (fun d => decide (d.col = t.1) && decide (d.off = t.2))
  let gone := cells.filter (fun t => c.lostAt i t.1 t.2)
  let knownMask := maskOf ((List.range (g.k + 2)).filter (fun col => (c.known i col).isSome))
  let wrote := match c.lostEntry i with | some y => y.wrote | none => 0
  let held := fun (d : Due) => c.lostAt i d.col d.off || (c.known i d.col).isNone
  if !gone.isEmpty && gone.all due then
    if wrote ≠ 0 ∧ knownMask ||| wrote = wrote then c.holdLost i
    else
      let r := c.openEntry { dueEntry i x.spanning 2 0 g.b knownMask l with degraded := true }
      match r.2 with
      | none => r.1
      | some slot =>
        let ask := mergeRuns ((cells.filter (fun t => !due t)).map (fun t => (i.stripe, t.1, t.2)))
        if ask.isEmpty then r.1.entryWork slot
        else r.1.each ask (fun c t => c.startGather (.entry slot) i t.2.2.1 t.2.2.2 [t.2.1] 4)
  else
    let c := if l.any held then c.holdLost i else c
    let good := l.filter (fun d => !held d)
    match mergeRuns (good.map (fun d => (i.stripe, d.col, d.off))) with
    | [] => c
    | (_, col, o, n) :: _ =>
      let run := good.filter (fun d => decide (d.col = col) && decide (o ≤ d.off) && decide (d.off < o + n))
      let r := c.openEntry { dueEntry i x.spanning 2 o n (2 ^ col) run with degraded := true }
      match r.2 with
      | none => r.1
      | some slot => r.1.entryWork slot

/-- Write-through writes that wait for a stripe which an unreachable unit keeps from being written end with 0x0302 (R61); the step that
ends them finds them marked. -/
def Chip.cutWrites (c : Chip) (blocks : List (Nat × Nat)) : Chip :=
  let accs := (blocks.map (fun b => ((c.versions b.1 b.2).filter (fun v => v.state = .through && v.entry = 0)).map (fun v => v.acc))).flatten
  if accs.isEmpty then c
  else c.onCqi (fun k => { k with cmds := k.cmds.map (fun x => if x.stage = .through ∧ x.acc ∈ accs then { x with failBlock := some (0, 0x0302) } else x) })

/-- Open the entry of a fixed stripe (R86 to R88). -/
def Chip.destageStripe (c : Chip) (i : StripeId) (l : List Due) : Chip :=
  let x := c.piste i.piste
  let g := x.geometry i
  let bad := c.unknownCols i
  if l.isEmpty ∨ (c.openEntryOf i).isSome then c
  else if c.isLost i then c.destageLost i l
  else if 2 < bad.length then c.cutWrites (l.map (fun d => (i.piste, d.block)))   -- strips on an unreachable unit: the data stays DIRTY (R61)
  else if (c.lostEntry i).isSome then c.destageLost i l
  else
    let knownMask := maskOf ((List.range (g.k + 2)).filter (fun col => decide (col ∉ bad)))
    if fullDue g l then
      -- with an unknown strip the entry is HOST_RECON, though nothing need be read (R88)
      let r := c.openEntry { dueEntry i x.spanning (if bad.isEmpty then 0 else 2) 0 g.b knownMask l with degraded := !bad.isEmpty }
      match r.2 with
      | none => r.1
      | some slot => r.1.entryWork slot
    else
      let rg := dueRange l
      let cols := l.foldl (fun a d => addNew a d.col) []
      if bad.isEmpty then
        let r := c.openEntry { dueEntry i x.spanning 1 rg.1 rg.2 (maskOf (cols ++ [g.k, g.k + 1])) l with delta := true }
        match r.2 with
        | none => r.1
        | some slot => r.1.startGather (.entry slot) i rg.1 rg.2 (cols ++ [g.k, g.k + 1]) 4
      else
        let r := c.openEntry { dueEntry i x.spanning 2 rg.1 rg.2 knownMask l with degraded := true }
        match r.2 with
        | none => r.1
        | some slot => r.1.startGather (.entry slot) i rg.1 rg.2 (List.range g.k) 4

/-! ### Groomed appends (R89, R120, R121) -/

/-- The newest version of a block an append may take: what waits for destage, else the newest older one (R120). -/
def appendData (l : List Version) : Option Version :=
  match toDestage l with
  | some v => some v
  | none => l.find? (fun v => decide (v.state ≠ .through))

/-- A granule is whole in the cache or unmapped. -/
def Chip.granuleWhole (c : Chip) (p gno : Nat) : Bool :=
  let x := c.piste p
  (x.pageHere (gno / 512) && !mapped (x.mapOf gno)) ||
    (List.range x.gb).all (fun j => !(c.versions p (gno * x.gb + j)).isEmpty)

/-- Missing blocks of a lost granule: they are lost ranges, and the append carries zeros for them (R108, R165). -/
def Chip.granuleLost (c : Chip) (p gno : Nat) : Chip :=
  let x := c.piste p
  c.each (List.range x.gb) (fun c j =>
    let b := gno * x.gb + j
    if (c.versions p b).isEmpty then
      (c.setVersions p b [{ state := .clean, data := zeroBlock, acc := 0, dirtyLap := 0, entry := 0, lost := true }]).addLostBlock p b
    else c)

/-- Read the missing blocks of a granule from its mapped place (R120). [DESIGN CHOICE, notes/assumptions/27.md] -/
def Chip.fillGranule (c : Chip) (p gno cls : Nat) : Chip :=
  let x := c.piste p
  if !x.pageHere (gno / 512) then c.fetchPage p (gno / 512)
  else if c.granuleWhole p gno || c.gathers.vals.any (fun g => decide (g.why = .granule p gno)) then c
  else match c.stripeOfEntry x (x.mapOf gno) with
    | none => c
    | some (q, col) =>
      let i : StripeId := ⟨p, false, 0, q⟩
      if c.isLost i && decide (col ∈ c.lostCols i) then (c.meetLost i).granuleLost p gno
      else c.startGather (.granule p gno) i (mapOffset (x.mapOf gno) % x.geom.b) x.gb [col] cls

/-- Missing blocks of a granule have arrived: CLEAN data of the mapped granule (R120). -/
def Chip.granuleArrived (c : Chip) (p gno : Nat) (data : List Bytes) : Chip :=
  let x := c.piste p
  c.each (List.range x.gb) (fun c j =>
    let b := gno * x.gb + j
    if (c.versions p b).isEmpty then
      c.setVersions p b [{ state := .clean, data := atD data j zeroBlock, acc := 0, dirtyLap := 0, entry := 0, lost := false }]
    else c)

/-- A granule to be copied is at hand: read from the place the map names now (R131). -/
def Chip.copyHere (c : Chip) (p gno : Nat) : Bool :=
  let x := c.piste p
  x.pageHere (gno / 512) && (match x.copyData.find gno with | some t => decide (t.1 = x.mapOf gno) | none => false)

/-- A granule is copied no further: it is not live where the copy was to be taken from. -/
def Chip.dropCopy (c : Chip) (p gno : Nat) : Chip :=
  c.updPiste p (fun x => { x with copyQueue := x.copyQueue.filter (fun g => decide (g ≠ gno)), copyFrom := x.copyFrom.drop gno
                                  copyData := x.copyData.drop gno })

/-- The live contents of a granule have come (R131). -/
def Chip.copyArrived (c : Chip) (p gno entry : Nat) (data : List Bytes) : Chip :=
  c.updPiste p (fun x => { x with copyData := x.copyData.put gno (entry, data) })

/-- Read a live granule from its mapped place for a copy; where the cache holds nothing but its committed contents, from there (R71,
R131). A granule whose blocks are lost stays where it is (R165). -/
def Chip.readCopy (c : Chip) (p gno cls : Nat) : Chip :=
  let x := c.piste p
  let v := x.mapOf gno
  if !x.pageHere (gno / 512) then c.fetchPage p (gno / 512)
  else if c.copyHere p gno || c.gathers.vals.any (fun g => decide (g.why = .copy p gno v)) then c
  else match c.stripeOfEntry x v with
    | none => c.dropCopy p gno
    | some (q, col) =>
      let i : StripeId := ⟨p, false, 0, q⟩
      let held := (List.range x.gb).map (fun j => c.versions p (gno * x.gb + j))
      if held.all (fun l => match l with | [w] => w.state = .clean && !w.lost | _ => false) then
        c.copyArrived p gno v (held.map (fun l => (l.map Version.out).headD zeroBlock))
      else if c.isLost i && decide (col ∈ c.lostCols i) then (c.meetLost i).dropCopy p gno
      else c.startGather (.copy p gno v) i (mapOffset v % x.geom.b) x.gb [col] cls

/-- Granules of a groomed piste with blocks to destage, oldest dirty block first. -/
def Chip.dueGranules (c : Chip) (p : Nat) : List (Nat × Nat) :=
  let gb := max 1 (c.piste p).gb
  let l := (c.waitingBlocks p).foldl (fun (a : KMap Nat) bv =>
    let g := bv.1 / gb
    match a.find g with
    | some t => KMap.put a g (min t bv.2.dirtyLap)
    | none => KMap.put a g bv.2.dirtyLap) []
  -- insertion by lap
  l.foldl (fun a e => (a.filter (fun y => decide (y.2 ≤ e.2))) ++ [e] ++ (a.filter (fun y => decide (e.2 < y.2)))) []

/-- Place the strips of stripe q (R118): every column gets a zone, or is unknown. -/
def Chip.placeStripe (c : Chip) (p q : Nat) (groom : Bool) : Chip × Bool :=
  let x := c.piste p
  let i : StripeId := ⟨p, false, 0, q⟩
  (List.range (x.geom.k + 2)).foldl (fun (a : Chip × Bool) col =>
    let e := atD (x.stripeIndices i) col 0
    let r := a.1.placeStrip p e (x.serial e q) groom
    (r.1, a.2 && r.2.isSome)) (c, true)

/-- The target member of a strip (R159): from the column after the stripe's last, cyclically; a member of e's node first.
[DEDUCED, notes/assumptions/41.md] -/
def Chip.relocTarget (c : Chip) (x : Piste) (q e : Nat) : Option Nat :=
  let g := x.geomOf q
  let row := tableRow x.seed g.n (g.rowOf q % 4096)
  let last := g.colOf q (g.k + 1)
  let on := (List.range (g.k + 2)).map (fun col => atD row (g.colOf q col) 0)
  let ok := fun (t : Nat) => decide (t ∉ on) && decide (t ∉ x.repl) && decide (0 < c.emptyZones x t) &&
    (match c.localSlot x t with
     | some s => decide ((c.member s).mstate = .inService) && decide ((c.member s).slot ≠ .contained)
     | none => c.reachable (atD x.list t (0, 255)).2)
  let order := (List.range g.n).map (fun j => atD row ((last + 1 + j) % g.n) 0)
  let node := (atD x.list e (0, 255)).2
  match order.find? (fun t => ok t && decide ((atD x.list t (0, 255)).2 = node)) with
  | some t => some t
  | none => order.find? ok

/-- Take the next strip of the open rebuild zone of a target. Behind one that is full the next is opened once its FULL record is written
(R112, R159). -/
def Chip.relocPlace (c : Chip) (p t : Nat) : Chip × Option (Nat × Nat) :=
  let x := c.piste p
  let zones := c.zonesOf x t
  let room := zones.find? (fun z => z.2.zstate = 1 && decide (z.2.piste = p) && decide (z.2.firstSerial = rebuildSerial) &&
    decide (z.2.fill < zoneStrips z.2.parityMode (c.zoneFigures x t).1 x.geom.b))
  let before := zones.any (fun z => (z.2.zstate = 1 || z.2.working) && decide (z.2.piste = p) && decide (z.2.firstSerial = rebuildSerial))
  let r := match room with
    | some z => (c, some z.1)
    | none => if before then (c, none) else c.openZone p t 0 rebuildSerial true
  match r.2 with
  | none => (r.1, none)
  | some z =>
    let taken := ((r.1.zonesOf x t).getD z Zone.reset).fill
    (r.1.setZoneOf p t z (fun y => { y with fill := y.fill + 1 }), some (z, taken * x.geom.b))

/-- The relocation row of a strip of e in a zone, at a new place: granule the entry's place, oldEntry the index. -/
def relocRow (e index target zone offset : Nat) : ChangeRow :=
  { granule := index, oldEntry := e, newEntry := mapEntry target zone offset, superseded := false }

/-- A strip of a new stripe goes straight to a rebuild zone of its target, where there is one; false where that zone must wait for a record
(R160). [DESIGN CHOICE, notes/assumptions/102.md] -/
def Chip.placeReloc (c : Chip) (p q e index : Nat) : Chip × Bool :=
  match c.relocTarget (c.piste p) q e with
  | none => (c, true)
  | some m =>
    let r := c.relocPlace p m
    match r.2 with
    | none => (r.1, false)
    | some (z2, o2) => (r.1.applyReloc p [relocRow e index m z2 o2], true)

/-- Columns of a new stripe whose index is virtual: in E, the strip goes straight to a rebuild zone of its target; its virtual
zone fills as the drive's would (R160). -/
def Chip.placeVirtual (c : Chip) (p q : Nat) : Chip × Bool :=
  let x := c.piste p
  let i : StripeId := ⟨p, false, 0, q⟩
  (x.stripeIndices i).foldl (fun (a : Chip × Bool) e =>
    let c := a.1
    let x := c.piste p
    if !a.2 || !c.virtualIndex x e then a
    else match c.stripZone p x e (x.serial e q) x.geom.b with
      | none => a
      | some (z, o) =>
        if !c.virtualZone x e z then a
        else
          let t := zoneStrips ((c.zonesOf x e).getD z Zone.reset).parityMode (c.zoneFigures x e).1 x.geom.b
          let r := if (x.slotOf e).isNone then (c, true) else c.placeReloc p q e (relocIndex z o x.geom.b t)
          let c := r.1.setZoneOf p e z (fun r => { r with fill := o / max 1 x.geom.b + 1 })
          (if o / max 1 x.geom.b + 1 = t then c.fullZone p e z else c, r.2)) (c, true)

/-- Append one stripe of granules (R89, R120, R121): `kind` 3 host data, 4 copies, 6 reshape copies. -/
def Chip.appendStripe (c : Chip) (p kind : Nat) (granules : List Nat) : Chip :=
  let x := c.piste p
  let q := x.nextQ
  let per := x.geom.b / max 1 x.gb
  let r := c.placeStripe p q (decide (kind ≠ 3))
  if granules.isEmpty then c
  else if c.freeJournalSlot.isNone then c.bump 0x2444      -- a full journal: nothing is placed (R97)
  else if !r.2 then c
  else if r.1.isLost ⟨p, false, 0, q⟩ then c.updPiste p (fun x => { x with nextQ := q + 1 })   -- it would be lost at once (R165)
  else if 2 < (r.1.unknownCols ⟨p, false, 0, q⟩).length then
    c.cutWrites ((granules.map (fun g => (List.range x.gb).map (fun j => (p, g * x.gb + j)))).flatten)   -- (R61)
  else if !((r.1.updPiste p (fun x => { x with nextQ := q + 1 })).placeVirtual p q).2 then c
  else
    let c := ((r.1.updPiste p (fun x => { x with nextQ := q + 1 })).placeVirtual p q).1
    let i : StripeId := ⟨p, false, 0, q⟩
    let slots := (List.range granules.length).map (fun n => (atD granules n 0, n / per, n % per * x.gb))
    let rows := slots.map (fun t =>
      let e := atD (x.stripeIndices i) t.2.1 0
      let z := (c.stripZone p x e (x.serial e q) x.geom.b).getD (0, 0)
      ({ granule := t.1, oldEntry := x.mapOf t.1, newEntry := mapEntry e z.1 (z.2 + t.2.2), superseded := false } : ChangeRow))
    let cells := (slots.map (fun t => (List.range x.gb).map (fun j =>
      (t.1 * x.gb + j, t.2.1 * 2 ^ 16 + t.2.2 + j)))).flatten
    -- copies carry what was read from the mapped place, never a newer version (R131)
    let cell := fun (b : Nat) => if kind = 3 then (appendData (c.versions p b)).map Version.out
      else (x.copyData.find (b / max 1 x.gb)).map (fun t => atD t.2 (b % max 1 x.gb) zeroBlock)
    let due := if kind = 3 then (cells.filter (fun t => (toDestage (c.versions p t.1)).isSome)).map Prod.fst else []
    let vers := (due.map (fun b => match toDestage (c.versions p b) with | some v => [v] | none => [])).flatten
    let bad := c.unknownCols i
    let e : Entry := { Entry.reset with
      piste := p, kind, stripe := q, first := 0, count := x.geom.b, spanning := x.spanning, degraded := !bad.isEmpty
      stripMask := maskOf ((List.range (x.geom.k + 2)).filter (fun col => decide (col ∉ bad)))
      acked := vers.any (fun v => v.state = .dirty)
      blocks := due
      through := (vers.filter (fun v => v.state = .through)).foldl (fun a v => addNew a v.acc) []
      overlay := cells.foldl (fun m t => match cell t.1 with
        | some v => KMap.put m t.2 v
        | none => m) []
      change := rows }
    let r := c.openEntry e
    match r.2 with
    | none => r.1
    | some slot =>
      let c := if kind = 3 then r.1
        else r.1.updPiste p (fun x => { x with copyData := x.copyData.filter (fun t => decide (t.1 ∉ granules)) })
      (c.addSlots p q).entryWork slot

/-- Destage a groomed piste: full stripes, and a partial one where the trigger allows (R85, R120). -/
def Chip.destageGroomed : Nat → Chip → Nat → Bool → Chip
  | 0, c, _, _ => c
  | n + 1, c, p, partial_ =>
    let x := c.piste p
    let due := (c.dueGranules p).take x.granuleSlots
    if due.length < x.granuleSlots ∧ (!partial_ ∨ due.isEmpty) then c
    else
      let c := c.each due (fun c g => c.fillGranule p g.1 4)
      if due.all (fun g => (c.piste p).pageHere (g.1 / 512) && c.granuleWhole p g.1) then
        Chip.destageGroomed n (c.appendStripe p 3 (due.map Prod.fst)) p partial_
      else c

/-- A host write or DEALLOCATE accepted for a granule marks its frozen version superseded (R121). [DEDUCED, notes/assumptions/28.md] -/
def Chip.supersede (c : Chip) (p gno : Nat) : Chip :=
  c.onJournal (fun j => { j with entries := j.entries.mapVal (fun _ e =>
    if e.piste = p ∧ e.kind = 3 ∧ (areaOf e.stripe).1 = 0 ∧ (e.state = .open_ ∨ e.state = .dataDurable ∨ e.state = .parityDurable) then
      { e with change := e.change.map (fun r => if r.granule = gno then { r with superseded := true } else r) } else e) })

/-! ### Triggers (R85) -/

/-- Dirty bytes exceed the start level, or brace destages them all (R85, R361). -/
def Chip.aboveStart (c : Chip) : Bool := c.braced || decide (c.cache.ceiling * c.val 0x2431 < c.dirtyBytes * 100)

/-- A write-through write waits for a block (R77). -/
def Chip.holdsThrough (c : Chip) (p b : Nat) : Bool := (c.versions p b).any (fun v => v.state = .through && !v.landed)

/-- What begins at once for a piste: full stripes, and everything above the start level or in write-through.
[DEDUCED, notes/assumptions/26.md] -/
def Chip.destagePiste (c : Chip) (p : Nat) : Chip :=
  let x := c.piste p
  let all := c.aboveStart || c.throughMode p
  if x.groomed then
    c.destageGroomed (c.waitingBlocks p).length p (all || (c.waitingBlocks p).any (fun v => c.holdsThrough p v.1))
  else
    let due := c.dueStripes p
    let full := due.filter (fun s => fullDue (x.geometry s.1) s.2)
    let rest := due.filter (fun s => !fullDue (x.geometry s.1) s.2 && (all || s.2.any (fun d => c.holdsThrough p d.block)))
    c.each (full ++ rest) (fun c s => c.destageStripe s.1 s.2)

/-- A unit destages while it may write to members (R273, R282). [DEDUCED, notes/assumptions/26.md] -/
def Chip.destageAll (c : Chip) : Chip :=
  if !c.mayWrite || c.faults.safe || !c.journal.lanesAllowed then c
  else c.each c.livePistes (fun c p => if p.2.spanning && !c.ownNode p.2.home then c else c.destagePiste p.1)

/-- A stripe's oldest dirty block has been dirty for the hold time (R85). [DEDUCED, notes/assumptions/26.md] -/
def Chip.partialHold (c : Chip) (p stripe : Nat) : Chip :=
  let x := c.piste p
  let hold := c.val 0x2424 p
  if !c.mayWrite || c.faults.safe then c
  else if x.groomed then
    if (c.waitingBlocks p).any (fun b => decide (b.2.dirtyLap + hold ≤ c.lap)) then c.destageGroomed 1 p true else c
  else c.each ((c.dueStripes p).filter (fun s => decide (s.1.stripe = stripe) &&
      s.2.any (fun d => decide (d.ver.dirtyLap + hold ≤ c.lap)))) (fun c s => c.destageStripe s.1 s.2)

/-! ### Map write-back (R127) -/

/-- Write the pages of one stripe of a map or relocation area back that are dirty. -/
def Chip.writeBackArea (c : Chip) (p area page : Nat) (dirty : Nat → Bool) (data : Nat → Bytes) : Chip :=
  let x := c.piste p
  let g := x.geometry ⟨p, false, area, 0⟩
  let s := (g.locate page).1
  let i : StripeId := ⟨p, false, area, s⟩
  let pages := (List.range g.d).filter (fun j => dirty (s * g.d + j))
  if (c.openEntryOf i).isSome ∨ pages.isEmpty then c
  else
    let l : List Due := pages.map (fun j =>
      let n := s * g.d + j
      let at_ := g.locate n
      { block := n, col := at_.2.1, off := at_.2.2,
        ver := { state := .clean, data := data n, acc := 0, dirtyLap := 0, entry := 0, lost := false } })
    let bad := c.unknownCols i
    let whole := decide (l.length = g.d)
    let rg := if whole then (0, g.b) else dueRange l
    let cols := l.foldl (fun a d => addNew a d.col) []
    let knownMask := maskOf ((List.range (g.k + 2)).filter (fun col => decide (col ∉ bad)))
    let e := { dueEntry i x.spanning 3 rg.1 rg.2 (if whole ∨ !bad.isEmpty then knownMask else maskOf (cols ++ [g.k, g.k + 1])) l
      with blocks := [], acked := false, degraded := !bad.isEmpty, delta := !whole && bad.isEmpty }
    if 2 < bad.length then c
    else
      let r := c.openEntry e
      match r.2 with
      | none => r.1
      | some slot =>
        if whole then r.1.entryWork slot
        else r.1.startGather (.entry slot) i rg.1 rg.2 (if bad.isEmpty then cols ++ [g.k, g.k + 1] else List.range g.k) 2

/-- Write back a page of the map area, with the dirty pages of its stripe. -/
def Chip.writeBackPages (c : Chip) (p page : Nat) : Chip :=
  let x := c.piste p
  c.writeBackArea p 1 page (fun n => (x.pages.getD n MapPage.reset).dirty) (fun n => (x.pages.getD n MapPage.reset).bytes)

/-- The key of a page of a slot's relocation area, after the pages that its zone records take (R158). -/
def Chip.areaKey (c : Chip) (x : Piste) (r : RebuildSlot) (page : Nat) : Nat :=
  let zr := ceilDiv (c.zoneFigures x r.index).2.2 256
  if page < zr then 2 * page else 2 * (page - zr) + 1

/-- Write back a page of a slot's relocation area, with the dirty pages of its stripe (R158). -/
def Chip.writeBackReloc (c : Chip) (p n page : Nat) : Chip :=
  let x := c.piste p
  match x.rebuild.slots[n]? with
  | none => c
  | some r => if r.base = 0 then c else
    c.writeBackArea p (2 + n) page (fun j => r.unwritten.any (fun t => decide (t.1 = c.areaKey x r j))) (fun j => r.page (c.areaKey x r j))

/-- COMMITTED of a map-area or relocation-area entry is sealed: the area holds the pages it wrote, and those that still read as written
are clean. -/
def Chip.pagesWritten (c : Chip) (e : Entry) : Chip :=
  let i := e.stripeId
  let g := (c.piste e.piste).geometry i
  if i.area = 0 then c
  else c.each e.overlay (fun c o =>
    let page := g.hostBlock i.stripe (o.1 / 2 ^ 16) (o.1 % 2 ^ 16)
    c.updPiste e.piste (fun x =>
      if i.area = 1 then
        let m := x.pages.getD page MapPage.reset
        if m.bytes = o.2 then { x with pages := x.pages.put page { m with dirty := false } } else x
      else match x.rebuild.slots[i.area - 2]? with
        | none => x
        | some r =>
          let k := c.areaKey x r page
          let r := { r with
            area := r.area.put k o.2
            unwritten := if r.page k = o.2 then r.unwritten.filter (fun t => decide (t.1 ≠ k)) else r.unwritten }
          { x with rebuild := { x.rebuild with slots := x.rebuild.slots.set (i.area - 2) r } }))

end Sys2Proof.Machine
end

