-- ==== Sys2Proof/Machine/Operands.lean ====
section
/-! DEFINITION. What a submission entry says (Table 7.5, Table 7.6), the checks before acceptance (R189 to R196), scatter lists
(R190, R191), and the reads of host memory (R228 to R231). -/

namespace Sys2Proof.Machine

/-- A submission entry's fields (Table 7.5). -/
structure Sub where
  opcode : Nat
  mode : Nat
  rsv1 : Nat          -- bits 15:10
  cid : Nat
  piste : Nat
  rsv2 : Nat          -- bits 63:40
  addr : Nat
  len : Nat
  rsv3 : Nat          -- bits 191:160
  arg0 : Nat
  arg1 : Nat
  arg2 : Nat
  arg3 : Nat
  rsv4 : Nat          -- bits 511:448
deriving DecidableEq, Repr, Inhabited

def parseSub (b : Bytes) : Sub :=
  { opcode := leAt b 0 1, mode := leAt b 1 1 % 4, rsv1 := leAt b 1 1 / 4, cid := leAt b 2 2, piste := leAt b 4 1,
    rsv2 := leAt b 5 3, addr := leAt b 8 8, len := leAt b 16 4, rsv3 := leAt b 20 4, arg0 := leAt b 24 8, arg1 := leAt b 32 8,
    arg2 := leAt b 40 8, arg3 := leAt b 48 8, rsv4 := leAt b 56 8 }

/-- The first non-zero byte of a reserved field of `n` bytes at an offset. -/
def reservedByte (off n v : Nat) : Option Nat :=
  ((List.range n).find? (fun i => decide (v / 256 ^ i % 256 ≠ 0))).map (fun i => off + i)

/-! ### Opcodes (Table 7.6) -/

/-- Opcodes of the I/O queues. -/
def ioOpcode (op : Nat) : Bool := decide (1 ≤ op) && decide (op ≤ 5)
/-- Opcodes of queue 0. -/
def adminOpcode (op : Nat) : Bool :=
  op = 0x08 || op = 0x10 || op = 0x11 || op = 0x12 || (decide (0x20 ≤ op) && decide (op ≤ 0x2A))
/-- Defined, and allowed on the queue. -/
def opcodeAllowed (q op : Nat) : Bool := if q = 0 then adminOpcode op else ioOpcode op
/-- Commands that take a handle. -/
def takesHandle (op : Nat) : Bool := (decide (0x20 ≤ op) && decide (op ≤ 0x27)) || op = 0x2A
/-- Handle kind of an opcode (Table 7.10). -/
def handleKind (op : Nat) : Nat := if op = 0x2A then 9 else op - 0x1F

/-- Served in a unit state (Table 7.18): the status given where it is not. -/
def stateStatus (unitState op : Nat) : Nat :=
  if unitState = 0 then 0x0303
  else if unitState = 1 then 0
  else if unitState = 2 then
    (if op = 0x08 ∨ op = 0x10 ∨ op = 0x11 ∨ op = 0x12 ∨ op = 0x28 ∨ op = 0x29 then 0 else 0x0302)
  else if op = 0x10 ∨ op = 0x11 ∨ op = 0x12 ∨ op = 0x28 then 0 else 0x0301

/-- Block range opcodes. -/
def rangeOpcode (op : Nat) : Bool := op = 1 || op = 2 || op = 4 || op = 5

/-- Piste commands whose piste must be ONLINE (R65). -/
def needsOnline (op arg0 : Nat) : Bool :=
  ioOpcode op || op = 0x24 || op = 0x25 || (op = 0x23 && arg0 % 2 = 1)

/-! ### Data -/

/-- The transfer length of an entry, where its opcode fixes one (R191). -/
def Chip.transferLen (c : Chip) (s : Sub) : Option Nat :=
  if s.opcode = 1 ∨ s.opcode = 2 then some (s.arg1 % 2 ^ 32 * 4096)
  else if s.opcode = 0x11 ∨ s.opcode = 0x12 then (c.object (s.arg0 % 65536) (s.arg0 / 65536 % 256)).map (fun o => o.len)
  else if s.opcode = 0x20 ∨ s.opcode = 0x22 then some 1024
  else if s.opcode = 0x28 then some 128
  else none

/-- Data modes an opcode takes. -/
def Chip.modeOk (c : Chip) (s : Sub) : Bool :=
  if s.mode = 3 then false
  else if s.opcode = 1 ∨ s.opcode = 2 ∨ s.opcode = 0x10 ∨ s.opcode = 0x20 ∨ s.opcode = 0x22 then decide (s.mode ≠ 0)
  else if s.opcode = 0x11 ∨ s.opcode = 0x12 then
    match c.object (s.arg0 % 65536) (s.arg0 / 65536 % 256) with
    | some o => if o.len ≤ 8 then true else decide (s.mode ≠ 0)
    | none => true
  else if s.opcode = 0x28 then true
  else s.mode = 0

/-- One scatter-list entry (Table 7.7). -/
structure ListEntry where
  addr : Nat
  len : Nat
  ty : Nat
  rsv : Nat
deriving DecidableEq, Repr, Inhabited

def parseList (b : Bytes) (n : Nat) : List ListEntry :=
  (List.range n).map (fun i =>
    { addr := leAt b (16 * i) 8, len := leAt b (16 * i + 8) 4, ty := leAt b (16 * i + 12) 1 % 16,
      rsv := leAt b (16 * i + 12) 4 / 16 })

/-- An entry is well formed: DATA and BIT_BUCKET lengths, alignment, NEXT_SEGMENT only last (R190). -/
def ListEntry.ok (e : ListEntry) (read last : Bool) : Bool :=
  decide (e.rsv = 0) &&
  (if e.ty = 0 then decide (e.addr % 4 = 0) && decide (e.len % 4 = 0) && decide (4 ≤ e.len) && decide (e.len ≤ 16777216)
   else if e.ty = 2 then read && decide (e.len % 4 = 0) && decide (4 ≤ e.len) && decide (e.len ≤ 16777216)
   else if e.ty = 1 then last && decide (e.addr % 16 = 0) && decide (1 ≤ e.len) && decide (e.len ≤ 256)
   else false)

/-- A segment's spans and the segment after it; `none` for a breach (R190, R191). -/
def parseSegment (b : Bytes) (n : Nat) (read : Bool) : Option (List (Nat × Nat × Bool) × Option (Nat × Nat)) :=
  let l := parseList b n
  if (List.range n).all (fun i => (atD l i default).ok read (decide (i + 1 = n))) then
    let spans := (l.filter (fun e => decide (e.ty ≠ 1))).map (fun e => (e.addr, e.len, decide (e.ty = 2)))
    let next := (l.find? (fun e => decide (e.ty = 1))).map (fun e => (e.addr, e.len))
    some (spans, next)
  else none

def spansLen (l : List (Nat × Nat × Bool)) : Nat := sumOf l (fun s => s.2.1)

/-- Whether spans and what follows keep R191's limits: the sum, 4,096 entries, 64 segments. -/
def listOk (spans : List (Nat × Nat × Bool)) (next : Option (Nat × Nat)) (segments : Nat) (len : Option Nat) : Bool :=
  decide (spans.length ≤ 4096) && decide (segments ≤ 64) &&
  (match len with
   | some n => if next.isNone then decide (spansLen spans = n) else decide (spansLen spans ≤ n)
   | none => true)

/-! ### Checks before acceptance (R194 to R196) -/

/-- A piste as this unit's host sees it: only the home unit of a spanning piste makes it visible (R59). -/
def Chip.hostPiste (c : Chip) (p : Nat) : Piste :=
  let x := c.piste p
  if x.spanning ∧ !c.ownNode x.home then Piste.reset else x

/-- The first 0x0102 check that an entry fails, as the byte offset of its field (R193), before the checks of descriptors. -/
def Chip.fieldCheck (c : Chip) (q : Nat) (s : Sub) : Option Nat :=
  let x := c.hostPiste s.piste
  let first := fun (l : List (Option Nat)) => l.findSome? id
  let when_ := fun (b : Bool) (n : Nat) => if b then some n else none
  let object := c.object (s.arg0 % 65536) (s.arg0 / 65536 % 256)
  let dup := c.cqi.cmds.any (fun y => decide (y.queue = q) && decide (y.cid = s.cid) && !y.dead) ||
    c.cqi.held.any (fun e => !e.event && decide (e.queue = q) && decide (e.cid = s.cid))
  first [
    when_ (!c.modeOk s || decide (s.rsv1 ≠ 0)) 1,
    when_ dup 2,
    when_ (needsOnline s.opcode s.arg0 && decide (x.state ≠ .online)) 4,
    when_ (s.opcode = 0x21 && decide (x.state ≠ .stopped)) 4,
    when_ ((s.opcode = 0x25) && !x.groomed) 4,
    reservedByte 5 3 s.rsv2,
    when_ (s.mode = 2 && decide (s.addr % 16 ≠ 0)) 8,
    when_ (s.mode = 1 && (match c.transferLen s with | some n => decide (s.len ≠ n) | none => false)) 16,
    when_ (s.mode = 2 && (decide (s.len = 0) || decide (256 < s.len))) 16,
    reservedByte 20 4 s.rsv3,
    when_ (rangeOpcode s.opcode && decide (x.capacity ≤ s.arg0)) 24,
    when_ (s.opcode = 0x24 && decide (x.capacity ≤ s.arg0)) 24,
    when_ (s.opcode = 0x10 && (decide (s.arg0 % 256 = 0) || decide (5 < s.arg0 % 256))) 24,
    when_ ((s.opcode = 0x11 || s.opcode = 0x12) && object.isNone) 24,
    when_ ((s.opcode = 0x25) && decide (s.arg0 % 256 ≠ 0xFF) && decide (s.arg0 % 256 ∉ c.localSlots x)) 24,
    when_ ((s.opcode = 0x26 || s.opcode = 0x27) && decide (c.slots ≤ s.arg0 % 256)) 24,
    when_ (s.opcode = 0x2A && decide (s.arg0 % 2 ^ 32 ≠ 0) &&
      (decide (s.arg0 % 2 ^ 32 < 1024) || decide (16384 < s.arg0 % 2 ^ 32))) 24,
    when_ (rangeOpcode s.opcode && (decide (s.arg1 % 2 ^ 32 = 0) || decide (16384 < s.arg1 % 2 ^ 32) ||
      decide (x.capacity < s.arg0 + s.arg1 % 2 ^ 32))) 32,
    when_ (s.opcode = 0x24 && (decide (s.arg1 = 0) || decide (x.capacity < s.arg0 + s.arg1))) 32,
    when_ (s.opcode = 0x10 && decide (s.arg1 % (if s.arg0 % 256 = 1 then 64 else if s.arg0 % 256 = 3 then 128 else 32) ≠ 0)) 32,
    when_ (s.opcode = 0x27 && decide (1 < s.arg1 % 4)) 32,
    when_ (s.opcode = 0x24 && decide (8 ≤ s.arg2 % 65536)) 40,
    when_ (takesHandle s.opcode && decide (s.arg3 % 64 ≠ 0)) 48,
    reservedByte 56 8 s.rsv4,
    when_ (s.opcode = 0x24 && decide (8 ≤ c.cqi.sweeps.length)) 0,
    when_ (s.opcode = 0x08 && decide (16 ≤ countOf c.cqi.cmds (fun y => decide (y.opcode = 8)))) 0]

/-- The status and result an entry gets before acceptance, by the precedence of R195; `none` where it passes.
[DESIGN CHOICE, notes/assumptions/34.md] -/
def Chip.checkSub (c : Chip) (q : Nat) (s : Sub) : Option (Nat × Nat) :=
  let st := if c.pair.handover then 0x0302 else stateStatus c.cqi.unitState s.opcode
  let x := c.hostPiste s.piste
  if st = 0x0301 ∨ st = 0x0303 then some (st, 0)
  else if !opcodeAllowed q s.opcode then some (0x0101, 0)
  else if st = 0x0302 then some (st, 0)
  else if namesPiste s.opcode s.arg0 && x.spanning && decide (x.state ≠ .absent) && decide (c.clk.sync ≠ .locked) then
    some (0x0302, 0)
  else match c.fieldCheck q s with
    | some off =>
      -- an absent object is named with its refusal reason (R331)
      let absent := (s.opcode = 0x11 || s.opcode = 0x12) && (c.object (s.arg0 % 65536) (s.arg0 / 65536 % 256)).isNone
      some (0x0102, if absent && decide (off = 24) then 24 + 65536 else off)
    | none =>
      if takesHandle s.opcode && c.freeHandle.isNone then some (0x0102, 0xFFFE * 65536)
      else none

/-! ### Reads of host memory (R228) -/

/-- Largest read request. -/
def Chip.readMax (c : Chip) : Nat := min 4096 (max 1 c.host.maxRead)

/-- Cut a read into requests that cross no 4 KiB boundary. -/
def readPieces (mx : Nat) : Nat → Nat → Nat → Nat → List (Nat × Nat × Nat)
  | 0, _, _, _ => []
  | n + 1, off, a, len =>
    if len = 0 then []
    else
      let l := min (min len mx) (4096 - a % 4096)
      (off, a, l) :: readPieces mx n (off + l) (a + l) (len - l)

/-- Put a purpose's offset. -/
def HostReadFor.at (w : HostReadFor) (off : Nat) : HostReadFor :=
  match w with
  | .entry q i => .entry q i
  | .segment a o => .segment a (o + off)
  | .writeData a o => .writeData a (o + off)
  | .preAccept q o => .preAccept q (o + off)
  | .refetch a o => .refetch a (o + off)

/-- Queue a read of host memory. -/
def Chip.wantRead (c : Chip) (w : HostReadFor) (address len : Nat) : Chip :=
  c.onHost (fun h => { h with toRead := h.toRead ++
    (readPieces c.readMax len 0 address len).map (fun p => (w.at p.1, p.2.1, p.2.2)) })

/-- Tags of the function: 10 bits in flit mode or with 10-Bit Tag Requester Enable, else 8. -/
def Chip.tagSpace (c : Chip) : Nat := if c.host.flit || c.host.tenBit then 1024 else 256

/-- Reads that may be outstanding (R228, R231). -/
def Chip.readLimit (c : Chip) : Nat := min (c.val 0x1810) (c.tagSpace - c.host.quarantine.length)

/-- A tag that is neither outstanding nor held. -/
def Chip.freeTag (c : Chip) : Option Nat :=
  let n := c.tagSpace
  ((List.range n).map (fun i => (c.host.nextTag + i) % n)).find? (fun t =>
    decide (t ∉ c.host.quarantine) && c.host.reads.all (fun r => decide (r.tag ≠ t)))

/-- Issue the reads that wait, in order, within the limit. -/
def Chip.issueReads : Nat → Chip → Chip
  | 0, c => c
  | n + 1, c =>
    match c.host.toRead with
    | [] => c
    | (w, a, l) :: rest =>
      if !c.hostOpen || c.halted .host || decide (c.readLimit ≤ c.host.reads.length) then c
      else match c.freeTag with
        | none => c
        | some t =>
          Chip.issueReads n ((c.onHost (fun h => { h with
            toRead := rest
            reads := h.reads ++ [{ tag := t, why := w, bytes := l, dead := false }]
            nextTag := t + 1 })).emit (.hostRead t a l))

def Chip.pumpReads (c : Chip) : Chip := Chip.issueReads c.host.toRead.length c

/-- Completion timeout in force, in microseconds (Table 8.10). -/
def timeoutUs (code : Nat) : Nat :=
  if code = 1 then 100 else if code = 2 then 10000 else if code = 5 then 55000 else if code = 6 then 210000
  else if code = 9 then 900000 else if code = 10 then 3500000 else if code = 13 then 13000000
  else if code = 14 then 64000000 else 50000

/-! ### Data to the host -/

/-- Pair spans of a buffer with the bytes that go there; a bit bucket takes its bytes and discards them. -/
def spread : List (Nat × Nat × Bool) → Bytes → List (Nat × Bytes)
  | [], _ => []
  | (a, n, bucket) :: r, b =>
    let rest := spread r (b.drop n)
    if bucket then rest else (a, b.take n) :: rest

/-- The spans of a command's data: its list, or its one buffer. -/
def Cmd.buffers (x : Cmd) : List (Nat × Nat × Bool) := if x.dataMode = 1 then [(x.dataAddr, x.dataLen, false)] else x.spans

end Sys2Proof.Machine
end

