-- ==== Sys2Proof/Machine/HostData.lean ====
section
/-! DEFINITION. The data commands: acceptance (R196 to R199), the gate and its queue (R79 to R84, R126, R130, R135, R137),
acknowledgement (R72 to R77), READ (R164, R199), FLUSH, ABORT and what waits on other commands (R78, R210). -/

namespace Sys2Proof.Machine

/-! ### Acceptance (R196, R197) -/

/-- The number after an acceptance number. -/
def nextAccNumber (n : Nat) : Nat := if n = 2 ^ 48 - 1 then 1 else n + 1

/-- A command as fetched. -/
def Sub.command (s : Sub) (q : Nat) : Cmd :=
  { queue := q, cid := s.cid, acc := 0, opcode := s.opcode, piste := s.piste, arg0 := s.arg0, arg1 := s.arg1, arg2 := s.arg2,
    arg3 := s.arg3, dataMode := s.mode, dataAddr := s.addr, dataLen := s.len, stage := .fresh, waited := 0, newBytes := 0,
    growBytes := 0, through := false, spans := [], segment := none, segData := [], segGot := 0, segments := 0, data := [],
    dataAcc := [], got := 0, lastSeq := 0, need := [], failBlock := none, value := [], target := none, dead := false }

def Cmd.first (x : Cmd) : Nat := x.arg0
def Cmd.count (x : Cmd) : Nat := x.arg1 % 2 ^ 32
def Cmd.isWrite (x : Cmd) : Bool := x.opcode = 2 || x.opcode = 4 || x.opcode = 5
def Cmd.blocks (x : Cmd) : List Nat := (List.range x.count).map (fun j => x.first + j)
def Cmd.covers (x : Cmd) (b : Nat) : Bool := decide (x.first ≤ b) && decide (b < x.first + x.count)
def Cmd.overlaps (x y : Cmd) : Bool :=
  decide (x.piste = y.piste) && decide (x.first < y.first + y.count) && decide (y.first < x.first + x.count)

/-- Number a command: accepted (R196). -/
def Chip.accept (c : Chip) (x : Cmd) : Chip × Cmd :=
  let n := c.cqi.nextAcc
  let x := { x with acc := n }
  let c := c.onCqi (fun k => { k with nextAcc := nextAccNumber n, accepted := k.accepted + 1 })
  (c.updQueue x.queue (fun q => { q with accepted := q.accepted + 1 }), x)

/-- Uncompleted earlier writes that a command overlaps (R199). -/
def Chip.earlierWrites (c : Chip) (x : Cmd) : List Cmd :=
  c.cqi.cmds.filter (fun y => y.isWrite && accEarlier y.acc x.acc && y.overlaps x)

/-- What the cache holds of a READ's blocks at its acceptance is kept for it (R199). [DEDUCED, notes/assumptions/33.md] -/
def Chip.snapshotRead (c : Chip) (x : Cmd) : Cmd :=
  x.blocks.foldl (fun (x : Cmd) b => match readable (c.versions x.piste b) with
    | some v => { x with data := x.data.put b (if v.lost then [] else v.data), dataAcc := x.dataAcc.put b v.acc }
    | none => { x with need := x.need ++ [b] }) { x with need := [] }

/-- A host write has arrived: BACKGROUND grooming of its piste ends, with the copies not yet begun (Table 5.6). -/
def Chip.endBackground (c : Chip) (p : Nat) : Chip :=
  let x := c.piste p
  let c := c.updPiste p (fun x => { x with lastHostWriteLap := c.lap })
  if x.groomState = 1 ∧ x.forced.isEmpty then
    (c.record 0x910 (some p)).updPiste p (fun x => { x with groomState := 0, victim := none, copyQueue := [], copyFrom := [], copyData := [] })
  else c

/-- Accept an I/O command. -/
def Chip.acceptIo (c : Chip) (x : Cmd) : Chip :=
  let r := c.accept x
  let x := if x.opcode = 1 then r.1.snapshotRead r.2 else r.2
  let x := if c.throughMode x.piste then { x with through := x.isWrite } else x
  let c := r.1.onCqi (fun k => { k with cmds := k.cmds ++ [x] })
  if x.isWrite then c.endBackground x.piste else c

/-- A write that is not yet whole is handled in write-through on a unit that has become ALONE without alone_write_back (R76). -/
def Chip.asMode (c : Chip) (x : Cmd) : Cmd :=
  if x.isWrite ∧ c.pair.role = .alone ∧ c.val 0x2430 = 0 then { x with through := true, newBytes := 0 } else x

/-! ### Waiting READs (R199) -/

/-- A write has been applied: READs accepted after it and still running take its data (R199). -/
def Chip.feedReads (c : Chip) (w : Cmd) (data : Nat → Option Bytes) : Chip :=
  c.onCqi (fun k => { k with cmds := k.cmds.map (fun x =>
    if x.opcode = 1 ∧ x.piste = w.piste ∧ accEarlier w.acc x.acc ∧ x.overlaps w ∧ (x.stage = .fresh ∨ x.stage = .waitOverlap) then
      x.blocks.foldl (fun (x : Cmd) b =>
        if w.covers b then
          match data b with
          | some d =>
            let old := x.dataAcc.getD b 0
            if old = 0 ∨ accEarlier old w.acc then
              { x with data := x.data.put b d, dataAcc := x.dataAcc.put b w.acc, need := x.need.filter (fun y => decide (y ≠ b)) }
            else x
          | none => x
        else x) x
    else x) })

/-! ### Ends of writes -/

/-- The data of a write's block. -/
def Cmd.block (x : Cmd) (b : Nat) : Bytes := if x.opcode = 2 then fit 4096 (x.data.getD (b - x.first) []) else zeroBlock

/-- Apply a write-back write (R72, R198): its blocks become DIRTY, its reservation ends, lost ranges it covers go.
[DEDUCED, notes/assumptions/28.md] -/
def Chip.applyWrite (c : Chip) (x : Cmd) (blocks : List Nat) : Chip :=
  let p := x.piste
  let gb := max 1 (c.piste p).gb
  let c := c.each blocks (fun c b =>
    let v : Version := { state := .dirty, data := x.block b, acc := x.acc, dirtyLap := c.lap, entry := 0, lost := false }
    let c := c.setVersions p b (applyVersion v (c.versions p b))
    let c := c.uncover p b
    if (c.piste p).groomed then c.supersede p (b / gb) else c)
  let c := c.updPiste p (fun y => { y with writeBlocks := y.writeBlocks + blocks.length, lastHostWriteLap := c.lap })
  c.feedReads x (fun b => if b ∈ blocks then some (x.block b) else none)

/-- Acknowledge a write whose conditions hold (R72). -/
def Chip.ackWrite (c : Chip) (x : Cmd) : Chip :=
  let blocks := if x.opcode = 2 ∨ !(c.piste x.piste).groomed then x.blocks else x.need
  (c.applyWrite x blocks).endCmd { x with newBytes := 0 } 0

/-- Success of a write-through write takes effect on what waits and what it covers (R77, R108, R199). -/
def Chip.throughApplied (c : Chip) (x : Cmd) : Chip :=
  let c := c.each x.blocks (fun c b => c.uncover x.piste b)
  let c := c.updPiste x.piste (fun y => { y with writeBlocks := y.writeBlocks + x.count, lastHostWriteLap := c.lap })
  c.feedReads x (fun b => some (x.block b))

/-- A write-through write is acknowledged once no block of it waits (R77). -/
def Chip.endThrough (c : Chip) (acc : Nat) : Chip :=
  if c.cache.blocks.any (fun b => b.2.any (fun v => v.state = .through && decide (v.acc = acc) && !v.landed)) then c
  else match c.cqi.cmds.find? (fun x => decide (x.acc = acc) && x.stage = .through) with
    | some x =>
      let c := c.each x.blocks (fun c b => c.setVersions x.piste b (landThrough acc (c.versions x.piste b)))
      (c.throughApplied x).endCmd x 0
    | none => c

/-- Write-through writes whose data has all been carried complete; data that no write waits for any more leaves the cache, and the
older acknowledged version is destaged after it (R77). -/
def Chip.endThroughs (c : Chip) : Chip :=
  let c := c.each (c.cqi.cmds.filter (fun x => x.stage = .through)) (fun c x => c.endThrough x.acc)
  let orphan := fun (v : Version) => v.landed && !(c.cqi.cmds.any (fun x => decide (x.acc = v.acc)))
  if c.cache.blocks.any (fun b => b.2.any orphan) then
    c.onCache (fun k => { k with blocks := (k.blocks.map (fun b => (b.1, b.2.filter (fun v => !orphan v)))).filter (fun b => !b.2.isEmpty) })
  else c

/-- A write's THROUGH versions enter the cache (R77). -/
def Chip.beginThrough (c : Chip) (x : Cmd) (blocks : List Nat) : Chip :=
  let c := c.putCmd { x with stage := .through, newBytes := 0 }
  let c := c.each blocks (fun c b =>
    c.setVersions x.piste b (addThrough { state := .through, data := x.block b, acc := x.acc, dirtyLap := c.lap, entry := 0,
                                          lost := false } (c.versions x.piste b)))
  if blocks.isEmpty then c.endThrough x.acc else c

/-- Map pages of the granules a write touches. -/
def Chip.pagesOf (c : Chip) (x : Cmd) : List Nat := (x.blocks.map (fun b => b / max 1 (c.piste x.piste).gb / 512)).foldl addNew []

/-- A write gives up the map pages it was counted for at the gate, but for those another admitted write still needs (R70, R126). -/
def Chip.releasePages (c : Chip) (x : Cmd) : Chip :=
  if !(c.piste x.piste).groomed || x.through || x.newBytes = 0 && decide (x.stage ≠ .fetching) && decide (x.stage ≠ .whole) then c
  else
    let others := (c.cqi.cmds.filter (fun y => y.isWrite && decide (y.acc ≠ x.acc) && decide (y.piste = x.piste) && !y.through &&
      (y.stage = .fetching || y.stage = .whole))).map c.pagesOf
    let free := (c.pagesOf x).filter (fun g => decide (g ∉ others.flatten))
    c.updPiste x.piste (fun p => { p with pages := (p.pages.map (fun t =>
      if t.1 ∈ free then (t.1, { t.2 with reserved := false }) else t)).filter (fun t => decide (t.2 ≠ MapPage.reset)) })

/-- A write ends without effect (R70, R198): what it reserved is released, and its THROUGH versions go, unless an entry writes them
(R195). -/
def Chip.failWrite (c : Chip) (x : Cmd) (status : Nat) : Chip :=
  let c := (c.releasePages x).onCache (fun k => { k with blocks := (k.blocks.map (fun b =>
    (b.1, b.2.filter (fun v => !(v.state = .through && decide (v.acc = x.acc) && v.entry = 0))))).filter (fun b => !b.2.isEmpty) })
  c.endCmd { x with newBytes := 0 } status

/-- Mirror the blocks of a write (R74); the highest number they got. -/
def Chip.mirrorWrite (c : Chip) (x : Cmd) (blocks : List Nat) : Chip × Nat :=
  blocks.foldl (fun (a : Chip × Nat) b =>
    let r := a.1.mirrorSend (.block x.piste b 2 (x.block b))
    (r.1, r.2)) (c, 0)

/-- The data of a write is whole in LPDDR6: acknowledge it, wait for the mirror, or destage it (R72, R75, R77). -/
def Chip.dataWhole (c : Chip) (x : Cmd) : Chip :=
  let x := c.asMode x
  let blocks := if x.opcode = 2 ∨ !(c.piste x.piste).groomed then x.blocks else x.need
  if x.through then c.beginThrough x blocks
  else if c.mirroring && !c.hasStandby then
    -- ALONE, a copy is being made: the data flows behind it, the acknowledgement does not wait (R292); ACTIVE with a partner that is
    -- silent or leaving, the write waits for the role to be settled (R75)
    let r := c.mirrorWrite x blocks
    if c.pair.soleDue || c.pair.role ≠ .alone then r.1.putCmd { x with stage := .whole, lastSeq := r.2 } else r.1.ackWrite x
  else if c.hasStandby then
    let r := c.mirrorWrite x blocks
    r.1.putCmd { x with stage := .whole, lastSeq := r.2 }
  else if (c.pair.role = .alone && !c.pair.soleDue) || (c.pair.role = .active && !c.pair.formed) then c.ackWrite x
  else c.putCmd { x with stage := .whole, lastSeq := c.pair.mirrorSeq }

/-- Writes that wait for the mirror and are covered by the watermark, or by no partner any more (R74 to R76). -/
def Chip.ackMirrored (c : Chip) : Chip :=
  c.each (c.cqi.cmds.filter (fun x => x.stage = .whole)) (fun c x =>
    if c.pair.role = .alone && !c.pair.soleDue then
      (if c.throughMode x.piste then c.dataWhole { x with through := true } else c.ackWrite x)
    else if c.pair.role = .active && decide (x.lastSeq ≤ c.pair.mirrorAcc) then c.ackWrite x
    else c)

/-! ### The gate (R79 to R84, R126) -/

/-- Map pages of a groomed write that its admission newly counts (R126). -/
def Chip.newPages (c : Chip) (x : Cmd) : List Nat :=
  let p := c.piste x.piste
  if !p.groomed then []
  else
    (c.pagesOf x).filter (fun g => let m := p.pages.getD g MapPage.reset; !m.dirty && !m.reserved)

/-- New dirty bytes of a write (R79, R126). -/
def Chip.gateBytes (c : Chip) (x : Cmd) : Nat :=
  if x.opcode = 5 ∧ (c.piste x.piste).groomed then
    4096 * countOf x.need (fun b => !isDirtyBlock (c.versions x.piste b))
  else c.newDirty x.piste x.first x.count

/-- Granule classes of R135: 0 zero-new, 1 overwrite, 2 growing. -/
def Chip.granuleClass (c : Chip) (p gno : Nat) : Nat :=
  let x := c.piste p
  let vs := ((List.range x.gb).map (fun j => c.versions p (gno * x.gb + j))).flatten
  if vs.any (fun v => v.state = .dirty && v.entry = 0) && vs.all (fun v => decide (v.state ≠ .frozen)) then 0
  else if mapped (x.mapOf gno) || vs.any (fun v => v.state = .frozen || v.state = .through) then 1
  else if !x.pageHere (gno / 512) && decide (gno / 512 < x.mapPages) && (vs.any (fun v => v.state = .clean)) then 1
  else 2

/-- Granules a write touches. -/
def Chip.granulesOf (c : Chip) (x : Cmd) : List Nat :=
  (x.blocks.map (fun b => b / max 1 (c.piste x.piste).gb)).foldl addNew []

/-- Whether every map page of a write is in the map cache. -/
def Chip.pagesHere (c : Chip) (x : Cmd) : Bool :=
  (c.granulesOf x).all (fun g => (c.piste x.piste).pageHere (g / 512))

/-- Granules a write gives new versions to: those of its partly covered granules for a WRITE_ZEROES, which unmaps the rest (R137). -/
def Chip.newGranules (c : Chip) (x : Cmd) : List Nat :=
  if x.opcode = 5 then (x.need.map (fun b => b / max 1 (c.piste x.piste).gb)).foldl addNew [] else c.granulesOf x

/-- The outcome of Table 5.9 for a write: 0 admitted, else the status; with the space state it leads to. -/
def Chip.spaceOutcome (c : Chip) (x : Cmd) : Nat × Nat :=
  let p := c.piste x.piste
  let gs := c.newGranules x
  let cls := maxOf (gs.map (c.granuleClass x.piste))
  let w := countOf gs (fun g => decide (c.granuleClass x.piste g ≠ 0))
  if cls = 0 then (0, p.space)
  else if p.space = 3 then (0x0203, 3)
  else if cls = 1 then (if c.spaceTest x.piste w then (0, p.space) else (0x0203, 3))
  else if p.space = 2 then (0x0202, 2)
  else if c.spaceTest x.piste w then (0, p.space) else (0x0202, 2)

/-- The host allowance governs a write (R130): a ratio is published, and the victim still has live granules and u below 1. -/
def Chip.allowanceApplies (c : Chip) (p : Nat) : Bool :=
  let x := c.piste p
  x.groomed && decide (x.groomState = 2) && decide (x.ratioDen ≠ 0) && decide (x.ratioNum ≠ 0) &&
    (match x.victim with
     | some (e, z) => let r := (c.zonesOf x e).getD z Zone.reset
       decide (0 < r.live) && decide (r.live < r.slots)
     | none => false)

/-- New granule bytes of a write (R130). -/
def Chip.granuleBytes (c : Chip) (x : Cmd) : Nat :=
  countOf (c.newGranules x) (fun g => decide (c.granuleClass x.piste g ≠ 0)) * (c.piste x.piste).gb * 4096

/-- Begin the data of an admitted write (R73, R228). -/
def Chip.startData (c : Chip) (x : Cmd) : Chip :=
  if x.opcode ≠ 2 then c.dataWhole { x with stage := .fetching }
  else
    let c := c.putCmd { x with stage := .fetching }
    let r := x.buffers.foldl (fun (a : Chip × Nat) s => (a.1.wantRead (.writeData x.acc a.2) s.1 s.2.1, a.2 + s.2.1)) (c, 0)
    let c := match x.segment with
      | some g => r.1.wantRead (.segment x.acc 0) g.1 (16 * g.2)
      | none => r.1
    c.pumpReads

/-- Admit a write: its new bytes are reserved in the same step (R79, R126). -/
def Chip.admitWrite (c : Chip) (x : Cmd) : Chip :=
  let pages := c.newPages x
  let n := if x.through then 0 else c.gateBytes x
  let c := if x.through then c
    else c.updPiste x.piste (fun p =>
      { p with
        pages := pages.foldl (fun m g => KMap.upd m g MapPage.reset (fun t => { t with reserved := true })) p.pages })
  c.startData { x with newBytes := n }

/-- Pass the allowance, or wait for it (R130). -/
def Chip.toAllowance (c : Chip) (x : Cmd) : Chip :=
  let n := c.granuleBytes x
  if c.allowanceApplies x.piste ∧ n ≠ 0 then
    let waiting := c.cqi.cmds.any (fun y => y.stage = .allowance && decide (y.piste = x.piste))
    if !waiting && decide ((n : Int) ≤ (c.piste x.piste).allowance) then
      (c.updPiste x.piste (fun p => { p with allowance := p.allowance - n })).admitWrite x
    else (c.bump 0x2839 x.piste).putCmd { x with stage := .allowance, growBytes := n, newBytes := if x.through then 0 else c.gateBytes x }
  else c.admitWrite x

/-- Bytes the gate counts for a write. -/
def Chip.gateNeed (c : Chip) (x : Cmd) : Nat := c.gateBytes x + 4096 * (c.newPages x).length

/-- Writes at the gate, in acceptance order (R81). -/
def Chip.gated (c : Chip) : List Cmd := c.cqi.cmds.filter (fun x => x.stage = .gated)

/-! ### LTR (R232) -/

/-- The largest LTR value not above a number: ten bits at a scale of 32^k ns. [DEDUCED, notes/assumptions/44.md] -/
def ltrEncode (ns : Nat) : Nat :=
  match (List.range 6).find? (fun k => decide (ns / 32 ^ k ≤ 1023)) with
  | some k => ns / 32 ^ k * 32 ^ k
  | none => 1023 * 32 ^ 5

/-- Nanoseconds that a latency register tells: ten bits times 32^scale. [PRESUMED, notes/assumptions/9.md] -/
def ltrNs (v : Nat) : Nat := v % 1024 * 32 ^ (v / 1024 % 8)

/-- [DEDUCED, notes/assumptions/44.md] -/
def Chip.ltrShort (c : Chip) : Bool :=
  decide (c.cache.ceiling * c.val 0x1822 ≤ c.dirtyBytes * 100) || decide (c.cache.ceiling = 0) || c.braced ||
    !c.gated.isEmpty

/-- Check the LTR conditions; a change of state sends one message, its value capped by both latencies of the capability (R232).
[DEDUCED, notes/assumptions/44.md] -/
def Chip.ltrCheck (c : Chip) : Chip :=
  let old := c.host.ltrState
  if !c.host.ltrEnable then c.onHost (fun h => { h with ltrState := 0 })
  else
    let low := decide (c.dirtyBytes * 100 ≤ c.cache.ceiling * c.val 0x1823)
    let new := if c.ltrShort then 2 else if old = 2 ∧ !low then 2 else 1
    if new = old then c
    else
      let ns := min (ltrEncode (c.val (if new = 2 then 0x1821 else 0x1820))) (min (ltrNs c.host.ltrCap) (ltrNs c.host.ltrCapNoSnoop))
      ((c.onHost (fun h => { h with ltrState := new })).emit (.ltr ns)).bump 0x1825

/-! ### Coming to the gate -/

/-- A write comes to the gate (R79, R81): admitted, or last in its queue; the LTR conditions are checked when that becomes non-empty. -/
def Chip.toGate (c : Chip) (x : Cmd) : Chip :=
  let x := c.asMode x
  let n := c.gateNeed x
  let queue := c.gated.filter (fun y => accEarlier y.acc x.acc)
  if x.through then c.toAllowance x
  else if n = 0 ∧ queue.all (fun y => !y.overlaps x) then c.toAllowance x
  else if queue.isEmpty && c.gatePasses n then c.toAllowance x
  else
    let empty := c.gated.isEmpty
    let c := (c.bump 0x241B).putCmd { x with stage := .gated }
    if empty then c.ltrCheck else c

/-! ### Unmapping (R137, R200) -/

/-- Whole granules of a range, and the blocks outside them. -/
def Chip.wholeGranules (c : Chip) (x : Cmd) : List Nat × List Nat :=
  let gb := max 1 (c.piste x.piste).gb
  let gs := (c.granulesOf x).filter (fun g => (List.range gb).all (fun j => x.covers (g * gb + j)))
  (gs, x.blocks.filter (fun b => decide (b / gb ∉ gs)))

/-- Unmap a granule: its DIRTY versions go, its FROZEN ones are superseded, its map entry becomes UNMAPPED (R137). -/
def Chip.unmapGranule (c : Chip) (x : Cmd) (gno : Nat) : Chip :=
  let p := x.piste
  let gb := (c.piste p).gb
  let c := c.each (List.range gb) (fun c j =>
    let b := gno * gb + j
    (c.setVersions p b ((c.versions p b).filter (fun v => decide (v.entry ≠ 0)))).uncover p b)
  (c.supersede p gno).setMap p gno 0

/-- DEALLOCATE or WRITE_ZEROES on a groomed piste. Its map pages must be at hand. A DEALLOCATE takes every block it covers off the
lost-range table (R108). -/
def Chip.unmapRange (c : Chip) (x : Cmd) : Chip × List Nat :=
  let w := c.wholeGranules x
  let c := c.each w.1 (fun c g => c.unmapGranule x g)
  let c := if x.opcode = 4 then c.each w.2 (fun c b => c.uncover x.piste b) else c
  let c := c.feedReads x (fun b => if b / max 1 (c.piste x.piste).gb ∈ w.1 then some zeroBlock else none)
  (c, if x.opcode = 5 then w.2 else [])

/-! ### Writes from the start -/

/-- Count and give the refusal of Table 5.9. -/
def Chip.refuseSpace (c : Chip) (x : Cmd) (o : Nat × Nat) : Chip :=
  let c := c.bump 0x2821 x.piste
  let c := if (c.piste x.piste).space = o.2 then c else c.record 0x901 (some x.piste)
  (c.updPiste x.piste (fun p => { p with space := o.2 })).endCmd x o.1

/-- Begin an accepted write (R72, R77, R81, R137, R200). -/
def Chip.startWrite (c : Chip) (x : Cmd) : Chip :=
  let p := c.piste x.piste
  if !p.groomed then c.toGate x
  else if !c.pagesHere x then
    (c.putCmd { x with stage := .waitOverlap }).each ((c.granulesOf x).map (fun g => g / 512)) (fun c g => c.fetchPage x.piste g)
  else
    let c := c.each ((c.granulesOf x).map (fun g => g / 512)) (fun c g => c.hitPage x.piste g)
    if x.opcode = 2 then
      let o := c.spaceOutcome x
      if o.1 ≠ 0 then c.refuseSpace x o else c.toGate x
    else
      let rest := if x.opcode = 5 then (c.wholeGranules x).2 else []
      let part := { x with need := rest }
      let o := if rest.isEmpty then (0, p.space) else c.spaceOutcome part
      if o.1 ≠ 0 then c.refuseSpace x o
      else
        let r := c.unmapRange x
        if r.2.isEmpty then r.1.endCmd x 0
        else r.1.toGate part

/-- Accepted writes whose map pages were missing go on once they are there (R125). -/
def Chip.pumpWrites (c : Chip) : Chip :=
  c.each (c.cqi.cmds.filter (fun x => x.isWrite && x.stage = .waitOverlap && !x.dead)) (fun c x =>
    if c.pagesHere x then c.startWrite { x with stage := .fresh } else c)

/-! ### READ (R164, R199) -/

/-- Blocks of a READ still to come that no gather brings. -/
def Chip.unasked (c : Chip) (x : Cmd) : List Nat :=
  x.need.filter (fun b => !(c.gathers.vals.any (fun g => match g.why with
    | .hostRead a n => decide (a = x.acc) && decide (n ≤ b) && decide (b < n + g.count)
    | _ => false)))

/-- The first failed block of a READ is the lowest (R195). -/
def Cmd.failAt (x : Cmd) (b status : Nat) : Cmd :=
  let f := match x.failBlock with
    | some (n, s) => if b < n then some (b, status) else some (n, s)
    | none => some (b, status)
  { x with need := x.need.filter (fun y => decide (y ≠ b)), failBlock := f }

/-- A block of a READ has its data. -/
def Cmd.gotBlock (x : Cmd) (b : Nat) (d : Bytes) : Cmd :=
  { x with data := x.data.put b d, need := x.need.filter (fun y => decide (y ≠ b)) }

/-- Where a block of a groomed piste is read from: nothing yet, zeros, lost, or a stripe, column and offset. -/
inductive GranuleAt where
  | absent
  | zero
  | lost
  | at (i : StripeId) (col off : Nat)
deriving DecidableEq, Repr

def Chip.granuleAt (c : Chip) (p b : Nat) : GranuleAt :=
  let x := c.piste p
  let gno := b / max 1 x.gb
  let page := x.pages.getD (gno / 512) MapPage.reset
  if !page.present then .absent
  else
    let v := x.mapOf gno
    if !mapped v then .zero
    else match c.stripeOfEntry x v with
      | some (q, col) => .at ⟨p, false, 0, q⟩ col (mapOffset v % x.geom.b + b % max 1 x.gb)
      | none => .lost

/-- Start the gathers of runs of blocks that stand side by side on one strip. -/
def Chip.gatherRuns (c : Chip) (acc : Nat) : List (Nat × StripeId × Nat × Nat) → Chip
  | l =>
    let runs := l.foldl (fun (a : List (Nat × StripeId × Nat × Nat × Nat)) t =>
      match a with
      | (b, i, col, o, n) :: r =>
        if i = t.2.1 ∧ col = t.2.2.1 ∧ o + n = t.2.2.2 ∧ b + n = t.1 then (b, i, col, o, n + 1) :: r
        else (t.1, t.2.1, t.2.2.1, t.2.2.2, 1) :: a
      | [] => [(t.1, t.2.1, t.2.2.1, t.2.2.2, 1)]) []
    c.each runs.reverse (fun c t => c.startGather (.hostRead acc t.1) t.2.1 t.2.2.2.1 t.2.2.2.2 [t.2.2.1] 1)

/-- Deliver a READ: its data in order, then its completion (R195, R227). -/
def Chip.deliverRead (c : Chip) (x : Cmd) : Chip :=
  if !c.hostOpen || c.halted .host then c.putCmd { x with stage := .moving }
  else
    let bytes := (x.blocks.map (fun b => fit 4096 (x.data.getD b []))).flatten
    let ro := (c.queue x.queue).relaxed && c.host.relaxed
    let c := c.each (spread x.buffers bytes) (fun c s => c.hostWrite s.1 s.2 ro)
    let c := c.updPiste x.piste (fun p => { p with readBlocks := p.readBlocks + x.count })
    match x.failBlock with
    | some (b, s) => c.endCmd x s (b - x.first)
    | none => c.endCmd x 0

/-- Go on with a READ: nothing while an earlier write it overlaps is running, else its missing blocks are asked for (R164,
R199). -/
def Chip.continueRead (c : Chip) (x : Cmd) : Chip :=
  if !(c.earlierWrites x).isEmpty then c.putCmd { x with stage := .waitOverlap }
  else
    let p := c.piste x.piste
    -- lost ranges (R108)
    let x := x.blocks.foldl (fun (x : Cmd) b => if c.lostBlock x.piste b then x.failAt b 0x0404 else x) { x with stage := .reading }
    let ask := c.unasked x
    let stripeOf := fun (b : Nat) => if p.groomed then (match c.granuleAt x.piste b with | .at i _ _ => [i] | _ => []) else [(p.locate x.piste b).1]
    let c := c.each ((ask.map stripeOf).flatten.foldl (fun a i => if i ∈ a then a else i :: a) []).reverse Chip.meetLost
    if p.groomed then
      let x := ask.foldl (fun (x : Cmd) b => match c.granuleAt x.piste b with
        | .zero => x.gotBlock b zeroBlock
        | .lost => x.failAt b 0x0404
        | .at i col o => if c.lostAt i col o then x.failAt b 0x0201 else x
        | .absent => x) x
      let ask := c.unasked x
      let cut := ask.any (fun b => match c.granuleAt x.piste b with
        | .at i col _ => (c.known i col).isNone && decide (2 < (c.unknownCols i).length)
        | _ => false)
      if cut then c.endCmd x 0x0302
      else
        let c := c.putCmd x
        let c := c.each ask (fun c b => match c.granuleAt x.piste b with
          | .absent => c.fetchPage x.piste (b / max 1 p.gb / 512)
          | _ => c)
        let c := c.gatherRuns x.acc ((ask.map (fun b => match c.granuleAt x.piste b with
          | .at i col o => [(b, i, col, o)]
          | _ => [])).flatten)
        if x.need.isEmpty ∧ x.segment.isNone then c.deliverRead x else c
    else
      let place := fun (b : Nat) => p.locate x.piste b
      let x := ask.foldl (fun (x : Cmd) b => let t := place b; if c.lostAt t.1 t.2.1 t.2.2 then x.failAt b 0x0201 else x) x
      let ask := c.unasked x
      let cut := ask.any (fun b => let t := place b; (c.known t.1 t.2.1).isNone && decide (2 < (c.unknownCols t.1).length))
      if cut then c.endCmd x 0x0302
      else
        let c := c.putCmd x
        let c := c.gatherRuns x.acc (ask.map (fun b => let t := place b; (b, t.1, t.2.1, t.2.2)))
        if x.need.isEmpty ∧ x.segment.isNone then c.deliverRead x else c

/-- The gathered blocks of a READ have come (R141, R143); they may fill the cache (Table 4.9, read_cache_admit).
[DESIGN CHOICE, notes/assumptions/27.md] -/
def Chip.readArrived (c : Chip) (acc block : Nat) (data : List Bytes) : Chip :=
  match c.cqi.cmds.find? (fun x => decide (x.acc = acc) && decide (x.opcode = 1)) with
  | none => c
  | some x =>
    let got := (List.range data.length).map (fun j => (block + j, atD data j zeroBlock))
    let c := if c.val 0x2423 x.piste = 1 then c.each got (fun c t =>
        if (c.versions x.piste t.1).isEmpty then
          c.setVersions x.piste t.1 [{ state := .clean, data := t.2, acc := 0, dirtyLap := 0, entry := 0, lost := false }]
        else c) else c
    let x := got.foldl (fun (x : Cmd) t => if t.1 ∈ x.need then x.gotBlock t.1 t.2 else x) x
    if x.dead then c.dropCmd acc
    else
      let c := c.putCmd x
      if x.need.isEmpty ∧ x.segment.isNone ∧ x.stage = .reading then c.deliverRead x else c

/-- Blocks of a READ turned out lost while they were gathered (R141, R164). -/
def Chip.readLost (c : Chip) (acc block count : Nat) : Chip :=
  match c.cqi.cmds.find? (fun x => decide (x.acc = acc) && decide (x.opcode = 1)) with
  | none => c
  | some x =>
    let x := (List.range count).foldl (fun (x : Cmd) j => if block + j ∈ x.need then x.failAt (block + j) 0x0201 else x) x
    let c := c.putCmd x
    if x.need.isEmpty ∧ x.segment.isNone ∧ x.stage = .reading then c.deliverRead x else c

/-- A READ needs a stripe that an unreachable unit keeps from being solved (R61). -/
def Chip.readCut (c : Chip) (acc : Nat) : Chip :=
  match c.cqi.cmds.find? (fun x => decide (x.acc = acc) && decide (x.opcode = 1)) with
  | some x => c.endCmd x 0x0302
  | none => c

/-- A map page's stripe is kept from being solved by an unreachable unit: the host commands that need the page end (R61). -/
def Chip.pageCut (c : Chip) (p page : Nat) : Chip :=
  c.each (c.cqi.cmds.filter (fun x => decide (x.piste = p) && !x.dead && (x.stage = .waitOverlap || x.stage = .reading) &&
      (x.isWrite || (x.opcode = 1 && x.need.any (fun b => decide (b / max 1 (c.piste p).gb / 512 = page)))) && decide (page ∈ c.pagesOf x)))
    (fun c x => if x.isWrite then c.failWrite x 0x0302 else c.endCmd x 0x0302)

/-- READs that waited go on. -/
def Chip.pumpHostReads (c : Chip) : Chip :=
  c.each (c.cqi.cmds.filter (fun x => decide (x.opcode = 1) && !x.dead && (x.stage = .waitOverlap || x.stage = .reading)))
    (fun c x => match c.cqi.cmds.find? (fun y => decide (y.acc = x.acc)) with
      | some y => if y.need.isEmpty && y.stage = .reading then c else c.continueRead y
      | none => c)

/-! ### FLUSH and ABORT (R78, R210) -/

/-- Blocks of writes accepted before a FLUSH are still not CLEAN. -/
def Chip.dirtyBefore (c : Chip) (p acc : Nat) : Bool :=
  c.cache.blocks.any (fun b => decide (b.1 / 2 ^ 64 = p) && b.2.any (fun v => v.isDirty && accEarlier v.acc acc))

/-- A FLUSH completes once the earlier writes have, and are CLEAN under flush_mode 1 (R78). -/
def Chip.flushReady (c : Chip) (x : Cmd) : Bool :=
  !(c.cqi.cmds.any (fun y => y.isWrite && decide (y.piste = x.piste) && accEarlier y.acc x.acc && !y.dead)) &&
    (c.val 0x2425 x.piste = 0 || !c.dirtyBefore x.piste x.acc)

def Chip.pumpFlushes (c : Chip) : Chip :=
  c.each (c.cqi.cmds.filter (fun x => decide (x.opcode = 3) && x.stage = .waiting && !x.dead)) (fun c x =>
    if c.flushReady x then c.endCmd x 0 else c)

/-- An ABORT that waits ends once its target has completed (R210). -/
def Chip.pumpAborts (c : Chip) : Chip :=
  c.each (c.cqi.cmds.filter (fun x => decide (x.opcode = 8) && x.stage = .waiting && !x.dead)) (fun c x =>
    match x.target with
    | some (q, n) => if c.cqi.cmds.any (fun y => decide (y.queue = q) && decide (y.cid = n) && !y.dead && decide (y.acc ≠ x.acc))
        then c else c.endCmd x 0x0109
    | none => c.endCmd x 0x0109)

/-- Write-through writes that a stripe out of reach keeps from the members end (R61). -/
def Chip.endCutWrites (c : Chip) : Chip :=
  c.each (c.cqi.cmds.filter (fun x => x.stage = .through && decide (x.failBlock = some (0, 0x0302)))) (fun c x => c.failWrite x 0x0302)

/-- THROUGH writes that have just completed take effect on later READs before these go on. -/
def Chip.pumpHost (c : Chip) : Chip :=
  ((((c.endCutWrites.pumpWrites).pumpHostReads).pumpFlushes).pumpAborts).flushHeld

end Sys2Proof.Machine
end

