-- ==== Sys2Proof/Machine/Rebuild.lean ====
section
/-! DEFINITION. Replacement lists and the passes over them: what enters E (R151, R158), the main and priority passes, drain,
copy-back and resync (R150, R153 to R162), repairs in place (R144) and checkpoints (R152). -/

namespace Sys2Proof.Machine

/-! ### Extents (check 6 of Table 3.6) -/

/-- Blocks of the relocation area of an index (R158). -/
def Chip.relocArea (c : Chip) (x : Piste) (e : Nat) : Nat :=
  let f := c.zoneFigures x e
  areaRows x.mapGeom (relocPages f.2.2 (zoneStrips x.geom.zoneParity f.1 (max 1 x.geom.b))) * 4

/-- The in-place extents of a piste: start and blocks. -/
def Chip.extents (c : Chip) (x : Piste) : List (Nat × Nat) :=
  if x.groomed then
    (x.mapBase, areaRows x.mapGeom x.mapPages * 4) ::
      (x.rebuild.slots.filter (fun r => decide (r.base ≠ 0))).map (fun r => (r.base, c.relocArea x r.index))
  else (x.geom.base, x.geom.rows * x.geom.b) ::
    (if x.fall.state ≠ 0 then [(x.fall.new.base, x.fall.new.rows * x.fall.new.b)] else [])

/-- The first block past the vault extent (Table 9.4). -/
def vaultEnd : Nat := 69468160

/-- Check 6 of Table 3.6 for an extent on the members of some slots; on a vault drive it lies above the vault extent (R247).
[DESIGN CHOICE, notes/assumptions/21.md] -/
def Chip.extentOk (c : Chip) (slots : List Nat) (start len : Nat) : Bool :=
  decide (262144 ≤ start) && decide (start % 64 = 0) &&
  slots.all (fun s => decide (s ∉ c.vaultSlots) || decide (vaultEnd ≤ start)) &&
  slots.all (fun s => match (c.member s).report with
    | some r => decide (start + len ≤ r.conventionalBlocks)
    | none => false) &&
  c.livePistes.all (fun p => !((c.localSlots p.2).any (fun s => decide (s ∈ slots))) ||
    (c.extents p.2).all (fun e => decide (start + len ≤ e.1) || decide (e.1 + e.2 ≤ start)))

/-- A base the device chooses (R62, R124, R158): any that passes; `none` where none does. -/
def Chip.chooseExtent (c : Chip) (slots : List Nat) (len : Nat) : Chip × Option Nat :=
  let d := Config.chooseBase c.draws
  let c := { c with draws := c.draws + 1 }
  if c.extentOk slots d len then (c, some d)
  else
    let ends := (c.livePistes.map (fun p => (c.extents p.2).map (fun e => ceilDiv (e.1 + e.2) 64 * 64))).flatten
    (c, (262144 :: vaultEnd :: ends).find? (fun s => c.extentOk slots s len))

/-! ### Entering E (R151, R153, R155, R158) -/

/-- Spare columns of a row (Table 3.9). -/
def Geometry.spares (g : Geometry) : Nat := g.n - g.m * (g.k + 2)

/-- A slot's pass has been round every row, or over every zone. -/
def Chip.slotPassed (c : Chip) (x : Piste) (r : RebuildSlot) : Bool :=
  if x.groomed then decide ((c.zoneFigures x r.index).2.2 ≤ r.mark) else r.wrapped && decide (r.mark = r.start)

/-- Slots whose main pass runs. -/
def Chip.mainSlots (c : Chip) (x : Piste) : List RebuildSlot :=
  x.rebuild.slots.filter (fun r => decide (r.state = 2) && !c.slotPassed x r)

/-- The row the main pass stands at. -/
def Chip.passRow (c : Chip) (x : Piste) : Nat :=
  match c.mainSlots x with
  | r :: _ => r.mark
  | [] => match x.rebuild.slots.find? (fun r => decide (r.state = 1)) with
    | some r => r.mark
    | none => 0

/-- The pass a slot goes on in: the priority one while an item that names it has rows left (R155, R166). -/
def Chip.passOf (c : Chip) (x : Piste) (r : RebuildSlot) : Nat :=
  if x.rebuild.items.any (fun t => (decide (t.peerA = r.index) || decide (t.peerB = r.index)) && !c.itemPassed x t) then 1 else 2

/-- Room in E. -/
def Piste.mayEnter (x : Piste) (e : Nat) : Bool :=
  decide (e ∉ x.repl) && decide (x.repl.length < 8) && (x.groomed || decide (x.repl.length < x.geom.spares))

/-- Change the rebuild slots of a piste. -/
def Chip.onSlots (c : Chip) (p : Nat) (f : RebuildSlot → RebuildSlot) : Chip :=
  c.updPiste p (fun x => { x with rebuild := { x.rebuild with slots := x.rebuild.slots.map f } })

/-- A change of the directory that concerns a piste (R68). -/
def Chip.pisteChange (c : Chip) (p : Nat) : Chip :=
  (c.updPiste p (fun x => { x with dirGen := c.dir.generation + 1, rebuildSaved := x.rebuild })).directoryChange

/-- A checkpoint of the rebuild record (R152). -/
def Chip.checkpointRebuild (c : Chip) (p : Nat) : Chip :=
  let c := (c.updPiste p (fun x => { x with rebuild := { x.rebuild with
    generation := x.rebuild.generation + 1
    checkpointStride := c.clk.stride
    sinceCheckpoint := 0
    slots := x.rebuild.slots.map (fun r => { r with copySaved := r.copyMark }) } })).pisteChange p
  c.mirrorItem (.record (.rebuildRecord p (c.piste p).rebuild.bytes))

/-- An index enters E of a piste (R151): its slot starts where the main pass stands, with a priority item for every pass that
runs (R155). False where it cannot enter. -/
def Chip.enterE (c : Chip) (p e : Nat) (drain : Bool) : Chip × Bool :=
  let x := c.piste p
  if !x.mayEnter e then (c, false)
  else
    let r := if x.groomed then c.chooseExtent (c.localSlots x) (c.relocArea x e) else (c, some 0)
    let c := if r.2.isNone then r.1.record 0xA02 (some p) else r.1
    let w := if x.groomed then 0 else c.passRow x
    let running := if drain then [] else x.rebuild.slots.filter (fun t => decide (t.state = 1) || decide (t.state = 2))
    let stops := r.2.isNone || decide (c.shareSet 5 = 0)
    let pairs := running.take (4 - x.rebuild.items.length)
    let items := if stops then [] else pairs.map (fun t => ({ peerA := t.index, peerB := e, mark := 0, strip := 0 } : PriorityItem))
    let slot : RebuildSlot :=
      { index := e, state := if stops then 0 else if items.isEmpty then 2 else 1, drain, start := w, mark := w,
        wrapped := false, base := r.2.getD 0, pausedByTable := false, cancelled := false, was := 2, copyMark := 0, copySaved := 0,
        copyDurable := 0, strip := 0, issued := false, target := none, reloc := [],
        recs := match c.localSlot x e with | some s => (c.member s).zones | none => x.remote.getD e [] }
    let slot := if x.groomed then slot.touch c.lap ((slot.recs.map (fun z => recKey z.1)).foldl addNew []) else slot
    -- a row whose entries are open is opened again, with the new index (R153)
    let c := c.updPiste p (fun x => { x with
      repl := x.repl ++ [e]
      rebuild := { x.rebuild with
        issued := false
        slots := (x.rebuild.slots.map (fun t => if items.any (fun i => decide (i.peerA = t.index)) then { t with state := 1 } else t))
          ++ [slot]
        items := x.rebuild.items ++ items } })
    (c.pisteChange p, true)

/-- Indices of a piste that name a slot of this unit. -/
def Chip.indicesOf (c : Chip) (x : Piste) (slot : Nat) : List Nat :=
  (List.range x.list.length).filter (fun e => decide ((atD x.list e (0, 255)).1 = slot) && c.ownNode (atD x.list e (0, 255)).2)

/-- Pistes that hold a slot, with the index. -/
def Chip.holders (c : Chip) (slot : Nat) : List (Nat × Nat) :=
  (c.livePistes.map (fun p => (c.indicesOf p.2 slot).map (fun e => (p.1, e)))).flatten

/-- Rebuild of a failed member begins on every piste that holds it (R148): true where a slot started. -/
def Chip.startRebuild (c : Chip) (slot : Nat) : Chip × Bool :=
  let r := (c.holders slot).foldl (fun (a : Chip × Bool) pe =>
    let t := a.1.enterE pe.1 pe.2 false
    (t.1, a.2 || t.2)) (c, false)
  let inE := (r.1.holders slot).any (fun pe => decide (pe.2 ∈ (r.1.piste pe.1).repl))
  (r.1.updMember slot (fun m => { m with mstate := if inE ∧ m.mstate = .failed then .rebuilding else m.mstate, graceOver := true }),
   r.2)

/-! ### Opening a REBUILD entry -/

/-- E as the passes write it: without an index below its copy-back mark. -/
def Piste.targetE (x : Piste) (i : StripeId) : List Nat :=
  x.repl.filter (fun e => match x.slotOf e with
    | some r => !(decide (r.state = 4) && decide ((x.geometry i).rowOf i.stripe < r.copyMark))
    | none => true)

/-- Indices of a list of replacements that a column's strip stands on, one after another. -/
def Piste.movedUnder (x : Piste) (i : StripeId) (l : List Nat) (col : Nat) : List Nat :=
  let g := x.geometry i
  ((List.range l.length).filter (fun j => decide (stripIndex x.seed g (l.take j) i.stripe col = some (atD l j 0)))).map
    (fun j => atD l j 0)

/-- Where a column stands under a list of replacements. -/
def Piste.placeUnder (x : Piste) (i : StripeId) (l : List Nat) (col : Nat) : Option (Nat × Nat) :=
  (stripIndex x.seed (x.geometry i) l i.stripe col).map (fun e => atD (x.listOf i) e (0, 255))

/-- Bytes that REBUILD entries write count against the cap (R157). -/
def Chip.rebuilt (c : Chip) (blocks : Nat) : Chip := c.onSched (fun s => { s with rebuiltLap := s.rebuiltLap + blocks * 4096 })

/-- Rebuild of a piste stands still because the lost-stripe table is full (R166). -/
def Piste.tablePaused (x : Piste) : Bool := x.rebuild.slots.any (fun r => r.pausedByTable && decide (r.state = 0))

/-- Open the entry of a stripe that a pass writes (R153, R161, R162): its columns, placed under a list of replacements. False
where the stripe has an open entry and the pass must wait. -/
def Chip.openRebuild (c : Chip) (i : StripeId) (cols l : List Nat) : Chip × Bool :=
  let x := c.piste i.piste
  let g := x.geometry i
  if (c.openEntryOf i).isSome then (c, false)
  else if c.isLost i then (c.meetLost i, true)
  else
    let placed := cols.filter (fun col => (x.placeUnder i l col).isSome)
    if placed.isEmpty then (c, true)
    else
      let set := (List.range (g.k + 2)).foldl (fun m col => match x.placeUnder i (if col ∈ cols then l else x.replFor i) col with
        | some t => KMap.put m col t
        | none => m) []
      let r := c.openEntry { Entry.reset with
        piste := i.piste, newGeom := i.newGeom, stripe := stripeField i.area i.stripe, kind := 5, first := 0, count := g.b,
        stripMask := maskOf placed, memberSet := set, degraded := true, spanning := x.spanning }
      match r.2 with
      | none => (r.1, false)
      | some slot =>
        ((r.1.rebuilt (placed.length * g.b)).startGather (.entry slot) i 0 g.b placed 5, true)

/-- A REBUILD entry of a piste is still open over a test of its stripes. -/
def Chip.rebuildOpen (c : Chip) (p : Nat) (ok : Nat → Bool) : Bool :=
  c.journal.entries.any (fun t => decide (t.2.piste = p) && decide (t.2.kind = 5) && decide ((areaOf t.2.stripe).1 = 0) &&
    (t.2.state ≠ .committed || t.2.sealed_ ≠ .committed) && ok t.2.stripe)

/-- Rebuilt bytes stay within the cap (R157). [DESIGN CHOICE, notes/assumptions/39.md] -/
def Chip.rateLeft (c : Chip) : Bool :=
  let cap := c.val 0x2C16
  decide (cap = 0) || decide (c.sched.rebuiltLap * 1000 < cap * c.lapNs)

/-! ### Fixed pistes: main and priority passes (R153, R155) -/

/-- Columns of a stripe that a pass for some indices rebuilds. -/
def Chip.passCols (_c : Chip) (x : Piste) (i : StripeId) (idx : List Nat) : List Nat :=
  (List.range ((x.geometry i).k + 2)).filter (fun col => (x.movedUnder i (x.targetE i) col).any (fun e =>
    decide (e ∈ idx) && (match x.slotOf e with | some r => !x.rebuiltFor i r | none => false)))

/-- Stripes of a row in the geometry in force, and in the new one below a paused fall line (R177). -/
def Piste.rowStripes (x : Piste) (p row : Nat) : List StripeId :=
  ((List.range x.geom.m).map (fun j => (⟨p, false, 0, row * x.geom.m + j⟩ : StripeId))) ++
  (if x.fall.state ≠ 0 ∧ !x.groomed then
    ((List.range x.fall.new.m).map (fun j => (⟨p, true, 0, row * x.fall.new.m + j⟩ : StripeId))).filter
      (fun i => decide (i.stripe < x.fall.position))
   else [])

/-- The item whose priority pass runs. -/
def Piste.runningItem (x : Piste) : Option PriorityItem :=
  x.rebuild.items.find? (fun t => decide (t.mark < x.passRows))

/-- Open the entries of the row at hand, each stripe's columns in turn: whether the row is under way, and whether an entry was opened. A row
whose entries the journal cannot all take waits (R97), and so does one that meets a lost stripe while the table is full (R166). -/
def Chip.openRow (c : Chip) (p row : Nat) (cols : Piste → StripeId → List Nat) (l : Piste → StripeId → List Nat) :
    Chip × Bool × Bool :=
  let todo := ((c.piste p).rowStripes p row).filter (fun i => !(cols (c.piste p) i).isEmpty)
  if todo.any (fun i => (c.openEntryOf i).isSome) then (c, false, true)
  else if 65536 < c.journal.entries.length + todo.length then (c.bump 0x2444, false, true)
  else
    let c := todo.foldl (fun (a : Chip) i => (a.openRebuild i (cols (a.piste p) i) (l (a.piste p) i)).1) c
    (c, !(c.piste p).tablePaused, !todo.isEmpty)

/-- The main pass goes on by a row. -/
def Chip.advanceMain (c : Chip) (p row : Nat) : Chip :=
  let x := c.piste p
  let at_ := (c.mainSlots x).map (fun r => r.index)
  let next := if x.passRows ≤ row + 1 then 0 else row + 1
  (c.updPiste p (fun x => { x with rebuild := { x.rebuild with issued := false } })).onSlots p (fun r =>
    if r.index ∈ at_ ∧ r.mark = row then { r with mark := next, wrapped := r.wrapped || decide (next = 0) } else r)

/-- A row is done: the pass goes on (a priority item's, else the main one's). -/
def Chip.rowDone (c : Chip) (p : Nat) : Chip :=
  let x := c.piste p
  match x.runningItem with
  | some t => c.updPiste p (fun x => { x with rebuild := { x.rebuild with
      issued := false
      items := x.rebuild.items.map (fun y => if y = t then { y with mark := y.mark + 1 } else y) } })
  | none => c.advanceMain p (c.passRow x)

/-- Drive the passes of a fixed piste: rows with nothing to write are passed at once. -/
def Chip.fixedPass : Nat → Chip → Nat → Chip
  | 0, c, _ => c
  | n + 1, c, p =>
    let x := c.piste p
    let item := x.runningItem
    let main := c.mainSlots x
    if item.isNone ∧ main.isEmpty then c
    else if x.rebuild.slots.all (fun r => decide (r.state ≠ 1) && decide (r.state ≠ 2)) then c
    else if !c.rateLeft then c
    else
      let row := match item with | some t => t.mark | none => c.passRow x
      if x.rebuild.issued then
        if c.rebuildOpen p (fun s => decide (x.geom.rowOf s = row) || decide (x.fall.new.rowOf s = row)) then c
        else Chip.fixedPass n (c.rowDone p) p
      else
        let cols := fun (x : Piste) (i : StripeId) => match item with
          | some t => let on := x.stripeIndices i
            if t.peerA ∈ on ∧ t.peerB ∈ on then c.passCols x i [t.peerA, t.peerB] else []
          | none => c.passCols x i ((main.filter (fun r => decide (r.mark = row))).map (fun r => r.index))
        let r := c.openRow p row cols (fun x i => x.targetE i)
        if !r.2.1 then r.1
        else
          let c := r.1.updPiste p (fun x => { x with rebuild := { x.rebuild with issued := true } })
          if r.2.2 then c else Chip.fixedPass n (c.rowDone p) p

/-- Copy-back of a fixed piste (R162): strips whose place differs with and without the index move, row by row. -/
def Chip.fixedCopyback : Nat → Chip → Nat → Nat → Chip
  | 0, c, _, _ => c
  | n + 1, c, p, e =>
    let x := c.piste p
    match x.slotOf e with
    | none => c
    | some r =>
      if r.state ≠ 4 ∨ x.geom.rows ≤ r.copyMark ∨ !c.rateLeft then c
      else if r.issued then
        if c.rebuildOpen p (fun s => decide (x.geom.rowOf s = r.copyMark)) then c
        else Chip.fixedCopyback n (c.onSlots p (fun r =>
          if r.index = e then { r with copyMark := r.copyMark + 1, issued := false } else r)) p e
      else
        let without := fun (x : Piste) (i : StripeId) => (x.targetE i).filter (fun y => decide (y ≠ e))
        let cols := fun (x : Piste) (i : StripeId) => (List.range ((x.geometry i).k + 2)).filter (fun col =>
          decide (x.placeUnder i (x.targetE i) col ≠ x.placeUnder i (without x i) col))
        let t := c.openRow p r.copyMark cols without
        if !t.2.1 then t.1
        else
          let c := t.1.onSlots p (fun r => if r.index = e then { r with issued := true } else r)
          if t.2.2 then c else Chip.fixedCopyback n c p e

/-! ### Groomed pistes (R159, R160, R162) -/

/-- The stripe whose strip stands at place j of a zone of an index. -/
def Piste.stripeAt (x : Piste) (e firstSerial j : Nat) : Option Nat :=
  (List.range x.nextQ).find? (fun q => usesStripe x.seed (x.geomOf q) e q && decide (x.serial e q = firstSerial + 2 * j))

/-- Column of a stripe on an index. -/
def Piste.columnOn (x : Piste) (e q : Nat) : Nat :=
  let g := x.geomOf q
  colOfIndex x.seed g.n (q / g.m) e % (g.k + 2)

/-- A stripe of a groomed piste is live (R128). -/
def Piste.liveStripe (x : Piste) (q : Nat) : Bool := decide ((x.liveCount.getD q (0, 0)).1 ≠ 0)

/-- Rebuild one groomed strip onto its target (R159). False where the pass must wait: for the stripe's open entry, for a journal slot, or
for a target with an EMPTY zone: the spec does not say what becomes of a strip that has none; the pass stays at it.
[DESIGN CHOICE, notes/assumptions/102.md] -/
def Chip.rebuildStrip (c : Chip) (p e zone j q : Nat) : Chip × Bool :=
  let x := c.piste p
  let g := x.geomOf q
  let i : StripeId := ⟨p, false, 0, q⟩
  let col := x.columnOn e q
  if (c.openEntryOf i).isSome then (c, false)
  else if c.isLost i then
    let c := c.meetLost i
    (c, !(c.piste p).tablePaused)
  else match c.relocTarget x q e with
    | none => (c, false)
    | some t =>
      let r := c.relocPlace p t
      match r.2 with
      | none => (r.1, false)
      | some (z, o) =>
        let parts := zoneStrips ((c.zonesOf x e).getD zone Zone.reset).parityMode (c.zoneFigures x e).1 g.b
        let n := r.1.openEntry { Entry.reset with
          piste := p, stripe := q, kind := 5, first := 0, count := g.b, stripMask := 2 ^ col, degraded := true,
          spanning := x.spanning, change := [relocRow e (relocIndex zone (j * g.b) g.b parts) t z o] }
        match n.2 with
        | none => (c.bump 0x2444, false)
        | some slot => ((n.1.rebuilt g.b).startGather (.entry slot) i 0 g.b [col] 5, true)

/-- Drive the walk over a virtual member's zones: OPEN and FULL zones in ascending number, strips in offset order. -/
def Chip.groomedPass : Nat → Chip → Nat → Nat → Chip
  | 0, c, _, _ => c
  | n + 1, c, p, e =>
    let x := c.piste p
    match x.slotOf e with
    | none => c
    | some r =>
      if (r.state ≠ 1 ∧ r.state ≠ 2) ∨ c.slotPassed x r ∨ !c.rateLeft then c
      else
        let set := fun (c : Chip) (f : RebuildSlot → RebuildSlot) => c.onSlots p (fun r => if r.index = e then f r else r)
        let z := (c.zonesOf x e).getD r.mark Zone.reset
        let t := zoneStrips z.parityMode (c.zoneFigures x e).1 x.geom.b
        if (z.zstate ≠ 1 ∧ z.zstate ≠ 2) ∨ z.piste ≠ p ∨ z.role ≠ 0 ∨ t ≤ r.strip then
          Chip.groomedPass n (set c (fun r => { r with mark := r.mark + 1, strip := 0, issued := false })) p e
        else match x.stripeAt e z.firstSerial r.strip with
          | none => Chip.groomedPass n (set c (fun r => { r with strip := r.strip + 1, issued := false })) p e
          | some q =>
            if r.issued then
              if c.rebuildOpen p (fun s => decide (s = q)) then c
              else Chip.groomedPass n (set c (fun r => { r with strip := r.strip + 1, issued := false })) p e
            else if !x.liveStripe q ∨ (r.reloc.find (relocIndex r.mark (r.strip * x.geom.b) x.geom.b t)).isSome then
              Chip.groomedPass n (set c (fun r => { r with strip := r.strip + 1, issued := false })) p e
            else
              let s := c.rebuildStrip p e r.mark r.strip q
              if s.2 then Chip.groomedPass n (set s.1 (fun r => { r with issued := true })) p e else s.1

/-- A priority walk on a groomed piste (R155, R159): the zones of peer_a, for stripes with a strip on peer_b. -/
def Chip.groomedItem : Nat → Chip → Nat → PriorityItem → Chip
  | 0, c, _, _ => c
  | n + 1, c, p, t =>
    let x := c.piste p
    let zones := (c.zoneFigures x t.peerA).2.2
    let put := fun (c : Chip) (u : PriorityItem) => c.updPiste p (fun x => { x with rebuild := { x.rebuild with
      items := x.rebuild.items.map (fun y => if y.peerA = t.peerA ∧ y.peerB = t.peerB then u else y) } })
    if zones ≤ t.mark ∨ !c.rateLeft then c
    else
      let z := (c.zonesOf x t.peerA).getD t.mark Zone.reset
      let per := zoneStrips z.parityMode (c.zoneFigures x t.peerA).1 x.geom.b
      let nextZone := { t with mark := t.mark + 1, strip := 0 }
      let nextStrip := { t with strip := t.strip + 1 }
      if (z.zstate ≠ 1 ∧ z.zstate ≠ 2) ∨ z.piste ≠ p ∨ z.role ≠ 0 ∨ per ≤ t.strip then
        Chip.groomedItem n (put c nextZone) p nextZone
      else match x.stripeAt t.peerA z.firstSerial t.strip with
        | none => Chip.groomedItem n (put c nextStrip) p nextStrip
        | some q =>
          let on := x.stripeIndices ⟨p, false, 0, q⟩
          if !x.liveStripe q ∨ t.peerB ∉ on then Chip.groomedItem n (put c nextStrip) p nextStrip
          else if (c.openEntryOf ⟨p, false, 0, q⟩).isSome then c
          else
            let missing := [t.peerA, t.peerB].filter (fun e => (c.stripHome ⟨p, false, 0, q⟩ (x.columnOn e q)).isNone)
            match missing with
            | [] => Chip.groomedItem n (put c nextStrip) p nextStrip
            | e :: _ =>
              let at_ := (c.stripZone p x e (x.serial e q) x.geom.b).getD (0, 0)
              let s := c.rebuildStrip p e at_.1 (at_.2 / max 1 x.geom.b) q
              if !s.2 || (s.1.openEntryOf ⟨p, false, 0, q⟩).isSome then s.1 else Chip.groomedItem n (put s.1 nextStrip) p nextStrip

/-- A command on a zone is queued or outstanding: the next position of the zone waits for it (R118). -/
def Chip.zoneBusy (c : Chip) (slot zone : Nat) : Bool :=
  let m := c.member slot
  let on := fun (k : MCmd) => match k.op with
    | .writeBlocks true b _ _ => decide (b / max 1 m.zsze = zone)
    | .writeZeroes true b _ => decide (b / max 1 m.zsze = zone)
    | .zoneReset z => decide (z = zone)
    | .zoneFinish z => decide (z = zone)
    | _ => false
  m.outstanding.any on || m.queues.any (fun q => q.any on)

/-- Consecutive blocks that are all zeros, or none of which is. -/
def zeroRuns : List Bytes → List (Bool × List Bytes)
  | [] => []
  | d :: r =>
    let z := d.all (fun b => decide (b = 0))
    match zeroRuns r with
    | (y, l) :: t => if z = y then (y, d :: l) :: t else (z, [d]) :: (y, l) :: t
    | [] => [(z, [d])]

/-- Fill a dead strip's place in a zone with Write Zeroes (R162), and write the zone-strip parity that ends within it (R115). -/
def Chip.fillDead (c : Chip) (p e slot zone offset : Nat) : Chip :=
  let x := c.piste p
  let mode := ((c.zonesOf x e).getD zone Zone.reset).parityMode
  let r := c.zoneStripWrite p e slot zone offset (List.replicate x.geom.b zeroBlock)
  ((zeroRuns r.2).foldl (fun (a : Chip × Nat) t =>
    (if t.1 then a.1.issue slot 5 (.writeZeroes true a.2 t.2.length) (blockBytes t.2.length) .none none 0
     else a.1.issueWrite slot 5 true a.2 t.2 true .none, a.2 + t.2.length)) (r.1, c.zoneBlock slot zone mode offset)).1

/-- Copy-back of a groomed index (R162): virtual zones in ascending number are written to the drive, strip by strip; a zone that was
finished early is finished on the drive. [DEDUCED, notes/assumptions/38.md] -/
def Chip.groomedCopyback : Nat → Chip → Nat → Nat → Chip
  | 0, c, _, _ => c
  | n + 1, c, p, e =>
    let x := c.piste p
    match x.slotOf e, c.localSlot x e with
    | some r, some slot =>
      let mine := r.recs.filter (fun z => decide (z.2.piste = p) && decide (z.2.zstate = 2))
      match mine with
      | [] => c
      | (z, rec_) :: _ =>
        let t := zoneStrips rec_.parityMode (c.zoneFigures x e).1 x.geom.b
        let set := fun (c : Chip) (f : RebuildSlot → RebuildSlot) => c.onSlots p (fun r => if r.index = e then f r else r)
        let next := fun (c : Chip) => set c (fun r => { r with strip := r.strip + 1, issued := false })
        let stripe := x.stripeAt e rec_.firstSerial r.strip
        let live : Bool := match stripe with | some q => x.liveStripe q | none => false
        let i : StripeId := ⟨p, false, 0, stripe.getD 0⟩
        if r.state ≠ 4 ∨ !c.rateLeft then c
        else if r.issued ∧ live ∧ c.rebuildOpen p (fun s => decide (s = i.stripe)) then c
        else if r.issued then Chip.groomedCopyback n (next c) p e
        else if c.zoneBusy slot z then c
        else if max rec_.fill rec_.slots ≤ r.strip ∨ t ≤ r.strip then
          -- the zone is whole on the drive: its relocation entries go, its record is the drive's
          let c := if r.strip < t then c.issue slot 5 (.zoneFinish z) 0 (.zoneWork z) none 0 else c
          let c := set c (fun r => { r.clearZone c.lap z t with strip := 0, issued := false, recs := r.recs.drop z }.touch c.lap [recKey z])
          let c := (c.updMember slot (fun m => { m with zones := m.zones.put z rec_ })).writeZoneRecord slot z
          Chip.groomedCopyback n c p e
        else if live then
          if (c.openEntryOf i).isSome then c
          else
            let col := x.columnOn e i.stripe
            let m := c.openEntry { Entry.reset with
              piste := p, stripe := i.stripe, kind := 5, first := 0, count := x.geom.b, stripMask := 2 ^ col, degraded := true,
              change := [{ granule := 2 ^ 64, oldEntry := e, newEntry := mapEntry e z (r.strip * x.geom.b), superseded := true }] }
            match m.2 with
            | none => m.1
            | some s => ((set m.1 (fun r => { r with issued := true })).rebuilt x.geom.b).startGather (.entry s) i 0 x.geom.b [col] 5
        else Chip.groomedCopyback n (next (c.fillDead p e slot z (r.strip * x.geom.b))) p e
    | _, _ => c

/-! ### Resync (R150) -/

/-- Change the open log of a member. -/
def Chip.onLog (c : Chip) (slot : Nat) (f : DirtyLog → DirtyLog) : Chip :=
  { c with logs := c.logs.map (fun l => if l.open_ ∧ l.slot = slot then f l else l) }

/-- Rebuild a logged row onto the drive itself. -/
def Chip.resyncRow (c : Chip) (p row slot : Nat) : Chip × Bool :=
  let cols := fun (x : Piste) (i : StripeId) => (List.range ((x.geometry i).k + 2)).filter (fun col =>
    match c.stripHome i col with
    | some s => decide (s.slot = slot) && c.ownNode s.node
    | none => false)
  let r := c.openRow p row cols (fun x i => x.replFor i)
  (r.1, r.2.1)

/-- Write a dead strip's place in a zone that is written anew, with the zone-strip parity that ends within it (R115, R150): Write Zeroes is
not for a resync (R27). -/
def Chip.zeroStrip (c : Chip) (p e slot zone offset : Nat) : Chip :=
  let x := c.piste p
  let mode := ((c.zonesOf x e).getD zone Zone.reset).parityMode
  let r := c.zoneStripWrite p e slot zone offset (List.replicate x.geom.b zeroBlock)
  r.1.issueWrite slot 5 true (c.zoneBlock slot zone mode offset) r.2 true .none

/-- Drive the resync of a member: the first region of its log, row by row or strip by strip. [DEDUCED, notes/assumptions/38.md] -/
def Chip.resync : Nat → Chip → Nat → Chip
  | 0, c, _ => c
  | n + 1, c, slot =>
    match c.logs.find? (fun l => l.open_ && decide (l.slot = slot)) with
    | none => c
    | some l =>
      let next := fun (c : Chip) => c.onLog slot (fun l => { l with pos := l.pos + 1, issued := false })
      if !c.rateLeft then c
      else match l.rows, l.zones with
        | (p, blk) :: rest, _ =>
          let x := c.piste p
          let row := blk * 4096 + l.pos
          if 4096 ≤ l.pos ∨ x.passRows ≤ row ∨ x.state = .absent then
            Chip.resync n (c.onLog slot (fun l => { l with rows := rest, pos := 0, issued := false })) slot
          else if l.issued then
            if c.rebuildOpen p (fun s => decide (x.geom.rowOf s = row) || decide (x.fall.new.rowOf s = row)) then c
            else Chip.resync n (next c) slot
          else
            let r := c.resyncRow p row slot
            if r.2 then Chip.resync n (r.1.onLog slot (fun l => { l with issued := true })) slot else r.1
        | [], z :: rest =>
          let rec_ := (c.member slot).zone z
          let p := rec_.piste
          let x := c.piste p
          let e := (c.indicesOf x slot).headD 0
          let fresh := decide (l.pos = 0) && !l.issued
          let c := if fresh then c.issue slot 5 (.zoneReset z) 0 .none none 0 else c
          if l.pos ≠ 0 ∧ !l.issued ∧ c.zoneBusy slot z then c
          else if rec_.zstate = 0 ∨ rec_.zstate = 3 ∨ x.state = .absent ∨ rec_.fill ≤ l.pos then
            Chip.resync n (c.onLog slot (fun l => { l with zones := rest, pos := 0, issued := false })) slot
          else
            match x.stripeAt e rec_.firstSerial l.pos with
            | some q =>
              let i : StripeId := ⟨p, false, 0, q⟩
              if l.issued then
                if c.rebuildOpen p (fun s => decide (s = q)) then c else Chip.resync n (next c) slot
              else if x.liveStripe q then
                let col := x.columnOn e q
                if (c.openEntryOf i).isSome then c
                else
                  let m := c.openEntry { Entry.reset with
                    piste := p, stripe := q, kind := 5, first := 0, count := x.geom.b, stripMask := 2 ^ col, degraded := true }
                  match m.2 with
                  | none => m.1
                  | some s => ((m.1.onLog slot (fun l => { l with issued := true })).rebuilt x.geom.b).startGather (.entry s) i 0 x.geom.b [col] 5
              else Chip.resync n (next (c.zeroStrip p e slot z (l.pos * x.geom.b))) slot
            | none => Chip.resync n (next (c.zeroStrip p e slot z (l.pos * x.geom.b))) slot
        | [], [] => c

/-! ### All passes -/

/-- Passes run while the unit may write and its replay has ended. [DESIGN CHOICE, notes/assumptions/39.md] -/
def Chip.passesRun (c : Chip) : Bool := c.mayWrite && !c.faults.safe && c.journal.lanesAllowed && decide (c.shareSet 5 ≠ 0)

/-- Drive every pass of every piste, and every resync. [DESIGN CHOICE, notes/assumptions/39.md] -/
def Chip.drivePasses (c : Chip) : Chip :=
  if !c.passesRun then c
  else
    let c := c.each (c.livePistes.map Prod.fst) (fun c p =>
      let x := c.piste p
      if x.groomed then
        let items := x.rebuild.items.filter (fun t => !c.itemPassed x t)
        let c := if items.isEmpty then
            c.each (x.rebuild.slots.filter (fun r => decide (r.state = 1) || decide (r.state = 2)))
              (fun c r => Chip.groomedPass 64 c p r.index)
          else Chip.groomedItem 64 c p (items.headD default)
        c.each (x.rebuild.slots.filter (fun r => decide (r.state = 4))) (fun c r => Chip.groomedCopyback 64 c p r.index)
      else
        let c := Chip.fixedPass 64 c p
        c.each ((c.piste p).rebuild.slots.filter (fun r => decide (r.state = 4))) (fun c r => Chip.fixedCopyback 64 c p r.index))
    c.each ((c.members.filter (fun m => m.2.mstate = .resyncing)).map Prod.fst) (fun c s => Chip.resync 64 c s)

/-! ### Repairs (R144, R156, R167) -/

/-- Consecutive blocks from the lowest of a map on. -/
def firstRun : KMap Bytes → List (Nat × Bytes)
  | [] => []
  | (a, b) :: r => (a, b) :: (r.foldl (fun (s : List (Nat × Bytes)) t =>
      if t.1 = a + 1 + s.length then s ++ [t] else s) [])

/-- Open the entry that writes solved blocks back in place; the rest of the blocks wait for it, and all of them for the stripe's open entry
or for a journal slot. -/
def Chip.openRepair (c : Chip) (r : Repair) : Chip :=
  let i : StripeId := ⟨r.piste, r.newGeom, 0, r.stripe⟩
  let wait := fun (c : Chip) (r : Repair) => c.onJournal (fun j => { j with repairs := j.repairs ++ [r] })
  match firstRun r.blocks with
  | [] => c
  | run =>
    match c.openEntryOf i with
    | some (_, e) => wait c { r with generation := e.generation }
    | none =>
      let n := c.openEntry { Entry.reset with
        piste := r.piste, newGeom := r.newGeom, stripe := r.stripe, kind := 5, first := (run.map Prod.fst).headD 0, count := run.length,
        stripMask := 2 ^ r.col, oldCols := [(r.col, run.map Prod.snd)], spanning := (c.piste r.piste).spanning }
      match n.2 with
      | none => wait n.1 { r with generation := 0 }
      | some slot =>
        let rest := r.blocks.filter (fun b => decide (b.1 ∉ run.map Prod.fst))
        let c := (if r.afterError then n.1.bump 0x2C05 else n.1).entryWork slot
        if rest.isEmpty then c else wait c { r with blocks := rest, generation := (c.entry slot).generation }

/-- Repairs whose stripes have no open entry: they waited for a journal slot (R97, R144). -/
def Chip.retryRepairs (c : Chip) : Chip :=
  let free := c.journal.repairs.filter (fun r => (c.openEntryOf ⟨r.piste, r.newGeom, 0, r.stripe⟩).isNone)
  if free.isEmpty ∨ !c.mayWrite then c
  else
    let c := c.onJournal (fun j => { j with repairs := j.repairs.filter (fun r => decide (r ∉ free)) })
    c.each free Chip.openRepair

/-- Repairs that waited for an entry of their stripe (R144): what it wrote is left out. -/
def Chip.releaseRepairs (c : Chip) (e : Entry) : Chip :=
  let i := e.stripeId
  let mine := c.journal.repairs.filter (fun r => decide (r.piste = i.piste) && decide (r.stripe = i.stripe) &&
    decide (r.newGeom = i.newGeom) && decide (i.area = 0))
  let c := c.onJournal (fun j => { j with repairs := j.repairs.filter (fun r => decide (r ∉ mine)) })
  c.each mine (fun c r => c.openRepair { r with blocks := r.blocks.filter (fun b =>
    !(e.allMask.testBit r.col && decide (e.first ≤ b.1) && decide (b.1 < e.first + e.count))) })

/-- Strips solved after read errors: written back on a fixed piste, their zone marked on a groomed one (R116, R144). -/
def Chip.noteErrors (c : Chip) (g : Gather) : Chip :=
  let x := c.piste g.piste
  c.each g.errors (fun c col =>
    if x.groomed ∧ g.area = 0 then
      match c.stripHome g.stripeId col with
      | some s => c.updMember s.slot (fun m =>
          { m with zones := m.zones.upd (s.block / max 1 m.zsze) Zone.reset (fun z => { z with repaired := true }) })
      | none => c
    else if g.area ≠ 0 then c
    else match g.got.find col with
      | none => c
      | some d =>
        let blocks := (List.range d.length).foldl (fun m j => KMap.put m (g.first + j) (atD d j [])) []
        c.openRepair { piste := g.piste, newGeom := g.newGeom, stripe := g.stripe, generation := 0, col, blocks, afterError := true })

end Sys2Proof.Machine
end

