-- ==== Sys2Proof/Machine/Groom.lean ====
section
/-! DEFINITION. Grooming (R128 to R131), wear moves (R134), space states (R136), the census (R133), read-back verification
(R115) and GROOM_FORCE (R203, R204). -/

namespace Sys2Proof.Machine

/-! ### Marks and states -/

/-- Z_e: zones less OFFLINE ones. -/
def Chip.zonesUp (c : Chip) (x : Piste) (e : Nat) : Nat :=
  (c.zoneFigures x e).2.2 - countOf (c.zonesOf x e).vals (fun z => z.zstate = 3)

/-- A_e is below a mark in thousandths of Z_e. -/
def Chip.belowMark (c : Chip) (x : Piste) (e mark : Nat) : Bool := decide (c.generalFree x e * 1000 < mark * c.zonesUp x e)

def Piste.indices (x : Piste) : List Nat := List.range x.list.length

/-- The piste has received no host write for groom_idle_laps laps. -/
def Chip.groomIdle (c : Chip) (p : Nat) : Bool := decide ((c.piste p).lastHostWriteLap + c.val 0x2834 p ≤ c.lap)

/-- The groom ratio of a victim (R130): u/(1-u), capped; no ratio where u is 1 or 0. -/
def Chip.groomRatio (c : Chip) (z : Zone) : Nat × Nat :=
  let cap := c.val 0x2837
  if z.slots ≤ z.live then (0, 0)
  else if z.live * 1000 ≤ cap * (z.slots - z.live) then (z.live, z.slots - z.live) else (cap, 1000)

/-- Grooming state at a lap (Table 5.6); the allowance starts at k*S on entry to FOREGROUND (R130). -/
def Chip.groomLap (c : Chip) (p : Nat) : Chip :=
  let x := c.piste p
  if !x.groomed then c
  else if x.suspended then c.updPiste p (fun x => { x with groomState := 3 })
  else
    let low := x.indices.any (fun e => c.belowMark x e (c.val 0x2831))
    let high := x.indices.all (fun e => !c.belowMark x e (c.val 0x2832))
    let target := x.indices.all (fun e => !c.belowMark x e (c.val 0x2833))
    let next := if low then 2
      else if x.groomState = 2 ∧ !high then 2
      else if c.groomIdle p ∧ !target then 1
      else 0
    let c := if next = x.groomState then c else c.record (0x900 + 0x10 + next) (some p)
    -- a victim chosen in BACKGROUND has its ratio published on entry to FOREGROUND (R130)
    let rho := match x.victim with
      | some (e, z) => if next = 2 ∧ x.groomState ≠ 2 then c.groomRatio ((c.zonesOf x e).getD z Zone.reset) else (x.ratioNum, x.ratioDen)
      | none => (x.ratioNum, x.ratioDen)
    c.updPiste p (fun x => { x with
      groomState := next
      allowance := if next = 2 ∧ x.groomState ≠ 2 then ((x.geom.k * x.geom.b * 4096 : Nat) : Int) else x.allowance
      ratioNum := if next = 2 then rho.1 else 0
      ratioDen := if next = 2 then rho.2 else 0 })

/-- Space state at a lap (Table 5.8). -/
def Chip.spaceLap (c : Chip) (p : Nat) : Chip :=
  let x := c.piste p
  if !x.groomed then c
  else
    let whole := x.indices.all (fun e => decide (c.reserveOf x e ≤ c.emptyZones x e) && !c.belowMark x e (c.val 0x2832))
    let tight := decide (x.groomState = 2)
    let next := if x.space = 3 then (if c.spaceTest p x.granuleSlots then 2 else 3)
      else if x.space = 2 then (if whole then (if tight then 1 else 0) else 2)
      else if tight then 1 else 0
    let c := if next = x.space then c else c.record (0x900 + next) (some p)
    c.updPiste p (fun x => { x with space := next })

/-! ### Victims -/

/-- FULL DATA zones of a piste on an index that hold live granules. -/
def Chip.victimsOn (c : Chip) (p : Nat) (x : Piste) (e : Nat) : List (Nat × Zone) :=
  (c.zonesOf x e).filter (fun z => z.2.zstate = 2 && z.2.role = 0 && decide (z.2.piste = p) && decide (0 < z.2.live) && !z.2.working)

/-- a has a lower u than b, ties to the lower finish_lap. -/
def lowerU (a b : Zone) : Bool :=
  decide (a.live * b.slots < b.live * a.slots) || (decide (a.live * b.slots = b.live * a.slots) && decide (a.finishLap < b.finishLap))

/-- The zone with the lowest u; a zone with a repaired block first (R116). -/
def lowestU (l : List (Nat × Zone)) : Option (Nat × Zone) :=
  let rep := l.filter (fun z => z.2.repaired)
  (if rep.isEmpty then l else rep).foldl (fun a z => match a with
    | none => some z
    | some y => if lowerU z.2 y.2 then some z else some y) none

/-- The score of BACKGROUND as a fraction: (1 - u)(1 + a) / (1 + u). -/
def score (lap : Nat) (z : Zone) : Nat × Nat := ((z.slots - z.live) * (1 + (lap - z.finishLap)), z.slots + z.live)

/-- The zone with the highest score, over every index. -/
def Chip.bestScore (c : Chip) (p : Nat) (x : Piste) : Option (Nat × Nat × Zone) :=
  ((x.indices.map (fun e => (c.victimsOn p x e).map (fun z => (e, z.1, z.2)))).flatten).foldl
    (fun (a : Option (Nat × Nat × Zone)) z => match a with
      | none => some z
      | some y =>
        let s := score c.lap z.2.2
        let t := score c.lap y.2.2
        if z.2.2.repaired && !y.2.2.repaired then some z
        else if !z.2.2.repaired && y.2.2.repaired then some y
        else if t.1 * s.2 < s.1 * t.2 then some z else some y) none

/-- The victim a piste chooses now (Table 5.6, GROOM_FORCE). -/
def Chip.chooseVictim (c : Chip) (p : Nat) (x : Piste) : Option (Nat × Nat × Zone) :=
  let on := fun (e : Nat) => (lowestU (c.victimsOn p x e)).map (fun z => (e, z.1, z.2))
  let forced := ((x.forced.filter (fun f => !(c.handle f.1).cancelling)).map (fun f => x.indices.filter (fun e => decide (f.2.1 = 0xFF) || c.localSlot x e = some f.2.1))).flatten
  if x.groomState = 2 then
    match x.indices.find? (fun e => c.belowMark x e (c.val 0x2831) && (on e).isSome) with
    | some e => on e
    | none => (x.indices.find? (fun e => c.belowMark x e (c.val 0x2832) && (on e).isSome)).bind on
  else if !forced.isEmpty then (forced.find? (fun e => (on e).isSome)).bind on
  else if x.groomState = 1 then c.bestScore p x
  else none

/-- Live stripes with a strip in a zone, and their live granules (R128). -/
def Chip.stripesIn (c : Chip) (p e z : Nat) : List (Nat × List Nat) :=
  (c.piste p).held.filter (fun q => decide ((e, z) ∈ c.zonesHolding p q.1))

/-- Queue every live granule of the live stripes with a strip in a zone. -/
def Chip.queueZone (c : Chip) (p e z : Nat) : Chip := c.each (c.stripesIn p e z) (fun c q => c.queueCopies p q.1 q.2)

/-- GROOM_VICTIM: a victim is chosen and its live granules are queued to be copied. -/
def Chip.groomVictim (c : Chip) (p : Nat) : Chip :=
  let x := c.piste p
  if !x.groomed || x.suspended || !x.copyQueue.isEmpty || !c.mayWrite then c
  else match c.chooseVictim p x with
    | none => c
    | some (e, z, rec_) =>
      let r := c.groomRatio rec_
      ((c.queueZone p e z).updPiste p (fun x => { x with
        victim := some (e, z)
        ratioNum := if x.groomState = 2 then r.1 else 0
        ratioDen := if x.groomState = 2 then r.2 else 0 })).record 0x901 (some p)

def execGroomVictim (piste : Nat) (s : State) : Host.Outcome State Fault Refusal := s.effect (fun c => c.groomVictim piste)

/-! ### Copies -/

/-- Map pages a batch of copies will make dirty (R126). -/
def Chip.copyPages (c : Chip) (p : Nat) (l : List Nat) : Nat :=
  let x := c.piste p
  ((l.map (fun g => g / 512)).foldl addNew []).filter (fun g =>
    let m := x.pages.getD g MapPage.reset
    !m.dirty && !m.reserved) |>.length

/-- Granules still live in the stripe they are copied from (R128, R131). [DEDUCED, notes/assumptions/28.md] -/
def Chip.liveCopies (c : Chip) (p : Nat) (l : List Nat) : List Nat :=
  let x := c.piste p
  l.filter (fun g => match x.copyFrom.find g with
    | some q => decide (g ∈ x.held.getD q [])
    | none => !x.pageHere (g / 512) || mapped (x.mapOf g))

/-- Drive the copies of a piste (R131): granules are read, a stripe of them is appended; the gate's check first (R126). -/
def Chip.groomCopies (c : Chip) (p : Nat) : Chip :=
  let x := c.piste p
  if !x.groomed || x.suspended || x.copyQueue.isEmpty then c
  else
    let live := c.liveCopies p x.copyQueue
    let c := c.each (x.copyQueue.filter (fun g => decide (g ∉ live))) (fun c g => c.dropCopy p g)
    let batch := live.take x.granuleSlots
    if batch.isEmpty || !c.gatePasses (4096 * c.copyPages p batch) then c
    else
      let c := c.each batch (fun c g => c.readCopy p g 6)
      if batch.all (c.copyHere p) then
        let q := (c.piste p).nextQ
        let c := c.appendStripe p 4 batch
        if (c.piste p).nextQ = q then c
        else c.each batch (fun c g => c.dropCopy p g)
      else c

/-- A GROOM_COPY entry has committed: allowance and groomed bytes (R130, Table 5.10). [DEDUCED, notes/assumptions/28.md] -/
def Chip.copyCommitted (c : Chip) (e : Entry) : Chip :=
  let x := c.piste e.piste
  let bytes := e.change.length * x.gb * 4096
  let c := c.bump 0x2838 e.piste bytes
  if x.groomState = 2 ∧ x.ratioNum ≠ 0 then
    c.updPiste e.piste (fun x => { x with allowance := x.allowance + ((bytes * x.ratioDen / x.ratioNum : Nat) : Int) })
  else c

/-! ### Reclaiming zones (R128) -/

/-- A zone may be reset. -/
def Chip.reclaimable (c : Chip) (p e z : Nat) : Bool :=
  let x := c.piste p
  let r := (c.zonesOf x e).getD z Zone.reset
  decide (r.zstate = 2) && decide (r.role = 0) && decide (r.piste = p) && decide (r.live = 0) && !r.working && !x.suspended &&
    decide (r.kill ≤ c.mapCleanSeq)

/-- ZONE_RECLAIM: the zone of a member slot is reset, its companion blocks go, its victim is over. [DEDUCED, notes/assumptions/37.md] -/
def Chip.zoneReclaim (c : Chip) (slot z : Nat) : Chip :=
  c.each (c.holders slot) (fun c pe =>
    if c.reclaimable pe.1 pe.2 z then
      let c := ((c.releaseCompanions pe.1 slot z).resetZone pe.1 pe.2 z).resetCompanions pe.1
      c.updPiste pe.1 (fun x => { x with
        victim := if x.victim = some (pe.2, z) then none else x.victim
        forced := x.forced.map (fun f => if f.2.1 = slot ∨ f.2.1 = 0xFF then (f.1, f.2.1, f.2.2 - 1) else f) })
    else c)

def execZoneReclaim (slot zone : Nat) (s : State) : Host.Outcome State Fault Refusal := s.effect (fun c => c.zoneReclaim slot zone)

/-! ### Wear moves (R134) -/

/-- The spread of reset counts over zones that are not OFFLINE. -/
def Member.wearSpread (m : Member) : Nat :=
  let up := m.zones.vals.filter (fun z => z.zstate ≠ 3)
  let lo := if m.zones.length < m.zoneCount then 0 else minOf (up.map (fun z => z.resetCount)) 0
  maxOf (up.map (fun z => z.resetCount)) - lo

/-- The FULL DATA zone with the lowest reset_count, ties to the lowest finish_lap. -/
def Member.coldZone (m : Member) : Option (Nat × Zone) :=
  (m.zones.filter (fun z => z.2.zstate = 2 && z.2.role = 0 && !z.2.working)).foldl (fun (a : Option (Nat × Zone)) z => match a with
    | none => some z
    | some y => if z.2.resetCount < y.2.resetCount ∨ (z.2.resetCount = y.2.resetCount ∧ z.2.finishLap < y.2.finishLap)
      then some z else some y) none

/-- Queue what a wear move has still to copy; a census leaves it waiting. -/
def Chip.wearQueue (c : Chip) (slot z : Nat) : Chip :=
  let p := ((c.member slot).zone z).piste
  let e := (c.indicesOf (c.piste p) slot).headD 0
  if (c.piste p).suspended then c else c.queueZone p e z

/-- A member's wear moves (R134): they begin above the limit and continue until the spread is at most the limit less the hysteresis, one
at a time, while no piste of the member is in FOREGROUND; one that runs has its live granules queued again until none is left. -/
def Chip.wearStart (c : Chip) (slot : Nat) : Chip :=
  let m := c.member slot
  let level := if m.wearing then c.val 0x2841 - c.val 0x2842 else c.val 0x2841
  let on := decide (level < m.wearSpread)
  let c := c.updMember slot (fun m => { m with wearing := on })
  let fore := (c.holders slot).any (fun pe => decide ((c.piste pe.1).groomState = 2))
  match m.wearZone with
  | some z => if c.mayWrite then c.wearQueue slot z else c
  | none =>
    if !on ∨ fore ∨ !c.mayWrite then c
    else match m.coldZone with
      | none => c
      | some (z, _) => (c.updMember slot (fun m => { m with wearZone := some z })).wearQueue slot z

/-- A zone of a member has been reset: a wear move is complete, and goes on above the limit less the hysteresis. -/
def Chip.wearReset (c : Chip) (slot z : Nat) : Chip :=
  if (c.member slot).wearZone = some z then
    ((c.updMember slot (fun m => { m with wearZone := none })).bump 0x2855 slot).wearStart slot
  else c

/-- The lap's wear check. -/
def Chip.wearLap (c : Chip) : Chip := c.each c.members.keys (fun c s => c.wearStart s)

/-! ### Census (R133) -/

/-- Start a census: grooming is suspended, the figures are rebuilt. -/
def Chip.startCensus (c : Chip) (p : Nat) : Chip :=
  let x := c.piste p
  if !x.groomed then c
  else
    -- N(Z) follows from the strips a zone holds (R128); L(Z) is counted page by page
    let blank := fun (_ : Nat) (z : Zone) => if z.piste = p ∧ z.zstate ≠ 0 then
      { z with live := 0, slots := if z.role = 0 then z.fill * x.granuleSlots else 0, kill := 0 } else z
    let c := c.updPiste p (fun x => { x with
      suspended := true, groomState := 3, censusLeft := x.mapPages, held := [], victim := none, copyQueue := [], copyFrom := [], copyData := []
      liveCount := x.liveCount.mapVal (fun _ n => (0, n.2))
      companion := []
      rebuild := { x.rebuild with slots := x.rebuild.slots.map (fun r => { r with recs := r.recs.mapVal blank }) } })
    let c := c.each (c.localSlots x) (fun c s => c.updMember s (fun m => { m with zones := m.zones.mapVal blank }))
    -- strips on their way count as well
    c.each (c.journal.entries.vals.filter (fun t => decide (t.piste = p) && c.groomedEntry t && (t.kind = 3 || t.kind = 4 || t.kind = 6)))
      (fun c t =>
        let q := t.stripeId.stripe
        let y := c.piste p
        c.each ((bitsOf 32 t.stripMask).filter (fun col => !t.durableMask.testBit col)) (fun c col =>
          let e := atD (y.stripeIndices t.stripeId) col 0
          match c.stripZone p y e (y.serial e q) y.geom.b with
          | some (z, _) => c.setZoneOf p e z (fun r => { r with slots := r.slots + y.granuleSlots })
          | none => c))

/-- Count a page that is in the map cache. -/
def Chip.countPage (c : Chip) (p page : Nat) : Chip :=
  let x := c.piste p
  let g := x.pages.getD page MapPage.reset
  let c := c.updPiste p (fun x => { x with censusLeft := x.censusLeft - 1 })
  c.each g.entries (fun c t =>
    if mapped t.2 then
      match c.stripeOfEntry (c.piste p) t.2 with
      | some (q, _) => (c.changeLive p q true).holdGranule p q (page * 512 + t.1) true
      | none => c
    else c)

/-- Drive the census: every map page is read through the map cache, in order. -/
def Chip.censusStep : Nat → Chip → Nat → Chip
  | 0, c, _ => c
  | n + 1, c, p =>
    let x := c.piste p
    if !x.suspended ∨ x.censusLeft = 0 then c
    else
      let page := x.mapPages - x.censusLeft
      if x.pageHere page then Chip.censusStep n (c.countPage p page) p else c.fetchPage p page

/-- CENSUS_COMPLETE: kill of every zone is the seal number in force, and grooming resumes. -/
def Chip.censusComplete (c : Chip) (p : Nat) : Chip :=
  let x := c.piste p
  if !x.suspended ∨ x.censusLeft ≠ 0 then c
  else
    let set := fun (_ : Nat) (z : Zone) => if z.piste = p ∧ z.zstate ≠ 0 then { z with kill := c.journal.sealSeq } else z
    let c := c.updPiste p (fun x => { x with
      suspended := false, groomState := 0
      rebuild := { x.rebuild with slots := x.rebuild.slots.map (fun r => { r with recs := r.recs.mapVal set }) } })
    (c.each (c.localSlots x) (fun c s => c.updMember s (fun m => { m with zones := m.zones.mapVal set }))).record 0x902 (some p)

def execCensusComplete (piste : Nat) (s : State) : Host.Outcome State Fault Refusal := s.effect (fun c => c.censusComplete piste)

/-! ### Read-back verification (R115) -/

/-- The stash of a group's XOR between its two reads. -/
def verifyKey (slot zone group : Nat) : Nat := groupKey slot zone group + 2 ^ 60

/-- ZONE_VERIFY: every data block of a FULL OPEN_ONLY zone is read in the SWEEP class, group by group. -/
def Chip.zoneVerify (c : Chip) (slot z : Nat) : Chip :=
  let m := c.member slot
  let r := m.zone z
  let groups := r.fill * (c.piste r.piste).geom.b / 15
  let rest := r.fill * (c.piste r.piste).geom.b % 15
  if r.zstate ≠ 2 ∨ r.role ≠ 0 ∨ r.parityMode ≠ 1 ∨ r.verified ∨ r.verifyLeft ≠ 0 then c
  else if (c.piste r.piste).parityDue.any (fun d => decide (d.2.1 / 2 ^ 20 = slot * 2 ^ 24 + z)) then c   -- companion blocks still to come
  else if groups = 0 ∧ rest = 0 then
    ((c.updMember slot (fun m => { m with zones := m.zones.upd z Zone.reset (fun r => { r with verified := true }) })).releaseCompanions
      r.piste slot z).resetCompanions r.piste
  else
    let c := c.updMember slot (fun m => { m with zones := m.zones.upd z Zone.reset (fun r => { r with verifyLeft := groups + (if rest = 0 then 0 else 1) }) })
    let c := c.each (List.range groups) (fun c g => c.issueRead slot 7 true (z * m.zsze + 15 * g) 15 (.verify z g) none 0)
    -- the blocks after the last complete group are read as well (R115)
    if rest = 0 then c else c.issueRead slot 7 true (z * m.zsze + 15 * groups) rest (.verify z groups) none 0

def execZoneVerify (slot zone : Nat) (s : State) : Host.Outcome State Fault Refusal := s.effect (fun c => c.zoneVerify slot zone)

/-- A group has been checked: the zone passes when every group has. -/
def Chip.verifyGroup (c : Chip) (slot z : Nat) (good : Bool) : Chip :=
  let c := c.updMember slot (fun m => { m with zones := m.zones.upd z Zone.reset (fun r =>
    { r with verifyLeft := r.verifyLeft - 1, repaired := r.repaired || !good, verifyBad := r.verifyBad || !good }) })
  let r := (c.member slot).zone z
  if r.verifyLeft ≠ 0 then c
  else if r.verifyBad then c.bump 0x2861 slot
  else if r.repaired then c          -- its companion blocks are kept until it is reset (R116)
  else
    ((c.updMember slot (fun m => { m with zones := m.zones.upd z Zone.reset (fun r => { r with verified := true }) })).releaseCompanions
      r.piste slot z).resetCompanions r.piste

/-- Stripes that have a block of a group. -/
def Chip.groupStripes (c : Chip) (slot z group : Nat) : List Nat :=
  let r := (c.member slot).zone z
  let x := c.piste r.piste
  let e := (c.indicesOf x slot).headD 0
  let strips := (List.range 15).foldl (fun a j => addNew a ((15 * group + j) / max 1 x.geom.b)) []
  (strips.map (fun j => match x.stripeAt e r.firstSerial j with | some q => [q] | none => [])).flatten

/-- The stripes of a group are handed to the stripe check of R167. -/
def Chip.checkGroup (c : Chip) (slot z group : Nat) : Chip :=
  let p := ((c.member slot).zone z).piste
  let g := (c.piste p).geom
  c.each (c.groupStripes slot z group) (fun c q =>
    c.startGather (.check 4096) ⟨p, false, 0, q⟩ 0 g.b (List.range (g.k + 2)) 7)

/-- A verification read has ended. `2^20 + g` names the companion block of group g. -/
def Chip.verifyRead (c : Chip) (slot z g : Nat) (data : Option (List Bytes)) : Chip :=
  let p := ((c.member slot).zone z).piste
  match data with
  | none => (c.checkGroup slot z (g % 2 ^ 20)).verifyGroup slot z false
  | some l =>
    if g < 2 ^ 20 then
      let xor := l.foldl xorBytes []
      match (c.piste p).companion.find (groupKey slot z g) with
      | none => c.verifyGroup slot z true
      | some (cz, b) =>
        let c := c.updPiste p (fun x => { x with partial_ := x.partial_.put (verifyKey slot z g) xor })
        c.issueRead slot 7 true (cz * (c.member slot).zsze + b) 1 (.verify z (2 ^ 20 + g)) none 0
    else
      let g := g - 2 ^ 20
      let xor := (c.piste p).partial_.getD (verifyKey slot z g) []
      let c := c.updPiste p (fun x => { x with partial_ := x.partial_.drop (verifyKey slot z g) })
      if fit 4096 xor = fit 4096 (l.headD []) then c.verifyGroup slot z true
      else (c.checkGroup slot z g).verifyGroup slot z false

/-! ### GROOM_FORCE -/

/-- GROOM_FORCE_DONE: its zones are freed, or its members meet the high mark. [DEDUCED, notes/assumptions/37.md] -/
def Chip.groomForceDone (c : Chip) (handle : Nat) : Chip :=
  c.each c.livePistes (fun c px =>
    let x := px.2
    match x.forced.find? (fun f => decide (f.1 = handle)) with
    | none => c
    | some f =>
      let on := x.indices.filter (fun e => decide (f.2.1 = 0xFF) || c.localSlot x e = some f.2.1)
      let met := on.all (fun e => !c.belowMark x e (c.val 0x2832))
      let h := c.handle handle
      let drop := fun (c : Chip) => c.updPiste px.1 (fun x => { x with forced := x.forced.filter (fun g => decide (g.1 ≠ handle)) })
      -- cancelled (R204): the copies in flight have committed
      if h.cancelling then
        if c.journal.entries.any (fun t => decide (t.2.piste = px.1) && decide (t.2.kind = 4)) then c
        else (drop c).endHandle handle 3 0x0108 []
      else
      -- a count stands above 2^32; GROOM_FORCE without a count, above 2^40, runs to the high mark
      if (if f.2.2 < 2 ^ 33 then decide (f.2.2 ≤ 2 ^ 32) else met) then
        (drop c).endHandle handle 1 0 []
      else c)

def execGroomForceDone (handle : Nat) (s : State) : Host.Outcome State Fault Refusal := s.effect (fun c => c.groomForceDone handle)

/-- Drive grooming on every piste. -/
def Chip.driveGrooming (c : Chip) : Chip :=
  if !c.mayWrite || c.faults.safe || !c.journal.lanesAllowed then c
  else c.pumpParity.each (c.livePistes.map Prod.fst) (fun c p => (Chip.censusStep 16 c p).groomCopies p)

end Sys2Proof.Machine
end

