-- ==== Sys2Proof/Machine/Service.lean ====
section
/-! DEFINITION. What the ends of reads and writes lead to: gathers that are whole or lost, the stripe check and sweeps (R167 to
R169), reshape (R170 to R177), what a COMMITTED seal releases, member failure and containment (R145 to R150, R252), zone-strip
repair (R116) and the ends of member commands. -/

namespace Sys2Proof.Machine

/-! ### Stripe check (R167) -/

inductive CheckResult where
  | consistent
  | located (col : Nat) (data : List Bytes)
  | unlocated
deriving DecidableEq, Repr

/-- Every byte of some blocks is zero. -/
def allZero (l : List Bytes) : Bool := l.all (fun b => b.all (fun x => decide (x = 0)))

/-- Where Δp is not zero, Δq is g^x Δp; where it is zero, so is Δq. [DEDUCED, notes/assumptions/36.md] -/
def matchesAt (x : Nat) (p q : Bytes) : Bool :=
  (List.range (max p.length q.length)).all (fun i =>
    let a := byteAt p i
    let b := byteAt q i
    if a = 0 then decide (b = 0) else decide (b = xpow x a))

/-- Δq is zero wherever Δp is not. [DEDUCED, notes/assumptions/36.md] -/
def qQuiet (p q : Bytes) : Bool :=
  (List.range (max p.length q.length)).all (fun i => decide (byteAt p i = 0) || decide (byteAt q i = 0))

/-- The outcome of the check over the strips read. [DEDUCED, notes/assumptions/36.md] -/
def stripeCheck (k : Nat) (got : Columns) : CheckResult :=
  let d := (List.range k).map (fun i => got.getD i [])
  let p := got.getD k []
  let q := got.getD (k + 1) []
  let dp := xorBlocks p (parityP d)
  let dq := xorBlocks q (parityQ d)
  let both := (List.range (max dp.length dq.length)).map (fun j => (atD dp j [], atD dq j []))
  if allZero dp && allZero dq then .consistent
  else if allZero dp then .located (k + 1) (xorBlocks q dq)
  else if both.all (fun b => qQuiet b.1 b.2) then .located k (xorBlocks p dp)
  else match (List.range k).find? (fun x => both.all (fun b => matchesAt x b.1 b.2)) with
    | some x => .located x (xorBlocks (got.getD x []) dp)
    | none => .unlocated

/-! ### Sweeps (R168, R169) -/

def Chip.sweepOf (c : Chip) (h : Nat) : Option Sweep := c.cqi.sweeps.find? (fun s => decide (s.handle = h))
def Chip.updSweep (c : Chip) (h : Nat) (f : Sweep → Sweep) : Chip :=
  c.onCqi (fun k => { k with sweeps := k.sweeps.map (fun s => if s.handle = h then f s else s) })

/-- Where a sweep stands once it has visited a stripe: the next groomed stripe, or the first host block behind a fixed one. -/
def Chip.sweepAfter (c : Chip) (i : StripeId) : Nat :=
  let x := c.piste i.piste
  if x.groomed then i.stripe + 1 else (i.stripe + 1) * (x.geometry i).d

/-- LOST_ONLY visits only stripes with unknown strips (Table 6.6). -/
def Chip.sweepWants (c : Chip) (s : Sweep) (i : StripeId) : Bool :=
  !s.flags.testBit 2 || decide (0 < (c.unknownCols i).length)

/-- The next stripe with a host block at or behind b that a sweep visits; below a fall line it is one of the new geometry (R173). -/
def Chip.sweepFixed (c : Chip) (s : Sweep) : Nat → Nat → Option StripeId
  | 0, _ => none
  | n + 1, b =>
    if s.last ≤ b then none
    else
      let i := ((c.piste s.piste).locate s.piste b).1
      if c.sweepWants s i then some i else c.sweepFixed s n (c.sweepAfter i)

/-- The next stripe a sweep visits, in ascending order: on a groomed piste those the map names for the range, each once. -/
def Chip.sweepNext (c : Chip) (s : Sweep) : Option StripeId :=
  let x := c.piste s.piste
  if x.groomed then
    (x.held.find? (fun q => decide (s.stripe ≤ q.1) && c.sweepWants s ⟨s.piste, false, 0, q.1⟩ &&
      q.2.any (fun g => decide (g * x.gb < s.last) && decide (s.first < (g + 1) * x.gb)))).map (fun q => ⟨s.piste, false, 0, q.1⟩)
  else c.sweepFixed s (s.last + 1) (max s.first s.stripe)

/-- A sweep has no stripe left, is cancelled, or its piste has left ONLINE. -/
def Chip.sweepOver (c : Chip) (s : Sweep) : Bool :=
  (c.sweepNext s).isNone || s.cancelled || decide ((c.piste s.piste).state ≠ .online)

/-- Drive a sweep: one stripe at a time; one with an open entry waits; a lost one is counted. -/
def Chip.sweepStep : Nat → Chip → Nat → Chip
  | 0, c, _ => c
  | n + 1, c, h =>
    match c.sweepOf h with
    | none => c
    | some s =>
      if c.sweepOver s || c.gathers.vals.any (fun g => decide (g.why = .check h)) then c
      else match c.sweepNext s with
        | none => c
        | some i =>
          let g := (c.piste s.piste).geometry i
          if (c.openEntryOf i).isSome then c
          else if c.isLost i then
            let lost := g.b * ((c.lostCols i).filter (fun col => decide (col < g.k))).length
            let c := c.meetLost i
            Chip.sweepStep n (c.updSweep h (fun s => { s with stripe := c.sweepAfter i, checked := s.checked + 1, lost := s.lost + lost })) h
          else c.startGather (.check h) i 0 g.b (List.range (g.k + 2)) 7

/-- A stripe read for a check is at hand (R167). -/
def Chip.checkGathered (c : Chip) (h : Nat) (g : Gather) : Chip :=
  let i := g.stripeId
  let x := c.piste i.piste
  let geo := x.geometry i
  let s := (c.sweepOf h).getD default
  let inSweep := decide (h ≠ 4096)
  let check := !inSweep || s.flags.testBit 0
  let repair := !inSweep || s.flags.testBit 1
  let solved := g.errors.length * g.count
  let r := if check && g.unknown.isEmpty then stripeCheck geo.k g.got else .consistent
  let c := c.updSweep h (fun s => { s with
    stripe := c.sweepAfter i, checked := s.checked + 1, rebuilt := s.rebuilt + solved
    blocksRead := s.blocksRead + (geo.k + 2 - g.unknown.length) * g.count })
  let c := if repair then c.noteErrors g else c
  match r with
  | .consistent => c
  | .unlocated => ((c.bump 0x2C62).updSweep h (fun s => { s with unlocated := s.unlocated + 1 })).record 0xA03 (some i.piste)
  | .located col d =>
    let old := g.got.getD col []
    let wrong := (List.range d.length).filter (fun j => !allZero [xorBytes (atD old j []) (atD d j [])])
    let c := (c.updSweep h (fun s => { s with corrected := s.corrected + wrong.length })).record 0xA04 (some i.piste)
    if !repair then c
    else if x.groomed then
      -- the granules are appended again from the corrected strips
      let l := x.held.getD i.stripe []
      let cols := g.got.put col d
      let c := c.each l (fun c gno => match c.stripeOfEntry x (x.mapOf gno) with
        | some (q, cl) => if q = i.stripe then
            c.copyArrived i.piste gno (x.mapOf gno) (((cols.getD cl []).drop (mapOffset (x.mapOf gno) % geo.b)).take x.gb) else c
        | none => c)
      c.queueCopies i.piste i.stripe l
    else c.openRepair { piste := i.piste, newGeom := i.newGeom, stripe := i.stripe, generation := 0, col, afterError := false
                        blocks := wrong.foldl (fun m j => KMap.put m (g.first + j) (atD d j [])) [] }

/-- The summary of a sweep (Table 6.7). -/
def Sweep.summary (s : Sweep) (reason stride : Nat) : Bytes :=
  leBytes 8 s.blocksRead ++ leBytes 8 s.corrected ++ leBytes 8 s.rebuilt ++ leBytes 8 s.lost ++ leBytes 8 s.checked ++
  leBytes 4 s.unlocated ++ leBytes 4 reason ++ leBytes 8 (stride - s.startStride) ++ leBytes 8 stride

/-- SWEEP_END: the summary goes out with the handle's end (R169). Of a sweep whose piste has left ONLINE the spec gives the end reason, not the
handle's end state: the model ends it DONE, with status 0. [DESIGN CHOICE, notes/assumptions/106.md] -/
def Chip.sweepEnd (c : Chip) (h : Nat) : Chip :=
  match c.sweepOf h with
  | none => c
  | some s =>
    if !c.sweepOver s || c.gathers.vals.any (fun g => decide (g.why = .check h)) then c
    else
      let reason := if s.cancelled then 1 else if (c.sweepNext s).isNone then 0 else 2
      let b := s.summary reason c.clk.stride
      let c := c.onCqi (fun k => { k with sweeps := k.sweeps.filter (fun y => decide (y.handle ≠ h)), lastSummary := b })
      if s.cancelled then c.endHandle h 3 0x0108 b else c.endHandle h 1 0 b

def execSweepEnd (handle : Nat) (s : State) : Host.Outcome State Fault Refusal := s.effect (fun c => c.sweepEnd handle)

/-! ### Entries whose reads have ended -/

/-- The versions an entry froze wait for destage again. -/
def Chip.thaw (c : Chip) (slot : Nat) : Chip :=
  let e := c.entry slot
  let back := fun (v : Version) => if v.entry = slot + 1 then
    { v with entry := 0, state := if v.state = .frozen then .dirty else v.state } else v
  c.each e.blocks (fun c b => c.setVersions e.piste b ((c.versions e.piste b).map back))

/-- Drop an entry that has written nothing: its blocks wait for destage again (R132, R165). -/
def Chip.abandonEntry (c : Chip) (slot : Nat) : Chip :=
  let c := c.thaw slot
  let c := { c with gathers := c.gathers.filter (fun g => decide (g.2.why ≠ GatherFor.entry slot)) }
  let c := c.onJournal (fun j => { j with entries := j.entries.drop slot, sealSeq := j.sealSeq + 1 })
  c.releaseHedges slot

/-- A fixed reshape's old blocks have been read: they take their places in the new stripe (R173). [DEDUCED, notes/assumptions/38.md] -/
def Chip.reshapeGathered (c : Chip) (slot : Nat) (g : Gather) : Chip :=
  let e := c.entry slot
  let x := c.piste e.piste
  let col := g.want.headD 0
  let d := g.got.getD col []
  let c := c.updEntry slot (fun e => { e with overlay := (List.range d.length).foldl (fun m j =>
    let l := x.fall.new.locate (x.geom.hostBlock g.stripe col (g.first + j))
    KMap.put m (l.2.1 * 2 ^ 16 + l.2.2) (atD d j zeroBlock)) e.overlay })
  if c.gathers.vals.any (fun h => decide (h.why = .entry slot)) then c else c.entryWork slot

/-- What an entry needed has been read or solved; a repair of what was unreadable joins a REBUILD entry (R156), and counts as one (R144). What
was read for a part of the entry's range only joins what the entry lays over it. -/
def Chip.entryGathered (c : Chip) (slot : Nat) (g : Gather) : Chip :=
  let e := c.entry slot
  if e.state = .free then c
  else if e.kind = 6 ∧ e.newGeom then c.reshapeGathered slot g
  else
    let extra := if e.kind = 5 ∧ !c.groomedEntry e then g.errors.filter (fun col => (g.got.find col).isSome) else []
    let c := c.bump 0x2C05 0 extra.length
    let part := decide (g.first ≠ e.first ∨ g.count ≠ e.count)
    let c := c.updEntry slot (fun e => { e with
      oldCols := if part then e.oldCols else g.got.foldl (fun m t => KMap.put m t.1 t.2) e.oldCols
      overlay := if part then g.want.foldl (fun m col => (List.range g.count).foldl (fun m j =>
          KMap.put m (col * 2 ^ 16 + g.first + j) (atD (g.got.getD col []) j zeroBlock)) m) e.overlay else e.overlay
      stripMask := extra.foldl (fun m col => m ||| 2 ^ col) e.stripMask
      touched := e.touched || !extra.isEmpty })
    if c.gathers.vals.any (fun h => decide (h.why = .entry slot) && !h.want.isEmpty) then c else c.entryWork slot

/-- An entry cannot be read: more than two columns are unknown (R163, R165). -/
def Chip.entryLost (c : Chip) (slot : Nat) (g : Gather) (cause : Nat) : Chip :=
  let e := c.entry slot
  if e.kind = 6 ∧ e.newGeom then
    -- the blocks stay lost under the new numbering (R177)
    let x := c.piste e.piste
    let col := g.want.headD 0
    let at_ := x.fall.new.locate (x.geom.hostBlock g.stripe col g.first)
    let c := c.enterLost e.stripeId cause at_.2.2 g.count [at_.2.1] 1
    if c.gathers.vals.any (fun h => decide (h.why = .entry slot)) then c else c.entryWork slot
  else
    let c := c.enterLost g.stripeId cause g.first g.count g.unknown (if e.kind = 5 then 1 else 1)
    c.abandonEntry slot

/-! ### An entry under replay whose parity has been read (R104) -/

/-- The cache data of an entry is complete: every block it froze is in the cache (R104). -/
def Chip.cacheComplete (c : Chip) (slot : Nat) (e : Entry) : Bool :=
  !e.blocks.isEmpty && e.blocks.all (fun b => (c.versions e.piste b).any (fun v => decide (v.entry = slot + 1)))

/-- The data an entry froze, by column and block, read from the cache. -/
def Chip.overlayOf (c : Chip) (slot : Nat) (e : Entry) : KMap Bytes :=
  let x := c.piste e.piste
  let i := e.stripeId
  let g := x.geometry i
  e.blocks.foldl (fun m b => match (c.versions e.piste b).find? (fun v => decide (v.entry = slot + 1)) with
    | some v =>
      let l := g.locate b
      KMap.put m (l.2.1 * 2 ^ 16 + l.2.2) v.out
    | none => m) []

/-- Seal an entry COMMITTED at once (commit(x) of R104): its blocks become CLEAN and its slot free. -/
def Chip.replayCommit (c : Chip) (slot : Nat) (withRecord : Bool) : Chip :=
  let e := c.entry slot
  let c := if c.groomedEntry e ∧ withRecord then
      (if e.kind = 5 then c.applyReloc e.piste e.change else c.applyChange e.piste (decide (e.kind ≠ 3)) e.change)
    else c
  let c := c.onJournal (fun j => { j with sealSeq := j.sealSeq + 1 })
  let c := c.commitSealed slot
  c.onJournal (fun j => { j with entries := j.entries.drop slot })

/-- Hand an entry's range to the lost-stripe table (R104): its cache data returns to DIRTY, held. -/
def Chip.replayLost (c : Chip) (slot : Nat) (bad : List Nat) : Chip :=
  let e := c.entry slot
  let i := e.stripeId
  let c := (c.bump 0x2464).enterLost i 2 e.first e.count bad (if e.acked then 5 else 0)
  (c.abandonEntry slot).holdLost i

/-- An entry under replay has the data it is completed with: from the cache, or from the media (0x2462, 0x2463).
[DEDUCED, notes/assumptions/81.md] -/
def Chip.countReplayed (c : Chip) (slot : Nat) : Chip := c.bump (if (c.entry slot).overlay.isEmpty then 0x2463 else 0x2462)

/-- Runs of host blocks of an entry's data columns over its range: first block and count of each column. -/
def Chip.entryRuns (c : Chip) (e : Entry) : List (Nat × Nat) :=
  let g := c.entryGeom e
  ((bitsOf 32 e.allMask).filter (fun col => decide (col < g.k))).map (fun col => (g.hostBlock (areaOf e.stripe).2 col e.first, e.count))

/-- An acknowledged entry's data is not complete: its host blocks become lost ranges, each told by a REPLAY_RANGE error (R104, Table 7.14). -/
def Chip.replayRange (c : Chip) (e : Entry) : Chip :=
  c.each (c.entryRuns e) (fun c r =>
    let c := c.addLostRange e.piste r.1 r.2
    c.deferError e.piste 5 r.1 r.2 (c.lostSource e.piste r.1))

/-- Rewrite an OPEN or unproved DATA_DURABLE entry (R104): the data columns that the cache does not cover are read, P and Q are
computed from all of them, and P and Q, with the data where it comes from the cache, are written again. The entry keeps its recorded state and
the columns it names, so that a cut leaves it where it was or later (R93, R105); FROZEN data that is not complete waits for destage again.
[DEDUCED, notes/assumptions/81.md] -/
def Chip.replayRewrite (c : Chip) (slot : Nat) (lostRange : Bool) : Chip :=
  let e := c.entry slot
  let i := e.stripeId
  let g := c.entryGeom e
  let inArea := decide ((areaOf e.stripe).1 ≠ 0)
  let whole := c.cacheComplete slot e || inArea && !e.overlay.isEmpty
  let laid := if inArea then e.overlay else if whole then c.overlayOf slot e else []
  let covered := fun (col : Nat) => (List.range e.count).all (fun j => (laid.find (col * 2 ^ 16 + e.first + j)).isSome)
  let ask := (List.range g.k).filter (fun col => !covered col)
  let bad := ask.filter (fun col => (c.known i col).isNone)
  let c := if !whole ∧ e.acked ∧ lostRange then c.replayRange e else c
  if !bad.isEmpty then c.replayLost slot bad
  else
    let c := if whole then c else c.thaw slot
    let up := fun (col : Nat) => (c.known i col).isSome
    let own := fun (col : Nat) => c.ownNode (e.memberSet.getD col (0, c.straps.nodeId)).2
    let par := [g.k, g.k + 1].filter up
    let rewritten := ((bitsOf 32 e.allMask).filter (fun col => whole && decide (col < g.k) && up col)) ++ par
    let strip := ((bitsOf 32 e.stripMask).filter up).foldl addNew (par.filter own)
    let kept := strip.filter (fun col => decide (col ∉ rewritten))
    let c := c.setEntry slot { e with
      sealed_ := if e.sealed_ = .free then .free else e.state, stripMask := maskOf strip
      farMask := maskOf (rewritten.filter (fun col => !own col)), again := maskOf (rewritten.filter own)
      durableMask := maskOf ((bitsOf 32 e.durableMask).foldl addNew kept), remade := true
      round := { CommitRound.reset with sinceLap := c.lap, rewrite := e.spanning }, computed := false, columns := []
      issued := [], delta := false, overlay := laid, oldCols := [], laneDurable := true, inherited := true, openMirror := 0
      touched := true, blocks := if whole then e.blocks else [], degraded := e.degraded || decide (par.length < 2) }
    let c := c.logOpened (c.entry slot)
    if ask.isEmpty then (c.countReplayed slot).entryWork slot else c.startGather (.entry slot) i e.first e.count ask 4

/-- P and Q of a DATA_DURABLE entry have been read from the members: proved, it is committed; else it is rewritten (R104). -/
def Chip.replayParity (c : Chip) (slot : Nat) (g : Gather) (lostRange : Bool) : Chip :=
  let e := c.entry slot
  let k := (c.entryGeom e).k
  let check := parityCheckOf e.stripMask k (g.got.getD k []) (g.got.getD (k + 1) [])
  if check = e.parityCheck then c.replayCommit slot true else c.replayRewrite slot lostRange

/-- A gather has ended. -/
def Chip.gatherEnd (r : Chip × GatherEnd) : Chip :=
  let c := r.1
  match r.2 with
  | .more => c
  | .done g =>
    let data := g.got.getD (g.want.headD 0) []
    match g.why with
    | .hostRead acc b => (c.noteErrors g).readArrived acc b data
    | .entry slot =>
      let c := if c.unproven g then c.countReplayed slot else c
      (if (c.entry slot).kind = 5 ∧ !c.groomedEntry (c.entry slot) then c else c.noteErrors g).entryGathered slot g
    | .replay slot => c.replayParity slot g (decide ((c.entry slot).kind ≤ 2))
    | .check h => c.checkGathered h g
    | .relocate slot => c.entryGathered slot g
    | .granule p gno => (c.noteErrors g).granuleArrived p gno data
    | .copy p gno v => (c.noteErrors g).copyArrived p gno v data
    | .mapPage p page => ((c.fillPage p page (data.headD zeroBlock)).pumpWrites).pumpHostReads
  | .cut g =>
    match g.why with
    | .hostRead acc _ => c.readCut acc
    | .mapPage p page => c.pageCut p page
    | _ => c
  | .lost g =>
    let cause := if g.errors.isEmpty then 0 else 1
    let i := g.stripeId
    let lost := fun (c : Chip) => c.enterLost i cause g.first g.count g.unknown 1
    match g.why with
    | .hostRead acc b => (lost c).readLost acc b g.count
    | .entry slot => if c.unproven g then c.replayLost slot g.unknown else c.entryLost slot g cause
    | .replay slot => c.replayRewrite slot (decide ((c.entry slot).kind ≤ 2))
    | .relocate slot => c.entryLost slot g cause
    | .check h => (lost c).updSweep h (fun s => { s with
        stripe := c.sweepAfter i, checked := s.checked + 1
        lost := s.lost + g.count * (g.unknown.filter (fun col => decide (col < ((c.piste i.piste).geometry i).k))).length })
    | .granule p gno => (lost c).granuleLost p gno
    | .copy p gno _ => (lost c).dropCopy p gno
    | .mapPage p page => ((((lost c).losePage p page).updPiste p (fun x =>
        { x with pages := x.pages.upd page MapPage.reset (fun m => { m with present := true }) })).pumpWrites).pumpHostReads

/-- Every gather looks again at what it has: columns of a unit that is back are asked for, one that can never be whole ends (R61,
R141). -/
def Chip.stepGathers (c : Chip) : Chip :=
  c.each c.gathers.keys (fun c id =>
    let c := match c.gather id with | some g => c.reviveGather g | none => c
    Chip.gatherEnd (c.gatherStep id))

/-! ### Reshape (R172 to R176) -/

/-- Stripes of the new geometry that a fixed reshape builds. -/
def FallLine.stripes (f : FallLine) : Nat := f.new.rows * f.new.m

/-- A reshape checkpoint (R172). -/
def Chip.checkpointReshape (c : Chip) (p : Nat) : Chip :=
  let c := (c.updPiste p (fun x => { x with fall := { x.fall with
    generation := x.fall.generation + 1, checkpointStride := c.clk.stride, saved := x.fall.position } })).pisteChange p
  c.mirrorItem (.record (.fallLine p (c.piste p).fall.bytes))

/-- Open the RESHAPE entry of the next stripe of a fixed piste (R173). [DEDUCED, notes/assumptions/38.md] -/
def Chip.reshapeFixed (c : Chip) (p : Nat) : Chip :=
  let x := c.piste p
  let f := x.fall
  let i : StripeId := ⟨p, true, 0, f.position⟩
  let lo := f.position * f.new.d
  let blocks := ((List.range f.new.d).map (fun j => lo + j)).filter (fun l => decide (l < x.geom.capacity))
  let olds := (blocks.map (fun l => (x.geom.locate l).1)).foldl addNew []
  let mine := c.journal.entries.any (fun t => decide (t.2.piste = p) && decide (t.2.kind = 6) && t.2.newGeom)
  if f.state ≠ 1 ∨ f.zeroLeft ≠ 0 ∨ f.stripes ≤ f.position ∨ mine then c
  else if f.position = 0 ∧ c.dir.durable < x.dirGen then c      -- the first checkpoint is not yet durable
  else if olds.any (fun s => (c.openEntryOf ⟨p, false, 0, s⟩).isSome) then c
  else
    let r := c.openEntry { Entry.reset with
      piste := p, newGeom := true, stripe := f.position, kind := 6, first := 0, count := f.new.b, spanning := x.spanning,
      stripMask := maskOf ((List.range (f.new.k + 2)).filter (fun col => (c.known i col).isSome)) }
    match r.2 with
    | none => r.1
    | some slot =>
      let c := r.1
      if blocks.isEmpty then c.entryWork slot
      else
        let runs := mergeRuns (blocks.map x.geom.locate)
        c.each runs (fun c t => c.startGather (.entry slot) ⟨p, false, 0, t.1⟩ t.2.2.1 t.2.2.2 [t.2.1] 5)

/-- Copy the live granules of old stripes of a groomed piste, in ascending stripe order (R176); a checkpoint every 64 of them (R172). -/
def Chip.reshapeGroomed (c : Chip) (p : Nat) : Chip :=
  let x := c.piste p
  let old := x.held.filter (fun q => decide (q.1 < x.fall.qSwitch))
  match old with
  | [] => c
  | (q, _) :: _ =>
    let c := c.updPiste p (fun x => { x with fall := { x.fall with position := q } })
    let c := if x.fall.saved + 64 ≤ q then c.checkpointReshape p else c
    let batch := ((old.map Prod.snd).flatten).take x.granuleSlots
    if x.fall.state ≠ 1 ∨ !c.gatePasses (4096 * c.copyPages p batch) then c
    else if c.journal.entries.any (fun t => decide (t.2.piste = p) && decide (t.2.kind = 6)) then c
    else
      let c := c.each batch (fun c g => c.readCopy p g 5)
      if batch.all (c.copyHere p) then c.appendStripe p 6 batch else c

/-- Drive every reshape. [DESIGN CHOICE, notes/assumptions/39.md] -/
def Chip.driveReshape (c : Chip) : Chip :=
  if !c.passesRun then c
  else c.each (c.livePistes.filter (fun p => decide (p.2.fall.state = 1))) (fun c p =>
    if p.2.groomed then c.reshapeGroomed p.1 else c.reshapeFixed p.1)

/-- The fall line has passed the last stripe (R175): FINISHING, and the directory is to receive the new geometry, base, rows and list. -/
def Chip.reshapePassed (c : Chip) (p : Nat) : Chip :=
  (c.updPiste p (fun x => { x with fall := { x.fall with state := 3, finish := c.dir.generation + 1 } })).pisteChange p

/-- RESHAPE_FINISH: once the directory has received the new geometry the old extent is released, the record is NONE and the handle ends
(R175); a groomed piste's old geometry is dropped when no old stripe is live (R176), which a census under way cannot tell yet. -/
def Chip.reshapeFinish (c : Chip) (p : Nat) : Chip :=
  let x := c.piste p
  let f := x.fall
  let unhandle := fun (c : Chip) => if x.handle = 0 then c else (c.updPiste p (fun x => { x with handle := 0 })).endHandle (x.handle - 1) 1 0 []
  if x.groomed then
    if f.state ≠ 1 ∨ x.suspended ∨ !c.mayWrite ∨ !c.journal.lanesAllowed ∨ x.held.any (fun q => decide (q.1 < f.qSwitch)) then c
    else unhandle ((c.updPiste p (fun x => { x with fall := FallLine.reset, serialBaseOld := [] })).pisteChange p)
  else if f.state ≠ 3 then c
  else if f.finish = 0 then c.reshapePassed p
  else if c.dir.durable < f.finish || c.journal.entries.any (fun t => decide (t.2.piste = p) && !t.2.newGeom) ||
      c.gathers.any (fun t => decide (t.2.piste = p) && !t.2.newGeom) then c
  else
    let c := c.updPiste p Piste.reshaped
    let c := c.onCache (fun k => { k with lostStripes := k.lostStripes.map (fun l => if l.piste = p then { l with newGeom := false } else l) })
    let c := c.onJournal (fun j => { j with
      entries := j.entries.mapVal (fun _ e => if e.piste = p then { e with newGeom := false } else e)
      repairs := j.repairs.map (fun r => if r.piste = p then { r with newGeom := false } else r) })
    unhandle { c with gathers := c.gathers.mapVal (fun _ g => if g.piste = p then { g with newGeom := false } else g) }

def execReshapeFinish (piste : Nat) (s : State) : Host.Outcome State Fault Refusal := s.effect (fun c => c.reshapeFinish piste)

/-- RESHAPE_RESUME (R177). -/
def Chip.reshapeResume (c : Chip) (p : Nat) : Chip :=
  let x := c.piste p
  let done := x.rebuild.slots.all (fun r => decide (r.state = 3)) &&
    (List.range x.list.length).all (fun e => match c.localSlot x e with
      | some s => decide ((c.member s).mstate ≠ .failed) || decide (e ∈ x.repl)
      | none => true)
  if x.fall.state = 2 ∧ done then c.updPiste p (fun x => { x with fall := { x.fall with state := 1 } }) else c

def execReshapeResume (piste : Nat) (s : State) : Host.Outcome State Fault Refusal := s.effect (fun c => c.reshapeResume piste)

/-! ### What a COMMITTED seal releases -/

/-- A lost stripe has been rewritten whole (R165): it leaves the table with at most two unknown strips, else its blocks on lost columns stay
DIRTY until a member returns. -/
def Chip.lostRewritten (c : Chip) (e : Entry) : Chip :=
  let i := e.stripeId
  match c.lostEntry i with
  | none => c
  | some l =>
    let cols := bitsOf 32 l.columns
    let g := (c.piste i.piste).geometry i
    if e.count ≠ g.b ∨ !(cols.all (fun col => e.overlay.any (fun t => decide (t.1 / 2 ^ 16 = col)))) then c
    else if (c.lostCols i).length ≤ 2 then c.leaveLost i
    else if (c.piste i.piste).groomed then c
    else
      let c := c.onCache (fun k => { k with lostStripes := k.lostStripes.map (fun y => if y.seq = l.seq then { y with wrote := e.allMask } else y) })
      c.each cols (fun c col => c.each (g.hostRange i.stripe col l.first l.count) (fun c b =>
        c.setVersions i.piste b ((c.versions i.piste b).map (fun v => if v.state = .clean then { v with state := .dirty } else v))))

/-- F has passed a stripe (R173): READs that wait for its blocks and have no read admitted are taken back, to be asked for again under the
new geometry. -/
def Chip.movePast (c : Chip) (p : Nat) : Chip :=
  let out := fun (g : Gather) => c.members.any (fun m => m.2.outstanding.any (fun k => match k.purpose with
    | .gather id _ => decide (id = g.id)
    | _ => false)) || c.ring.reads.any (fun r => decide (r.2.1 = g.id))
  let back := c.gathers.vals.filter (fun g => decide (g.piste = p) && c.movedGather g && !out g && (match g.why with
    | .hostRead _ _ => true
    | _ => false))
  let mine := fun (k : MCmd) => match k.purpose with
    | .gather id _ => back.any (fun g => decide (g.id = id))
    | _ => false
  if back.isEmpty then c
  else { c with
    gathers := c.gathers.filter (fun g => decide (g.2 ∉ back))
    members := c.members.mapVal (fun _ m => if m.queues.any (fun q => q.any mine) then
      { m with queues := m.queues.map (fun (q : List MCmd) => q.filter (fun k => !mine k)) } else m) }

/-- The hooks of an entry whose COMMITTED has just been sealed. -/
def Chip.entryCommitted (c : Chip) (e : Entry) : Chip :=
  let c := c.endThroughs
  let c := c.pagesWritten e
  let c := if e.kind = 4 ∧ c.groomedEntry e then c.copyCommitted e else c
  let c := if e.kind = 2 then c.lostRewritten e else c
  let c := if e.kind = 5 ∧ e.degraded then
      let n := (bitsOf 32 e.stripMask).length
      let c := c.updPiste e.piste (fun x => { x with
        rebuiltBytes := x.rebuiltBytes + n * e.count * 4096
        rebuild := { x.rebuild with sinceCheckpoint := x.rebuild.sinceCheckpoint + 1 } })
      if 64 ≤ (c.piste e.piste).rebuild.sinceCheckpoint then c.checkpointRebuild e.piste else c
    else c
  let c := if e.kind = 6 ∧ e.newGeom then
      let c := (c.updPiste e.piste (fun x => { x with fall := { x.fall with
        position := x.fall.position + 1, movedStride := c.clk.stride + 1 } })).movePast e.piste
      let f := (c.piste e.piste).fall
      if f.stripes ≤ f.position then c.reshapePassed e.piste
      else if f.position % 64 = 0 then c.checkpointReshape e.piste else c
    else c
  c.releaseRepairs e

/-! ### Zone-strip repair (R116) -/

/-- The parity block of a group, if it is available: its member block. -/
def Chip.groupParity (c : Chip) (slot z group : Nat) : Option Nat :=
  let m := c.member slot
  let r := m.zone z
  let b := (c.piste r.piste).geom.b
  if r.fill * b < 15 * (group + 1) then none
  else if r.parityMode = 0 then some (z * m.zsze + 16 * group + 15)
  else ((c.piste r.piste).companion.find (groupKey slot z group)).map (fun t => t.1 * m.zsze + t.2)

/-- The name of a group's parity block among a repair's parts. -/
def parityPart (group : Nat) : Nat := 2 ^ 40 + group

/-- The data offsets of a group (R114). -/
def groupOffsets (group : Nat) : List Nat := (List.range 15).map (fun j => 15 * group + j)

/-- Begin the repair of the unreadable blocks of a read from their groups (R116): of each its 14 neighbours and its parity are read, with
the rest of what was asked for; `none` where a group has no parity or a second failing block. -/
def Chip.startLocalRepair (c : Chip) (slot first count : Nat) (bad : List Nat) (why : LocalFor) : Option Chip :=
  let m := c.member slot
  let z := first / max 1 m.zsze
  let r := m.zone z
  let data := fun (phys : Nat) => if r.parityMode = 0 ∧ phys % 16 = 15 then none else some (dataOffset r.parityMode phys)
  let base := first % max 1 m.zsze
  let asked := (List.range count).filterMap (fun j => data (base + j))
  let offs := bad.map (fun j => data (base + j))
  let gone := offs.filterMap id
  let groups := gone.map (fun o => o / 15)
  let parity := groups.map (fun g => c.groupParity slot z g)
  if bad.isEmpty ∨ offs.any Option.isNone ∨ !groups.Nodup ∨ parity.any Option.isNone then none
  else
    let need := (asked.foldl addNew ((groups.map groupOffsets).flatten)).filter (fun o => decide (o ∉ gone))
    let id := c.sched.nextId
    let c := c.onSched (fun t => { t with nextId := id + 1 })
    let c := c.onJournal (fun j => { j with localRepairs := j.localRepairs ++
      [{ id, why, piste := r.piste, slot, zone := z, asked, bad := gone, left := need ++ groups.map parityPart, parts := [] }] })
    let c := c.each need (fun c o => c.issueRead slot 0 true (z * m.zsze + dataPos r.parityMode o) 1 (.localRepair id o) none 0)
    some (c.each (groups.zip (parity.filterMap (fun o => o))) (fun c t => c.issueRead slot 0 true t.2 1 (.localRepair id (parityPart t.1)) none 0))

/-- Answer a STRIP_READ whose member read has ended (R319): the blocks, or why there are none. -/
def Chip.answerStrip (c : Chip) (src tag : Nat) (ref : StripeRef) (blocks : Except Nat (List Bytes)) : Chip :=
  match blocks with
  | .ok l => c.emit (.stripe src 2 ref (leBytes 4 tag ++ l.flatten))
  | .error reason => c.emit (.stripe src 4 ref (leBytes 4 tag ++ leBytes 1 reason))

/-- A read stays unreadable: no group repair is possible, or one has failed (R116). -/
def Chip.localFailed (c : Chip) (slot z : Nat) (why : LocalFor) : Chip :=
  match why with
  | .gather id col => Chip.gatherEnd (c.gatherFail id col true false)
  | .verify g => c.verifyRead slot z g none
  | .remote src tag ref => c.answerStrip src tag ref (.error 2)

/-- What was asked for is at hand. -/
def Chip.localTake (c : Chip) (slot z : Nat) (why : LocalFor) (out : List Bytes) : Chip :=
  match why with
  | .gather id col => Chip.gatherEnd (c.gatherTake id col out)
  | .verify g => c.verifyRead slot z g (some out)
  | .remote src tag ref => c.answerStrip src tag ref (.ok out)

/-- A read of a local repair has ended: with every part at hand each bad block is the XOR of its group (R116). -/
def Chip.localRepairRead (c : Chip) (id part : Nat) (data : Option Bytes) : Chip :=
  match c.journal.localRepairs.find? (fun r => decide (r.id = id)) with
  | none => c
  | some r =>
    let gone := c.onJournal (fun j => { j with localRepairs := j.localRepairs.filter (fun y => decide (y.id ≠ id)) })
    match data with
    | none => gone.localFailed r.slot r.zone r.why
    | some d =>
      let r := { r with left := r.left.filter (fun o => decide (o ≠ part)), parts := r.parts.put part d }
      if r.left.isEmpty then
        let fixed := fun (o : Nat) => (((groupOffsets (o / 15)).filter (fun y => decide (y ≠ o))).map (fun y => r.parts.getD y [])).foldl
          xorBytes (r.parts.getD (parityPart (o / 15)) [])
        let parts := r.bad.foldl (fun m o => KMap.put m o (fixed o)) r.parts
        let c := (gone.updMember r.slot (fun m => { m with zones := m.zones.upd r.zone Zone.reset (fun z => { z with repaired := true }) })).bump
          0x2860 r.slot r.bad.length
        c.localTake r.slot r.zone r.why (r.asked.map (fun o => parts.getD o zeroBlock))
      else c.onJournal (fun j => { j with localRepairs := j.localRepairs.map (fun y => if y.id = id then r else y) })

/-- A read of zoned data has ended in a read error: it is rebuilt from the groups of its bad blocks, or it stays unreadable. -/
def Chip.readErrorEnded (c : Chip) (slot : Nat) (k : MCmd) (bad : List Nat) (why : LocalFor) : Chip :=
  let m := c.member slot
  match k.op with
  | .readBlocks true first count =>
    match c.startLocalRepair slot first count bad why with
    | some c => c
    | none => c.localFailed slot (first / max 1 m.zsze) why
  | _ => c.localFailed slot 0 why

/-! ### Ends of member commands -/

/-- What a flush has made durable on a drive (R426). -/
def Recorder.made (k : Recorder) (start : Nat) : Recorder :=
  { k with flushed := max k.flushed k.flushUpTo, logged := k.circ.filter (fun r => decide (r.seq ≤ k.flushUpTo))
           priorAreas := k.priorAreas.put start (k.permanent.filter (fun r => decide (r.seq ≤ k.flushUpTo))) }

/-- A recorder flush write has ended (R426): a drive whose every write succeeded holds the records; a flush that reached no drive
has failed. [DEDUCED, notes/assumptions/73.md] -/
def Chip.flushWriteEnded (c : Chip) (slot : Nat) (ok : Bool) : Chip :=
  if !(decide (slot ∈ c.recorder.flushOut)) then c
  else
    let c := c.onRec (fun k => { k with flushOut := k.flushOut.erase slot, flushBad := if ok then k.flushBad else addNew k.flushBad slot })
    let k := c.recorder
    let c := if slot ∉ k.flushOut ∧ slot ∉ k.flushBad then c.onRec (fun k => k.made (c.val 0x5006)) else c
    if k.flushOut.isEmpty ∧ c.recorder.flushed < k.flushUpTo then c.bump 0x5008 else c

/-- A copy of the directory is written (R68). -/
def Chip.directoryCopied (c : Chip) (g slot : Nat) (ok : Bool) : Chip :=
  if ok then { c with dir := { c.dir with copies := c.dir.copies.upd g [] (fun l => addNew l slot) } } else c

/-- A Write Zeroes of a creation or a reshape has ended (R64, R173). -/
def Chip.zeroed (c : Chip) (p : Nat) : Chip :=
  c.updPiste p (fun x => if x.state = .creating then { x with zeroLeft := x.zeroLeft - 1 }
    else { x with fall := { x.fall with zeroLeft := x.fall.zeroLeft - 1 } })

/-- A Write Zeroes has ended in failure (R64): on a member still in service it is issued again; of one that is contained or has failed the
rows are entered in its log, and the creation goes on without it. [DEDUCED, notes/assumptions/25.md] -/
def Chip.zeroFailed (c : Chip) (slot p : Nat) (k : MCmd) : Chip :=
  let m := c.member slot
  let x := c.piste p
  if m.mstate = .inService ∧ m.slot = .inUse then c.issue slot k.cls k.op k.bytes k.purpose none 0
  else
    let rows := if x.groomed then areaRows x.mapGeom x.mapPages else if x.fall.state ≠ 0 then x.fall.new.rows else x.geom.rows
    let regions := (List.range (ceilDiv rows 4096)).map (fun r => (p, r))
    let add := fun (l : DirtyLog) => if l.open_ ∧ l.slot = slot then
      { l with rows := regions.foldl (fun a r => if r ∈ a then a else a ++ [r]) l.rows } else l
    { c with logs := c.logs.map add }.zeroed p

/-- What the end of a member command leads to, by its purpose. `out` is what the drive answered; a command ended without result
has failed. -/
def Chip.purposeEnded (c : Chip) (slot : Nat) (k : MCmd) (out : MemberOutcome) : Chip :=
  let ok : Bool := match out with | .ok _ => true | _ => false
  let data := match out with | .ok l => l | _ => []
  match k.purpose with
  | .gather id col =>
    let late : Bool := match c.gather id with | some g => g.want.isEmpty | none => false
    let c := if late ∧ ok then c.updMember slot (fun m => { m with lateReads := m.lateReads + 1 }) else c
    match out with
    | .ok l => Chip.gatherEnd (c.gatherArrive id col l)
    | .failed => Chip.gatherEnd (c.gatherFail id col false false)
    | .readError bad =>
      if (c.gather id).isNone then c
      else if late then c.localFailed slot 0 (.gather id col)
      else c.readErrorEnded slot k bad (.gather id col)
  | .entryWrite e col => (c.columnEnded e col ok).pumpEntries
  | .lane lap => c.laneWriteEnded slot lap ok
  | .logWrite i => c.logWriteEnded i ok
  | .directory g => c.directoryCopied g slot ok
  | .zeroing p => if ok then c.zeroed p else c.zeroFailed slot p k
  | .zoneWork z =>
    match k.op with
    | .zoneReset _ =>
      if ok then
        let p := ((c.member slot).zone z).piste
        let c := (c.zoneWasReset slot z).wearReset slot z
        c.updPiste p (fun x => if x.state = .deleting then { x with releaseLeft := x.releaseLeft - 1 } else x)
      else c.updMember slot (fun m => { m with zones := m.zones.upd z Zone.reset (fun r => { r with working := false }) })
    | _ => c
  | .zoneRecord z =>
    (c.updMember slot (fun m => { m with zones := m.zones.upd z Zone.reset (fun r => { r with working := false }) })).pumpEntries
  | .verify z g =>
    match out with
    | .readError bad => if g < 2 ^ 20 then c.readErrorEnded slot k bad (.verify g) else c.verifyRead slot z g none
    | _ => c.verifyRead slot z g (if ok then some data else none)
  | .localRepair id part => c.localRepairRead id part (if ok then some (data.headD zeroBlock) else none)
  | .mapPage p page => if ok then c.fillPage p page (data.headD zeroBlock) else c
  | .remoteStrip src tag ref first count =>
    let i : StripeId := ⟨ref.piste, false, (areaOf ref.stripe).1, (areaOf ref.stripe).2⟩
    let col := (bitsOf 32 ref.columnMask).headD 0
    match out with
    | .ok l => c.answerStrip src tag ref (.ok (c.stripData ((c.stripHome i col).getD default) first count l))
    | .failed => c.answerStrip src tag ref (.error 1)
    | .readError bad => c.readErrorEnded slot k bad (.remote src tag ref)
  | .flushLog => c.flushWriteEnded slot ok
  | .label => c
  | .vault _ => c
  | .none => c

/-- End every queued command of a member without result, and, with `all`, those outstanding (R252); without it the Aborts that are
asked for stay (R245). [DEDUCED, notes/assumptions/40.md] -/
def Chip.cancelCommands (c : Chip) (slot : Nat) (all : Bool) : Chip :=
  let m := c.member slot
  let l := (if all then m.outstanding else []) ++ m.queues.flatten.filter (fun k => all || !k.isAbort)
  let c := c.setMember slot { m with queues := m.queues.map (fun q => q.filter (fun k => !all && k.isAbort)), outstanding := if all then [] else m.outstanding }
  c.each l (fun c k => c.purposeEnded slot k .failed)

/-! ### Member failure (R145 to R149) -/

/-- Open a dirty-region log for a member, if one of the four is free (R149). -/
def Chip.openLog (c : Chip) (slot : Nat) : Chip :=
  if c.logs.any (fun l => l.open_ && decide (l.slot = slot)) then
    -- a resync that was under way begins again at the log's first region
    { c with logs := c.logs.map (fun (l : DirtyLog) => if l.open_ ∧ l.slot = slot then { l with pos := 0, issued := false } else l) }
  else
    let fresh := { DirtyLog.reset with open_ := true, slot }
    match (List.range c.logs.length).find? (fun i => !((c.logs[i]?).getD DirtyLog.reset).open_) with
    | some i => { c with logs := setAt c.logs i fresh }
    | none => if c.logs.length < 4 then { c with logs := c.logs ++ [fresh] } else c

def Chip.closeLog (c : Chip) (slot : Nat) : Chip := c.onLog slot (fun _ => DirtyLog.reset)

/-- Slots of a member on every piste, changed. -/
def Chip.onMemberSlots (c : Chip) (slot : Nat) (f : RebuildSlot → RebuildSlot) : Chip :=
  c.each (c.holders slot) (fun c pe => c.onSlots pe.1 (fun r => if r.index = pe.2 then f r else r))

/-- The grace time of a member ends and rebuild begins on every piste that holds it, if the unit rebuilds by itself (R148). -/
def Chip.endGrace (c : Chip) (slot : Nat) (force : Bool) : Chip :=
  let c := (c.updMember slot (fun m => { m with graceOver := true })).closeLog slot
  if force || decide (c.val 0x2C13 = 1) then (c.startRebuild slot).1 else c

/-- A member fails (R145, R148): state, cause and STAMP, its log, its queued commands and its columns; a drain goes on as a
rebuild (R161), a copy-back starts its rows again, a reshape pauses (R177). [DEDUCED, notes/assumptions/40.md] -/
def Chip.failMember (c : Chip) (slot cause : Nat) : Chip :=
  let m := c.member slot
  if m.mstate = .failed then c
  else if m.mstate = .rebuilt then c.cancelCommands slot false    -- no piste uses its strips (Table 6.2)
  else
    let was := m.mstate
    let cause := if was = .draining then 4 else cause
    let inE := decide (was = .draining) || decide (was = .rebuilding) || decide (was = .rebuilt) || decide (was = .copyback)
    let c := c.setMember slot { m with
      mstate := if inE then .rebuilding else .failed
      cause, failNs := some c.clk.opNs, failCycles := c.clk.cycles, graceOver := inE }
    let c := c.onMemberSlots slot (fun r =>
      if was = .draining then { r with drain := false, recs := m.zones }
      else if r.state = 4 then
        { r with state := 2, start := r.copyMark, mark := 0, wrapped := true, issued := false, recs := m.zones }
      else r)
    let c := if inE then c else c.openLog slot
    let c := (c.dropMemberColumns slot).cancelCommands slot false
    let c := c.each (c.holders slot) (fun c pe => c.updPiste pe.1 (fun x =>
      if x.fall.state = 1 then { x with fall := { x.fall with state := 2 } } else x))
    let c := c.directoryChange.record (0x400 + cause) (some slot)
    if !inE ∧ c.val 0x2C12 = 0 then c.endGrace slot false else c

/-- A MEMBER event (Table 9.14). -/
def Chip.memberEvent (c : Chip) (slot code extra : Nat) : Chip :=
  (c.event 6 (slot + code * 2 ^ 8 + extra * 2 ^ 16)).record (0x440 + code) (some slot)

/-- A port enters containment (R252): nothing is issued, every command ends without result, a log is opened, and a removal
window ends (Table 9.12). [DEDUCED, notes/assumptions/40.md] -/
def Chip.contain (c : Chip) (slot cause : Nat) : Chip :=
  let m := c.member slot
  if m.slot = .contained then c
  else
    let c := (c.setMember slot { m with
      slot := .contained, prevSlot := m.slot, contCause := cause, contCount := m.contCount + 1, contNs := some c.clk.opNs,
      contAttempts := 0, linkUp := false, windowNs := none }).openLog slot
    let c := (c.dropMemberColumns slot).cancelCommands slot true
    c.memberEvent slot 7 cause

/-- Count a command of a member that ended in an error (R146), and fail the member at the limit. -/
def Chip.countError (c : Chip) (slot : Nat) : Chip :=
  let c := c.updMember slot (fun m => { m with bucket := min 65535 (m.bucket + 1) })
  if c.val 0x2C14 ≤ (c.member slot).bucket then c.failMember slot 3 else c

/-- A removal in its quiesce: once nothing is outstanding the shutdown notification goes out (R262). -/
def Chip.quiesceStep (c : Chip) (slot : Nat) : Chip :=
  let m := c.member slot
  if m.slot = .quiescing ∧ m.outstanding.isEmpty ∧ !m.shutting then
    (c.setMember slot { m with shutting := true, timerNs := c.clk.opNs }).emit (.memberCommand slot
      { id := 0, cls := 0, op := .shutdown, bytes := 0, deadline := none, admitted := c.clk.opNs, aborted := none, readSeq := 0,
        purpose := .none })
  else c

/-- MEMBER_COMMAND_COMPLETE. [DESIGN CHOICE, notes/assumptions/4.md] -/
def Chip.commandComplete (c : Chip) (slot id : Nat) (out : MemberOutcome) : Chip :=
  let m := c.member slot
  match m.outstanding.find? (fun k => decide (k.id = id)) with
  | none => c
  | some k =>
    if m.slot = .contained then c
    else
      let c := c.setMember slot { m with outstanding := m.outstanding.filter (fun y => decide (y.id ≠ id)), lastIoNs := c.clk.opNs
                                         queues := m.queues.map (fun q => q.filter (fun a => decide (a.op ≠ .nvmeAbort id))) }
      let c := c.purposeEnded slot k out
      -- an NVMe Abort that completes ends its command (R245)
      let c : Chip := match k.op with
        | .nvmeAbort t =>
          let m := c.member slot
          match m.outstanding.find? (fun y => decide (y.id = t)) with
          | some y => (c.setMember slot { m with outstanding := m.outstanding.filter (fun z => decide (z.id ≠ t)) }).purposeEnded slot y .failed
          | none => c
        | _ => c
      let c := c.quiesceStep slot
      match out with
      | .ok _ => c
      | _ => c.countError slot

def execMemberCommandComplete (slot id : Nat) (outcome : MemberOutcome) (s : State) : Host.Outcome State Fault Refusal :=
  s.effect (fun c => (c.commandComplete slot id outcome).pumpHost)

end Sys2Proof.Machine
end

