-- ==== Sys2Proof/Machine/Upkeep.lean ====
section
/-! DEFINITION. The events of the write path, of pistes, and of degraded service that come with time: admission at the gate and
the allowance (R81, R82, R130), write-back's return (R82, R102), piste states (R64 to R68), member states and rebuild slots
(R146 to R162), held blocks (R165), map write-back (R127). -/

namespace Sys2Proof.Machine

/-! ### The gate's queue (R81, R82, R130) -/

/-- Admit waiting writes, oldest first, while the check of R79 passes. -/
def Chip.pumpGate : Nat → Chip → Chip
  | 0, c => c
  | n + 1, c =>
    match c.gated with
    | [] => c
    | x :: _ => if c.gatePasses (c.gateNeed x) then Chip.pumpGate n (c.toAllowance x) else c

def execGateAdmit (s : State) : Host.Outcome State Fault Refusal := s.effect (fun c => Chip.pumpGate c.gated.length c)

/-- Admit writes that wait for allowance, oldest first (R130). -/
def Chip.pumpAllowance (c : Chip) (p : Nat) : Chip :=
  (c.cqi.cmds.filter (fun x => x.stage = .allowance && decide (x.piste = p))).foldl (fun (a : Chip × Bool) x =>
    if a.2 then a
    else if !a.1.allowanceApplies p then (a.1.admitWrite x, false)
    else if (x.growBytes : Int) ≤ (a.1.piste p).allowance then
      ((a.1.updPiste p (fun y => { y with allowance := y.allowance - x.growBytes })).admitWrite x, false)
    else (a.1, true)) (c, false) |>.1

def execAllowanceAdmit (piste : Nat) (s : State) : Host.Outcome State Fault Refusal := s.effect (fun c => c.pumpAllowance piste)

/-- A write has waited gate_wait_limit strides: its piste falls back to write-through, and with it every later write whose data is not yet
whole (R82). -/
def Chip.gateFallback (c : Chip) (p : Nat) : Chip :=
  let mine := c.gated.filter (fun x => decide (x.piste = p))
  match mine.find? (fun x => decide (c.val 0x2421 p ≤ x.waited)) with
  | none => c
  | some w =>
    let c := ((c.updPiste p (fun x => { x with fellBack := true, lowLaps := 0 })).bump 0x2422 p).record 0x910 (some p)
    let open_ := fun (y : Cmd) => y.stage = .fresh || y.stage = .waitOverlap || y.stage = .allowance || y.stage = .fetching
    let later := c.cqi.cmds.filter (fun y => y.isWrite && decide (y.piste = p) && !y.through && !y.dead && open_ y && accEarlier w.acc y.acc)
    let c := c.each later (fun c y => (c.releasePages y).putCmd { y with through := true, newBytes := 0 })
    c.each mine (fun c x => c.toAllowance { x with through := true })

def execGateWaitFallback (piste : Nat) (s : State) : Host.Outcome State Fault Refusal := s.effect (fun c => c.gateFallback piste)

/-- Dirty bytes are above the exit level of R82. -/
def Chip.aboveExit (c : Chip) : Bool := decide (c.cache.ceiling * c.val 0x2432 < c.dirtyBytes * 100)

/-- The lap's count of laps at or below the exit level (R82). -/
def Chip.exitLap (c : Chip) : Chip :=
  let above := c.aboveExit
  { c with pistes := c.pistes.mapVal (fun _ x =>
      { x with lowLaps := if x.lapHigh then 0 else x.lowLaps + 1, lapHigh := above }) }

/-- The stride's look at the exit level. -/
def Chip.exitStride (c : Chip) : Chip :=
  if c.aboveExit then { c with pistes := c.pistes.mapVal (fun _ x => { x with lapHigh := true }) } else c

/-- WRITE_BACK_RESUME: the piste returns to write-back at a lap boundary (R82). -/
def Chip.writeBackResume (c : Chip) (p : Nat) : Chip :=
  let x := c.piste p
  if c.atLap ∧ x.fellBack ∧ 4 ≤ x.lowLaps then c.updPiste p (fun x => { x with fellBack := false }) else c

def execWriteBackResume (piste : Nat) (s : State) : Host.Outcome State Fault Refusal := s.effect (fun c => c.writeBackResume piste)

/-- CACHE_MODE_WRITE_BACK: the change of cache_mode takes effect (R102). -/
def execCacheModeWriteBack (piste : Nat) (s : State) : Host.Outcome State Fault Refusal := s.effect (fun c => c.writeBackLap piste)

/-- PARTIAL_HOLD_EXPIRY: destage of the stripe begins (R85). -/
def execPartialHoldExpiry (piste stripe : Nat) (s : State) : Host.Outcome State Fault Refusal :=
  s.effect (fun c => c.partialHold piste stripe)

/-- MAP_WRITEBACK_DUE: the page is written back (R127). A page number from 2^40 on names a page of a relocation area: 2^40 times one
more than the slot, and the page. [DESIGN CHOICE, notes/assumptions/104.md] -/
def Chip.mapWriteback (c : Chip) (p page : Nat) : Chip :=
  let x := c.piste p
  let g := x.pages.getD page MapPage.reset
  if 2 ^ 40 ≤ page then
    match x.rebuild.slots[page / 2 ^ 40 - 1]? with
    | none => c
    | some r =>
      let k := c.areaKey x r (page % 2 ^ 40)
      if (r.unwritten.any (fun t => decide (t.1 = k) && decide (t.2 + c.val 0x2805 ≤ c.lap))) ∧ c.mayWrite then
        c.writeBackReloc p (page / 2 ^ 40 - 1) (page % 2 ^ 40)
      else c
  else if g.dirty ∧ g.firstChangeLap + c.val 0x2805 ≤ c.lap ∧ c.mayWrite then c.writeBackPages p page else c

def execMapWritebackDue (piste page : Nat) (s : State) : Host.Outcome State Fault Refusal := s.effect (fun c => c.mapWriteback piste page)

/-! ### Pistes (R64 to R68) -/

/-- The device goes on with what its piste's handle stands for, which has ended. -/
def Chip.endPisteHandle (c : Chip) (p status : Nat) (detail : Bytes) : Chip :=
  let h := (c.piste p).handle
  if h = 0 then c
  else (c.updPiste p (fun x => { x with handle := 0 })).endHandle (h - 1) (if status = 0 then 1 else 2) status detail

/-- PISTE_ZEROING_DONE (R64). -/
def Chip.zeroingDone (c : Chip) (p : Nat) : Chip :=
  let x := c.piste p
  if x.state ≠ .creating ∨ x.zeroLeft ≠ 0 then c
  else
    let c := (c.updPiste p (fun x => { x with state := .online })).pisteChange p
    c.endPisteHandle p 0 (leBytes 8 p ++ leBytes 8 x.uid)

def execPisteZeroingDone (piste : Nat) (s : State) : Host.Outcome State Fault Refusal := s.effect (fun c => c.zeroingDone piste)

/-- PISTE_STOPPED (R66): no dirty cache lines and no stripe journal entries. -/
def Chip.pisteStopped (c : Chip) (p : Nat) : Chip :=
  let x := c.piste p
  let busy := decide (c.pisteDirty p ≠ 0) || c.journal.entries.any (fun t => decide (t.2.piste = p)) ||
    c.cache.blocks.any (fun b => decide (b.1 / 2 ^ 64 = p) && b.2.any (fun v => decide (v.state = .through)))
  if x.state ≠ .stopping ∨ busy then c else (c.updPiste p (fun x => { x with state := .stopped })).pisteChange p

def execPisteStopped (piste : Nat) (s : State) : Host.Outcome State Fault Refusal := s.effect (fun c => c.pisteStopped piste)

/-- PISTE_DELETE_DONE (R67, R209): the piste is ABSENT; its pending deferred errors close. -/
def Chip.pisteDeleteDone (c : Chip) (p : Nat) : Chip :=
  let x := c.piste p
  if x.state ≠ .deleting ∨ x.releaseLeft ≠ 0 ∨ c.dir.durable < x.dirGen then c
  else
    let c := c.endPisteHandle p 0 []
    let c := c.onCqi (fun k => { k with deferred := k.deferred.map (fun d =>
      if d.piste = p ∧ d.pending then { d with pending := false, closed := true } else d) })
    let c := c.onCache (fun k => { k with
      blocks := k.blocks.filter (fun b => decide (b.1 / 2 ^ 64 ≠ p))
      lostRanges := k.lostRanges.filter (fun r => decide (r.piste ≠ p))
      lostStripes := k.lostStripes.filter (fun r => decide (r.piste ≠ p)) })
    { c with pistes := c.pistes.drop p }.directoryChange

def execPisteDeleteDone (piste : Nat) (s : State) : Host.Outcome State Fault Refusal := s.effect (fun c => c.pisteDeleteDone piste)

/-- DIRECTORY_CHANGE_DURABLE (R68): in the copies of three members, or of every member. [DESIGN CHOICE, notes/assumptions/89.md] -/
def Chip.directoryDurable (c : Chip) (g : Nat) : Chip :=
  let have_ := (c.dir.copies.getD g []).length
  let want := min 3 c.directoryMembers.length
  if g ≤ c.dir.durable ∨ c.dir.generation < g ∨ have_ < want then c
  else
    let keep := fun (n : Nat) => decide (g ≤ n)
    let c := { c with dir := { c.dir with
      durable := g, copies := c.dir.copies.filter (fun e => keep e.1), images := c.dir.images.filter (fun e => keep e.1) } }
    { c with pistes := c.pistes.mapVal (fun _ x =>
        if x.dirGen ≤ g then
          { x with
            name := x.newName.getD x.name
            newName := none
            fall := { x.fall with durable := x.fall.saved }
            rebuildDurable := x.rebuildSaved
            rebuild := { x.rebuild with slots := x.rebuild.slots.map (fun r => { r with copyDurable := r.copySaved }) } }
        else x) }

def execDirectoryChangeDurable (generation : Nat) (s : State) : Host.Outcome State Fault Refusal :=
  s.effect (fun c => c.directoryDurable generation)

/-! ### Deadlines and errors (R140, R141, R146) -/

/-- READ_DEADLINE_MISS: the strip is solved from the others (R141). -/
def Chip.deadlineMiss (c : Chip) (slot id : Nat) : Chip :=
  match (c.member slot).outstanding.find? (fun k => decide (k.id = id)) with
  | none => c
  | some k =>
    if k.deadline ≠ some 0 then c
    else
      let c := c.updMember slot (fun m => { m with outstanding := m.outstanding.map (fun y =>
        if y.id = id then { y with deadline := none } else y) })
      match k.purpose with
      | .gather g col => Chip.gatherEnd ((c.gatherLate g col).gatherStep g)
      | _ => c

def execReadDeadlineMiss (slot id : Nat) (s : State) : Host.Outcome State Fault Refusal := s.effect (fun c => c.deadlineMiss slot id)

/-- ERROR_BUCKET_LEAK (R146). -/
def Chip.bucketLeak (c : Chip) : Chip :=
  if c.lap % max 1 (c.val 0x2C15) ≠ 0 then c
  else { c with members := c.members.mapVal (fun _ m => { m with bucket := m.bucket - 1 }) }

def execErrorBucketLeak (s : State) : Host.Outcome State Fault Refusal := s.effect Chip.bucketLeak

/-- GRACE_EXPIRY (R148). -/
def Chip.graceExpiry (c : Chip) (slot : Nat) : Chip :=
  let m := c.member slot
  match m.failNs with
  | some t => if m.mstate = .failed ∧ !m.graceOver ∧ c.elapsedMs t (c.val 0x2C12) then c.endGrace slot false else c
  | none => c

def execGraceExpiry (slot : Nat) (s : State) : Host.Outcome State Fault Refusal := s.effect (fun c => c.graceExpiry slot)

/-! ### The plan (R29) -/

/-- At tick S-512 plan n+1 is frozen and the engines' queues are loaded. [DESIGN CHOICE, notes/assumptions/2.md] -/
def execPlanCutoff (s : State) : Host.Outcome State Fault Refusal := s.effect Chip.planCutoff

/-! ### Labels (R249) -/

/-- Owner identity of this unit: the pair's, or the unit's own serial. -/
def Chip.ownerId (c : Chip) : Nat := if c.val 0x3800 = 0 then Config.unitSerial else c.pair.pairId

/-- Write a drive's label. -/
def Chip.writeLabel (c : Chip) (slot pool uid : Nat) : Chip :=
  let m := c.member slot
  let r := m.report
  let l : Label :=
    { pool, vault := decide (slot ∈ c.vaultSlots), owner := c.ownerId, uid, slot, node := c.straps.nodeId,
      generation := m.label.generation + 1, nqnCheck := match r with | some r => crc64 r.nqn | none => 0,
      nguidConventional := match r with | some r => r.nguidConventional | none => 0,
      nguidZoned := match r with | some r => r.nguidZoned | none => 0 }
  (c.setMember slot { m with label := l }).issueWrite slot 3 false 0 [fit 4096 l.bytes] true .label

/-! ### Copy-back (R162, R268, R269) -/

/-- The size conditions of R162: what the drive `n` offers against the failed member's `o`; the zones' where a groomed piste holds it. -/
def sizesFit (groomed : Bool) (o n : DriveReport) : Bool :=
  decide (o.conventionalBlocks ≤ n.conventionalBlocks) && decide (o.zonedBlocks ≤ n.zonedBlocks) &&
    (!groomed || decide (o.zoneCount = 0) || (decide (o.zoneCapacity = n.zoneCapacity) && decide (o.zoneSize = n.zoneSize) &&
      decide (o.zoneCount ≤ n.zoneCount)))

/-- Every rebuild slot of a member is DONE, and every index of it is in E. -/
def Chip.slotsDone (c : Chip) (slot : Nat) : Bool :=
  (c.holders slot).all (fun pe => match (c.piste pe.1).slotOf pe.2 with
    | some r => decide (r.state = 3)
    | none => false)

/-- Copy-back begins for an index (R162): virtual OPEN zones are finished first. -/
def Chip.startCopyback (c : Chip) (p e : Nat) : Chip :=
  let x := c.piste p
  let c := if x.groomed then
      match x.slotOf e with
      | some r => c.each (r.recs.filter (fun z => z.2.zstate = 1 && decide (z.2.piste = p))) (fun c z => c.fullZone p e z.1)
      | none => c
    else c
  c.onSlots p (fun r => if r.index = e ∧ r.state = 3 then
    { r with state := 4, copyMark := 0, copySaved := 0, copyDurable := 0, strip := 0, issued := false } else r)

/-- Copy-back to the drive in a member's own slot (R268). -/
def Chip.copybackOwn (c : Chip) (slot : Nat) : Chip :=
  let c := c.each (c.holders slot) (fun c pe => c.startCopyback pe.1 pe.2)
  (c.updMember slot (fun m => { m with mstate := .copyback })).memberEvent slot 12 0

/-- A SPARE takes the place of a member whose slots are all DONE (R269): the member-list entry names the spare's slot. -/
def Chip.copybackSpare (c : Chip) (slot : Nat) : Chip :=
  let m := c.member slot
  let spare := c.members.find? (fun t => decide (t.2.slot = .inUse) && decide (t.2.label.pool = 2) && decide (t.1 ≠ slot) &&
    (match m.figures.or m.report, t.2.report with
     | some o, some n => sizesFit ((c.holders slot).any (fun pe => (c.piste pe.1).groomed)) o n
     | none, some _ => true
     | _, none => false))
  match spare with
  | none => c
  | some (t, _) =>
    let hs := c.holders slot
    let c := c.writeLabel t 1 m.label.uid
    let c := c.each hs (fun c pe => (c.updPiste pe.1 (fun x =>
      { x with list := setAt x.list pe.2 (t, c.straps.nodeId) })).pisteChange pe.1)
    let c := c.updMember t (fun y => { y with recorded := m.recorded, replaces := some slot })
    let c := c.updMember slot (fun y => { y with recorded := none })
    c.copybackOwn t

/-- Whether the drive in a member's own slot is its designated replacement. -/
def Chip.ownReplacement (c : Chip) (slot : Nat) : Bool :=
  let m := c.member slot
  decide (m.slot = .inUse) && decide (m.replaces = some slot)

/-- Handles of a kind that concern a member end. -/
def Chip.endMemberHandles (c : Chip) (slot kind : Nat) : Chip :=
  c.each (c.cqi.handles.filter (fun h => decide (h.2.value / 2 ^ 28 = kind) && decide (h.2.state = 0) && decide (slot ∈ h.2.members)))
    (fun c h => c.endHandle h.1 1 0 [])

/-- A member whose rebuild slots are all DONE is REBUILT; its replacement's copy-back begins (R147, R268, R269). -/
def Chip.memberRebuilt (c : Chip) (slot : Nat) : Chip :=
  let m := c.member slot
  if m.mstate ≠ .rebuilding ∨ !c.slotsDone slot then c
  else
    let c := (c.setMember slot { m with mstate := .rebuilt, ranResync := true }).endMemberHandles slot 7
    if c.ownReplacement slot then c.copybackOwn slot
    else if c.val 0x3443 = 1 then c.copybackSpare slot
    else c

/-! ### Rebuild slots (R153, R155, R161, R162, R203) -/

/-- REBUILD_START handles whose slots are all DONE end (R203). -/
def Chip.endRebuildHandles (c : Chip) : Chip :=
  c.each (c.cqi.handles.filter (fun h => decide (h.2.value / 2 ^ 28 = 4) && decide (h.2.state = 0) && !h.2.slots.isEmpty)) (fun c h =>
    if h.2.slots.all (fun pe => match (c.piste pe.1).slotOf pe.2 with | some r => decide (3 ≤ r.state) | none => true) then
      c.endHandle h.1 1 0 [] else c)

/-- REBUILD_SLOT_DONE: the slot of a piste, by its place in E. -/
def Chip.rebuildSlotDone (c : Chip) (p slot : Nat) : Chip :=
  let x := c.piste p
  match x.rebuild.slots[slot]? with
  | none => c
  | some r =>
    if r.state ≠ 2 ∨ !c.slotPassed x r ∨ c.rebuildOpen p (fun _ => true) then c
    else
      let c := c.onSlots p (fun t => if t.index = r.index then { t with state := 3 } else t)
      let done := fun (x : Piste) (e : Nat) => match x.slotOf e with | some t => decide (t.state = 3) | none => true
      let c := c.updPiste p (fun x => { x with rebuild := { x.rebuild with
        items := x.rebuild.items.filter (fun t => !(done x t.peerA && done x t.peerB)) } })
      let c := c.checkpointRebuild p
      let c := match c.localSlot (c.piste p) r.index with
        | some s => c.memberRebuilt s
        | none => c
      c.endRebuildHandles

def execRebuildSlotDone (piste slot : Nat) (s : State) : Host.Outcome State Fault Refusal := s.effect (fun c => c.rebuildSlotDone piste slot)

/-- PRIORITY_PASS_END: the main pass goes on for both peers, unless another item of theirs still runs (R155). -/
def Chip.priorityEnd (c : Chip) (p item : Nat) : Chip :=
  let x := c.piste p
  match x.rebuild.items[item]? with
  | none => c
  | some t =>
    if !c.itemPassed x t then c
    else
      let busy := fun (e : Nat) => x.rebuild.items.any (fun y => !c.itemPassed x y && (decide (y.peerA = e) || decide (y.peerB = e)))
      c.onSlots p (fun r => if r.state = 1 ∧ (r.index = t.peerA ∨ r.index = t.peerB) ∧ !busy r.index then { r with state := 2 } else r)

def execPriorityPassEnd (piste item : Nat) (s : State) : Host.Outcome State Fault Refusal := s.effect (fun c => c.priorityEnd piste item)

/-- DRAIN_DONE (R161). -/
def Chip.drainDone (c : Chip) (slot : Nat) : Chip :=
  let m := c.member slot
  if m.mstate ≠ .draining ∨ !c.slotsDone slot then c
  else
    let c := c.setMember slot { m with mstate := .rebuilt }
    let c := c.onMemberSlots slot (fun r => { r with drain := false, recs := m.zones })
    c.endMemberHandles slot 7

def execDrainDone (slot : Nat) (s : State) : Host.Outcome State Fault Refusal := s.effect (fun c => c.drainDone slot)

/-- COPYBACK_DONE: the index leaves E; the member is in service once no piste copies back to it (R162). -/
def Chip.copybackDone (c : Chip) (p slot : Nat) : Chip :=
  let x := c.piste p
  match (c.indicesOf x slot).find? (fun e => match x.slotOf e with | some r => decide (r.state = 4) | none => false) with
  | none => c
  | some e =>
    let r := (x.slotOf e).getD default
    let ended := if x.groomed then !(r.recs.any (fun z => decide (z.2.piste = p) && decide (z.2.zstate ≠ 0)))
      else decide (x.geom.rows ≤ r.copyMark)
    if !ended ∨ c.rebuildOpen p (fun _ => true) then c
    else
      let c := (c.updPiste p (fun x => { x with
        repl := x.repl.filter (fun y => decide (y ≠ e))
        rebuild := { x.rebuild with
          slots := x.rebuild.slots.filter (fun t => decide (t.index ≠ e))
          items := x.rebuild.items.filter (fun t => decide (t.peerA ≠ e) && decide (t.peerB ≠ e)) } })).pisteChange p
      let more := (c.holders slot).any (fun pe => decide (pe.2 ∈ (c.piste pe.1).repl))
      if more then c
      else
        let c := (c.updMember slot (fun m => { m with mstate := .inService, cause := 0, replaces := none, ranResync := true,
                                                      failNs := none })).directoryChange
        c.endMemberHandles slot 8

def execCopybackDone (piste slot : Nat) (s : State) : Host.Outcome State Fault Refusal := s.effect (fun c => c.copybackDone piste slot)

/-- RESYNC_DONE (R150): the member is in service, its log is closed. [DEDUCED, notes/assumptions/53.md] -/
def Chip.resyncDone (c : Chip) (slot : Nat) : Chip :=
  let m := c.member slot
  let empty := match c.logs.find? (fun l => l.open_ && decide (l.slot = slot)) with
    | some l => l.rows.isEmpty && l.zones.isEmpty
    | none => true
  let busy := (c.holders slot).any (fun pe => c.rebuildOpen pe.1 (fun _ => true))
  if m.mstate ≠ .resyncing ∨ !empty ∨ busy then c
  else
    -- what was cut short by a containment goes on
    let slots := (c.holders slot).map (fun pe => (c.piste pe.1).slotOf pe.2)
    let next := if slots.any (fun r => match r with | some r => r.drain | none => false) then MemberState.draining
      else if slots.any (fun r => match r with | some r => decide (r.state = 4) | none => false) then .copyback else .inService
    let c := c.setMember slot { m with mstate := next, cause := 0, ranResync := true, failNs := none, contCause := 0, contNs := none }
    ((c.closeLog slot).directoryChange).endMemberHandles slot 8

def execResyncDone (slot : Nat) (s : State) : Host.Outcome State Fault Refusal := s.effect (fun c => c.resyncDone slot)

/-! ### Lost stripes with time (R165, R166) -/

/-- LOST_HOLD_EXPIRY: the held blocks are dropped, with one deferred error (R165). -/
def Chip.lostHoldExpiry (c : Chip) (p stripe : Nat) : Chip :=
  match c.cache.lostStripes.find? (fun l => decide (l.piste = p) && decide (l.stripe = stripe) && l.held) with
  | none => c
  | some l =>
    if c.lap < l.sinceLap + c.val 0x2C53 then c
    else
      let i : StripeId := ⟨p, l.newGeom, 0, stripe⟩
      let x := c.piste p
      let g := x.geometry i
      let blocks := ((bitsOf 32 l.columns).map (fun col => g.hostRange stripe col l.first l.count)).flatten
      let gone := blocks.filter (fun b => (c.versions p b).any (fun v => decide (v.state = .dirty) && decide (v.entry = 0)))
      let c := c.each gone (fun c b => c.setVersions p b ((c.versions p b).filter (fun v => decide (v.entry ≠ 0))))
      let c := c.onCache (fun k => { k with lostStripes := k.lostStripes.map (fun y => if y.seq = l.seq then { y with held := false } else y) })
      if gone.isEmpty then c else c.deferError p 4 (minOf gone 0) gone.length l.seq

def execLostHoldExpiry (piste stripe : Nat) (s : State) : Host.Outcome State Fault Refusal :=
  s.effect (fun c => c.lostHoldExpiry piste stripe)

/-- A REBUILT member without a replacement takes a SPARE that has come (R269). -/
def Chip.takeSpares (c : Chip) : Chip :=
  if c.val 0x3443 = 1 then
    c.each c.members.keys (fun c s =>
      if (c.member s).mstate = .rebuilt ∧ !(c.holders s).isEmpty ∧ !c.ownReplacement s then c.copybackSpare s else c)
  else c

/-- The lap's look at rebuild (R152, R158, R166): checkpoints, and slots that wait for a share, a base or room in the table. -/
def Chip.rebuildLap (c : Chip) : Chip :=
  let earned := c.val 0x2C16 * c.lapNs / 1000
  let c := c.onSched (fun s => { s with rebuiltLap := if c.val 0x2C16 = 0 then 0 else s.rebuiltLap - earned })
  c.each (c.livePistes.map Prod.fst) (fun c p =>
    let room := (roomFor c.cache.lostStripes p).isSome
    let x := c.piste p
    -- a base that did not fit is sought again
    let c := c.each (x.rebuild.slots.filter (fun r => x.groomed && decide (r.base = 0))) (fun c r =>
      let t := c.chooseExtent (c.localSlots (c.piste p)) (c.relocArea (c.piste p) r.index)
      t.1.onSlots p (fun y => if y.index = r.index then { y with base := t.2.getD 0 } else y))
    let c := c.onSlots p (fun r =>
      if r.state = 0 then
        let r := if room then { r with pausedByTable := false } else r
        if r.pausedByTable ∨ r.cancelled ∨ c.shareSet 5 = 0 ∨ (x.groomed ∧ r.base = 0) then r else { r with state := c.passOf x r }
      else if (r.state = 1 ∨ r.state = 2) ∧ c.shareSet 5 = 0 then { r with state := 0, was := r.state }
      else r)
    -- lost entries of a groomed piste leave once no granule is mapped into them
    let c := c.onCache (fun k => { k with lostStripes := k.lostStripes.filter (fun l =>
      !(decide (l.piste = p) && l.groomed && ((c.piste p).held.getD l.stripe []).isEmpty)) })
    let x := c.piste p
    let c := if x.rebuild.slots.isEmpty then c else c.checkpointRebuild p
    if x.fall.state ≠ 0 then c.checkpointReshape p else c)

end Sys2Proof.Machine
end

