-- ==== Sys2Proof/Machine/Replay.lean ====
section
/-! DEFINITION. Replay of the stripe journal after a start or a takeover (R103 to R105, R119, R132, R133, R459). The reads and
writes of an entry under replay take their time on the members as any others do; the entry is committed by the seals that
follow. -/

namespace Sys2Proof.Machine

/-- Replay sources (Table 4.7). -/
inductive ReplaySource where
  | none | retained | vault | mirror | lane
deriving DecidableEq, Repr

def ReplaySource.code : ReplaySource → Nat
  | .none => 0 | .retained => 1 | .vault => 2 | .mirror => 3 | .lane => 4

/-- Seal an entry COMMITTED without effect: FROZEN versions return to DIRTY; superseded ones are freed (R132). -/
def Chip.replayDrop (c : Chip) (slot : Nat) : Chip :=
  let e := c.entry slot
  let gb := max 1 (c.piste e.piste).gb
  let dead := fun (b : Nat) => c.groomedEntry e && e.change.any (fun r => r.superseded && decide (r.granule = b / gb))
  let c := c.each (e.blocks.filter dead) (fun c b =>
    c.setVersions e.piste b ((c.versions e.piste b).filter (fun v => decide (v.entry ≠ slot + 1))))
  c.abandonEntry slot

/-- The replay of an entry of the host's writes, or of map and relocation pages. -/
def Chip.replayHost (c : Chip) (slot : Nat) (lostRange : Bool) : Chip :=
  let e := c.entry slot
  let i := e.stripeId
  let k := (c.entryGeom e).k
  let pq := [k, k + 1].filter (fun col => e.allMask.testBit col)
  if e.state = .dataDurable ∧ !pq.isEmpty ∧ pq.all (fun col => (c.known i col).isSome) then
    let id := c.sched.nextId
    let c := (c.onSched (fun s => { s with nextId := id + 1 })).setEntry slot { e with inherited := true }
    c.readColumns (newGather id (.replay slot) i e.first e.count pq (c.unknownCols i) (c.farCols i) 4) 4 0 pq
  else c.replayRewrite slot lostRange

/-- A reshape's entry is read again from the old extent and written whole (Table 6.11), in the state it stands in (R93).
[DEDUCED, notes/assumptions/40.md] -/
def Chip.replayReshape (c : Chip) (slot : Nat) : Chip :=
  let e := c.entry slot
  let x := c.piste e.piste
  let f := x.fall
  let lo := e.stripe * f.new.d
  let blocks := ((List.range f.new.d).map (fun j => lo + j)).filter (fun l => decide (l < x.geom.capacity))
  let c := c.setEntry slot { e with
    again := e.stripMask, remade := true, computed := false, columns := [], issued := [], overlay := [], oldCols := []
    laneDurable := true, inherited := true, openMirror := 0, touched := true, round := { e.round with rewrite := e.spanning } }
  if blocks.isEmpty then c.entryWork slot
  else c.each (mergeRuns (blocks.map x.geom.locate)) (fun c t =>
    c.startGather (.entry slot) ⟨e.piste, false, 0, t.1⟩ t.2.2.1 t.2.2.2 [t.2.1] 5)

/-- Replay one entry (R104, R132, R459). `record_` tells that change records are in the source. -/
def Chip.replayEntry (c : Chip) (slot : Nat) (record_ : Bool) : Chip :=
  let e := c.entry slot
  let area := (areaOf e.stripe).1
  let groomed := (c.piste e.piste).groomed
  if e.state = .free then c
  else if e.spanning ∧ e.state ≠ .committed then
    -- kept as it stands: the home resolves it once every participant is there (R323, R326)
    c.setEntry slot { e with
      inherited := true, laneDurable := true, issued := [], touched := false
      round := { CommitRound.reset with sinceLap := c.lap, retryLap := if c.isHome e then some c.lap else none } }
  else if groomed ∧ area = 0 ∧ e.state = .parityDurable ∧ !record_ then c.replayDrop slot
  else if e.state = .committed ∨ e.state = .parityDurable then c.replayCommit slot record_
  else if e.kind ≤ 2 then c.replayHost slot true
  else if groomed then (if area ≠ 0 then c.replayHost slot false else c.replayDrop slot)
  else if e.kind = 5 then c.replayDrop slot
  else if e.kind = 6 then c.replayReshape slot
  else c.replayHost slot false

/-- Entries in ascending generation. -/
def byGeneration (l : List (Nat × Entry)) : List Nat :=
  (l.foldl (fun (a : List (Nat × Entry)) t =>
    (a.filter (fun y => decide (y.2.generation ≤ t.2.generation))) ++ [t] ++
      (a.filter (fun y => decide (t.2.generation < y.2.generation)))) []).map Prod.fst

/-- An entry as a lane gives it: its 128 bytes, and nothing of the cache behind it. -/
def Entry.fromLane (e : Entry) : Entry :=
  { e with columns := [], blocks := [], change := [], through := [], overlay := [], oldCols := [], computed := false,
           issued := [], sealed_ := e.state }

/-- Load a vault image (R103, R366): journal, cache, pages, records, tables and counters. After COLD the acceptance and event
numbers stand at 1 (R197, R205, Table 16.4), and what the image holds was accepted before them. [DEDUCED, notes/assumptions/81.md] -/
def Chip.loadImage (c : Chip) (v : VaultImage) : Chip :=
  let cold := decide (c.val 0x5401 = 0)
  let c := c.onJournal (fun j => { j with entries := v.journal, sealSeq := v.sealSeq, pendingLane := none })
  let c := c.onCache (fun k => { k with
    blocks := v.blocks.mapVal (fun _ l => l.map (fun y => { y with acc := if cold then 0 else y.acc, dirtyLap := c.lap }))
    lostRanges := v.lostRanges, lostStripes := v.lostStripes.map (fun l => { l with sinceLap := c.lap })
    lostSeq := maxOf (v.lostStripes.map (fun l => l.seq)) })
  let c := c.each v.pages (fun c p => c.updPiste p.1 (fun x => { x with pages := p.2.mapVal (fun _ g => { g with firstChangeLap := c.lap }) }))
  let c := c.each v.rebuilds (fun c r => c.updPiste r.1 (fun x =>
    { x with rebuild := r.2.1, fall := r.2.2, repl := r.2.1.slots.map (fun s => s.index) }))
  let c := { c with logs := v.logs }
  let c := c.onCqi (fun k => { k with
    deferred := v.deferred, nextDeferred := max k.nextDeferred v.nextDeferred
    nextAcc := if !cold && accEarlier k.nextAcc v.nextAcc then v.nextAcc else k.nextAcc
    eventSeq := if cold then k.eventSeq else max k.eventSeq v.eventSeq })
  c.each v.lostBlocks (fun c b => c.reportLost b.1 b.2)

/-- An older image, by epoch and then by seal number (R297). -/
def VaultImage.older (a b : VaultImage) : Bool :=
  decide (a.epoch < b.epoch) || (decide (a.epoch = b.epoch) && decide (a.sealSeq < b.sealSeq))

/-- The newest valid vault image: its region. -/
def Chip.validImage (c : Chip) : Option (Nat × VaultImage) :=
  (c.power.images.filter (fun v => decide (v.2.status = 2) && v.2.drives.all c.vaultDriveUp)).foldl (fun (a : Option (Nat × VaultImage)) v => match a with
    | none => some v
    | some y => if y.2.older v.2 then some v else some y) none

/-- The journal lanes within reach: a member that holds one is up. -/
def Chip.lanes (c : Chip) : List Lane := c.start.lanesFound.filter (fun l => l.slots.any (fun s => decide ((c.member s).slot = .inUse)))

/-- The valid lane with the highest lap found on the members. -/
def Chip.bestLane (c : Chip) : Option Lane :=
  c.lanes.foldl (fun (a : Option Lane) l => match a with
    | none => some l
    | some y => if y.lap < l.lap then some l else some y) none

/-- The source a start replays from (Table 4.7). [DEDUCED, notes/assumptions/79.md] -/
def Chip.chooseSource (c : Chip) : ReplaySource :=
  let retained := c.start.retained && !c.start.lostMemory && !c.faults.afterSafe
  match c.validImage with
  | some (_, v) => if retained && decide (v.sealSeq ≤ c.journal.sealSeq) then .retained else .vault
  | none => if retained then .retained
    else if c.bestLane.isSome then .lane else .none

/-- Take a lane as the journal. -/
def Chip.loadLane (c : Chip) : Chip :=
  match c.bestLane with
  | none => c
  | some l => c.onJournal (fun j => { j with
      entries := l.entries.mapVal (fun _ e => e.fromLane), sealSeq := max j.sealSeq l.sealSeq, lastOwn := some l.lap, lastBlock := l.block })

/-! ### Operations that a start or a takeover finds under way (R66) -/

/-- Slots of this unit in a list. -/
def Chip.ownSlots (c : Chip) (l : List (Nat × Nat)) : List Nat :=
  (l.filter (fun e => c.ownNode e.2)).map Prod.fst

/-- Write Zeroes over rows of an extent, in the REBUILD class (R27, R64, R173). [DEDUCED, notes/assumptions/17.md] -/
def Chip.zeroExtent (c : Chip) (p : Nat) (slots : List Nat) (start len : Nat) : Chip :=
  c.each slots (fun c s => c.issue s 5 (.writeZeroes false start len) (blockBytes len) (.zeroing p) none 0)

/-- The extent of a fixed piste, or the map area of a groomed one, is zeroed from its first row (R64). [DEDUCED, notes/assumptions/25.md] -/
def Chip.zeroPiste (c : Chip) (p : Nat) : Chip :=
  let x := c.piste p
  let own := c.ownSlots x.list
  let c := c.updPiste p (fun x => { x with zeroLeft := own.length })
  if x.groomed then c.zeroExtent p own x.mapBase (areaRows x.mapGeom x.mapPages * 4)
  else c.zeroExtent p own x.geom.base (x.geom.rows * x.geom.b)

/-- The rows of a reshape's new extent that no old data fills are zeroed (R173). -/
def Chip.zeroBare (c : Chip) (p : Nat) : Chip :=
  let x := c.piste p
  let g := x.fall.new
  let own := c.ownSlots x.fall.newList
  let filled := ceilDiv (ceilDiv x.capacity (max 1 g.d)) (max 1 g.m)
  if g.rows ≤ filled then c
  else
    let c := c.updPiste p (fun x => { x with fall := { x.fall with zeroLeft := own.length } })
    c.zeroExtent p own (g.base + filled * g.b) ((g.rows - filled) * g.b)

/-- Every zone a groomed piste holds is reset (R67). [DEDUCED, notes/assumptions/25.md] -/
def Chip.releaseZones (c : Chip) (p : Nat) : Chip :=
  let x := c.piste p
  let mine := fun (e : Nat) => ((c.zonesOf x e).filter (fun z => decide (z.2.piste = p) && (z.2.zstate = 1 || z.2.zstate = 2)))
  let zones := if x.groomed then ((List.range x.list.length).map (fun e => (mine e).map (fun z => (e, z.1)))).flatten else []
  let out := countOf zones (fun z => (c.localSlot x z.1).isSome && !c.virtualZone x z.1 z.2)
  (c.updPiste p (fun x => { x with releaseLeft := out })).each zones (fun c z => c.resetZone p z.1 z.2)

/-- What a piste was about when power, a reset or its holder was lost goes on. [DEDUCED, notes/assumptions/25.md] -/
def Chip.resumePiste (c : Chip) (p : Nat) : Chip :=
  let x := c.piste p
  match x.state with
  | .creating => c.zeroPiste p
  | .deleting => c.releaseZones p
  | _ => if x.fall.state ≠ 0 ∧ !x.groomed ∧ x.fall.zeroLeft ≠ 0 then c.zeroBare p else c

/-- Replay from a source (R104): every entry not FREE in ascending generation; after a lane, one cache-lost error for each piste
it names; then OPEN zones are finished (R119) and a census begins where live counts did not survive (R133). [DEDUCED, notes/assumptions/81.md] -/
def Chip.replayFrom (c : Chip) (source : ReplaySource) : Chip :=
  let c := c.setVal 0x2460 0 source.code
  let c := match source with
    | .vault => (match c.validImage with | some v => c.loadImage v.2 | none => c)
    | .lane => c.loadLane
    | _ => c
  let c := c.setVal 0x2461 0 (countOf c.journal.entries (fun t => decide (t.2.state ≠ .free)))
  let c := ((c.setVal 0x2462 0 0).setVal 0x2463 0 0).setVal 0x2464 0 0
  let record_ : Bool := decide (source ≠ .lane)
  let c := c.each (byGeneration c.journal.entries) (fun c s => c.replayEntry s record_)
  let named : List Nat := match c.bestLane with | some l => (if source = .lane then l.writeBack else []) | none => []
  let c : Chip := c.each named (fun c p =>
    if (c.piste p).state = .absent then c else c.deferError p 3 0 (c.piste p).capacity 0xFFFFFFFF)
  let c : Chip := c.each (c.livePistes.filter (fun p => p.2.groomed)) (fun (c : Chip) (p : Nat × Piste) =>
    let c := c.finishAll p.1
    if source = .retained ∨ source = .none ∧ p.2.mapPages = 0 then c else c.startCensus p.1)
  c.each (c.livePistes.map Prod.fst) Chip.resumePiste

/-- Replay has nothing left to do: no entry it took over is still open. -/
def Chip.replayOver (c : Chip) : Bool := !(c.journal.entries.any (fun t => t.2.inherited && !t.2.spanning))

/-- The lane offset at the end of a start's replay (R100): the unit's laps rank above every lane found. -/
def Chip.setLaneOffset (c : Chip) : Chip :=
  let hi := maxOf (c.lanes.map (fun l => l.lap + 1))
  c.onJournal (fun j => { j with lapOffset := max 0 (hi - c.lap) })

end Sys2Proof.Machine
end

