-- ==== Sys2Proof/Machine/Rings.lean ====
section
/-! DEFINITION. The queue interface's registers, doorbells and rings (R179 to R187), MSI-X (R226, R186), and the
fetch of submission entries up to their acceptance (R188, R190, R191, R196, R228). -/

namespace Sys2Proof.Machine

/-! ### MSI-X (R186, R226) -/

def Chip.msixEntry (c : Chip) (v : Nat) : MsixEntry := c.host.msix.getD v MsixEntry.reset
def Chip.setMsix (c : Chip) (v : Nat) (e : MsixEntry) : Chip := c.onHost (fun h => { h with msix := h.msix.put v e })

/-- A message is due on a vector (R226). -/
def Chip.msixDue (c : Chip) (v : Nat) : Chip :=
  let e := c.msixEntry v
  if !c.host.msixEnable then c
  else if c.host.msixMask || e.mask then c.setMsix v { e with pending := true }
  else c.emit (.msix v e.address e.data)

/-- The messages of an issue phase: at most one for each ring that was written in the stride before (R186, R233). -/
def Chip.msixPhase (c : Chip) : Chip :=
  c.each c.cqi.queues.keys (fun c q =>
    let x := c.queue q
    let due := x.msixDue || (x.wrote && x.irqEnable)
    let c := c.setQueue q { x with wrote := false, msixDue := due && !c.hostOpen }
    if due && c.hostOpen then c.msixDue x.vector else c)

/-- A vector's mask has been cleared: one message for a set pending bit (R226). -/
def Chip.msixRelease (c : Chip) (v : Nat) : Chip :=
  let e := c.msixEntry v
  if e.pending && !e.mask && !c.host.msixMask && c.host.msixEnable then
    (c.setMsix v { e with pending := false }).emit (.msix v e.address e.data)
  else c

/-- MSIX_UNMASK: of one vector, or of the function. -/
def Chip.msixUnmask (c : Chip) (v : Option Nat) : Chip :=
  match v with
  | some v => (c.setMsix v { c.msixEntry v with mask := false }).msixRelease v
  | none => (c.onHost (fun h => { h with msixMask := false })).each c.host.msix.keys Chip.msixRelease

/-! ### Whether the BARs are served (R235, R236, R240) -/

def Chip.barOpen (c : Chip) : Bool := c.host.ready && !c.host.d3 && c.host.flr.isNone && !c.host.perst

/-- A memory write to a BAR: dropped and reported as Unsupported Request in D3hot and during a function-level reset. -/
def Chip.barWrite (c : Chip) (f : Chip → Chip) : Chip :=
  if c.barOpen then f c else if c.host.ready then c.bump 0x1853 else c

/-! ### Doorbells (R183) -/

/-- A submission tail doorbell. -/
def Chip.sqTail (c : Chip) (q v requester : Nat) : Chip :=
  let x := c.queue q
  let v := v % 65536
  if 1024 ≤ q ∨ x.qstate ≠ 1 then c
  else
    let c := if q = 0 then c.onCqi (fun k => { k with lastRequester := requester }) else c
    if x.sqSize ≤ v then c.queueError q 1 else c.setQueue q { x with sqTail := v }

def execSqTailDoorbell (queue value requester : Nat) (s : State) : Host.Outcome State Fault Refusal :=
  s.effect (fun c => c.barWrite (fun c => c.sqTail queue value requester))

/-- Indices of a ring from one place up to, but not with, another. -/
def ringRange (size a b : Nat) : List Nat := (List.range ((b + size - a) % size)).map (fun i => (a + i) % size)

/-- HANDLE_END events written to queue 0's ring have been passed: their slots become free (R203). -/
def Chip.passEnds (c : Chip) (passed : Nat → Bool) : Chip :=
  let l := c.cqi.pendingEnds.filter (fun e => passed e.1)
  (c.onCqi (fun k => { k with pendingEnds := k.pendingEnds.filter (fun e => !passed e.1) })).each l (fun c e => c.freeSlot e.2)

/-- A completion head doorbell. -/
def Chip.cqHeadWrite (c : Chip) (q v : Nat) : Chip :=
  let x := c.queue q
  let v := v % 65536
  let n := x.cqSize
  let bad := decide (n ≤ v) || decide ((x.cqTail + n - x.cqHead) % n < (v + n - x.cqHead) % n)
  if 1024 ≤ q ∨ x.qstate = 0 then c
  else if bad then (if x.qstate = 3 then c else c.queueError q 2)
  else
    let c := c.setQueue q { x with cqHead := v }
    let c := if q = 0 then c.passEnds (fun i => decide (i ∈ ringRange n x.cqHead v)) else c
    c.flushHeld

def execCqHeadDoorbell (queue value : Nat) (s : State) : Host.Outcome State Fault Refusal :=
  s.effect (fun c => c.barWrite (fun c => c.cqHeadWrite queue value))

/-! ### Enabling and disabling (R182, R185, R187) -/

/-- The fields of a queue pair are within range and R182 holds. -/
def QueuePair.fit (x : QueuePair) (q : Nat) : Bool :=
  decide (x.sqBase % 4096 = 0) && decide (x.cqBase % 4096 = 0) &&
    decide (1 ≤ x.sqEntriesM1) && decide (x.sqEntriesM1 ≤ 16383) && decide (1 ≤ x.cqEntriesM1) && decide (x.cqEntriesM1 ≤ 16383) &&
    decide (x.vector ≤ 1023) && decide (1 ≤ x.burst) && decide (x.burst ≤ 64) &&
    (if q = 0 then decide (x.sqSize + 64 ≤ x.cqSize) else decide (x.sqSize ≤ x.cqSize))

/-- enable = 1 is written. -/
def Chip.queueEnable (c : Chip) (q : Nat) : Chip :=
  let x := c.queue q
  if 1024 ≤ q ∨ x.qstate ≠ 0 then c
  else if x.fit q && (decide (q = 0) || decide ((c.queue 0).qstate = 1)) then
    (c.setQueue q { x with enable := true, qstate := 1, qerror := 0, sqHead := 0, cqTail := 0, cqPhase := true, sqTail := 0,
                           cqHead := 0, fetching := 0, usable := true }).flushHeld
  else (c.setQueue q { x with enable := true }).queueError q 5

def execQueueEnable (queue : Nat) (s : State) : Host.Outcome State Fault Refusal :=
  s.effect (fun c => c.barWrite (fun c => c.queueEnable queue))

/-- enable = 0 is written. -/
def Chip.queueDisable (c : Chip) (q : Nat) : Chip :=
  let x := c.queue q
  if 1024 ≤ q then c
  else if q = 0 ∧ c.cqi.queues.any (fun y => decide (y.1 ≠ 0) && decide (y.2.qstate ≠ 0)) then c
  else if x.qstate = 1 ∨ x.qstate = 3 then
    let c := c.setQueue q { x with enable := false, qstate := 2, qerror := 0, usable := x.qstate = 1 || x.usable }
    let c := if q = 0 ∧ x.qstate = 1 then c.passEnds (fun _ => true) else c
    c.discardFetches q
  else c.setQueue q { x with enable := false }

def execQueueDisable (queue : Nat) (s : State) : Host.Outcome State Fault Refusal :=
  s.effect (fun c => c.barWrite (fun c => c.queueDisable queue))

/-- QUEUE_DRAINED: every accepted command has ended, and, on a ring that can be written, its completion is posted. -/
def Chip.queueDrained (c : Chip) (q : Nat) : Chip :=
  let x := c.queue q
  let busy := c.cqi.cmds.any (fun y => decide (y.queue = q) && !y.dead)
  let held := x.usable && c.cqi.held.any (fun e => !e.event && decide (e.queue = q))
  if x.qstate ≠ 2 ∨ busy ∨ held then c else c.setQueue q { x with qstate := 0 }

def execQueueDrained (queue : Nat) (s : State) : Host.Outcome State Fault Refusal := s.effect (fun c => c.queueDrained queue)

def execCqiEnable (value : Bool) (s : State) : Host.Outcome State Fault Refusal :=
  s.effect (fun c => c.barWrite (fun c => c.onCqi (fun k => { k with enable := value })))

def execEventsDroppedClear (s : State) : Host.Outcome State Fault Refusal :=
  s.effect (fun c => c.barWrite (fun c => c.onCqi (fun k => { k with droppedBit := false })))

/-! ### Register writes (R179 to R181, R224, R226) -/

/-- A write covers a byte of a register area. -/
def covers (off size b : Nat) : Bool := decide (off ≤ b) && decide (b < off + size)

/-- The byte a write puts at a place. -/
def writtenByte (off value b : Nat) : Nat := value / 256 ^ (b - off) % 256

/-- The writable fields of a queue-pair block, as its first 24 bytes (Table 7.3). -/
def QueuePair.image (x : QueuePair) : Bytes :=
  leBytes 8 x.sqBase ++ leBytes 8 x.cqBase ++ leBytes 2 x.sqEntriesM1 ++ leBytes 2 x.cqEntriesM1 ++
  leBytes 2 (x.vector % 1024 + (if x.irqEnable then 2 ^ 10 else 0) + (if x.relaxed then 2 ^ 11 else 0)) ++ leBytes 2 x.burst

/-- A queue pair with the writable fields of an image. -/
def QueuePair.ofImage (x : QueuePair) (b : Bytes) : QueuePair :=
  { x with
    sqBase := leAt b 0 8
    cqBase := leAt b 8 8
    sqEntriesM1 := leAt b 16 2
    cqEntriesM1 := leAt b 18 2
    vector := leAt b 20 2 % 1024
    irqEnable := (leAt b 20 2).testBit 10
    relaxed := (leAt b 20 2).testBit 11
    burst := leAt b 22 2 % 128 }

/-- A write to a queue-pair block. -/
def Chip.blockWrite (c : Chip) (q off size value : Nat) : Chip :=
  let x := c.queue q
  let c := if x.qstate = 0 ∧ off < 24 then
      c.setQueue q (x.ofImage (patch x.image off ((leBytes size value).take (24 - off))))
    else c
  if covers off size 24 then (if writtenByte off value 24 % 2 = 1 then c.queueEnable q else c.queueDisable q) else c

/-- A write to the unit registers (Table 7.2). -/
def Chip.unitWrite (c : Chip) (off size value : Nat) : Chip :=
  let c := if covers off size 4 then c.onCqi (fun k => { k with enable := writtenByte off value 4 % 2 = 1 }) else c
  if covers off size 8 && decide (writtenByte off value 8 / 8 % 2 = 1) then c.onCqi (fun k => { k with droppedBit := false }) else c

/-- The writable bytes of the mailbox header (Table 8.8). -/
def Mailbox.image (m : Mailbox) : Bytes :=
  leBytes 2 m.index ++ leBytes 1 m.sub ++ leBytes 1 m.op ++ leBytes 4 m.offset ++ leBytes 4 m.length

/-- A write to the mailbox header: mbx_go with an operation that is neither READ nor WRITE ends in RANGE (Table 8.9). -/
def Chip.mailboxHeader (c : Chip) (off size value : Nat) : Chip :=
  let m := c.host.mailbox
  let b := if off < 12 then patch m.image off ((leBytes size value).take (12 - off)) else m.image
  let m := { m with index := leAt b 0 2, sub := leAt b 2 1, op := leAt b 3 1 % 4, offset := leAt b 4 4, length := leAt b 8 4 % 8192 }
  let go := covers off size 12 && decide (writtenByte off value 12 % 2 = 1)
  if go && decide (m.status = 1) && (decide (m.op = 0) || decide (m.op = 3)) then
    (c.onHost (fun h => { h with mailbox := m })).bump 0x1841
  else
    let m := if go && (decide (m.op = 0) || decide (m.op = 3)) then { m with status := 5 } else m
    c.onHost (fun h => { h with mailbox := m })

/-- A write to BAR0 (Table 8.7); the dictionary window has a row of its own. -/
def Chip.bar0Write (c : Chip) (off size value : Nat) : Chip :=
  let sized := (decide (size = 4) || decide (size = 8)) && decide (off % size = 0)
  if off < 0x1000000 ∧ !sized ∨ 0x4000000 ≤ off ∧ off < 0x4000040 ∧ !sized then c.bump 0x1A16
  else if off < 0x1000 then c.unitWrite off size value
  else if off < 0x3000 then
    let q := (off - 0x1000) / 8
    let c := if off % 8 = 0 then c.sqTail q value c.cqi.lastRequester else c
    if off % 8 = 4 then c.cqHeadWrite q value else if size = 8 then c.cqHeadWrite q (value / 2 ^ 32) else c
  else if 0x10000 ≤ off ∧ off < 0x20000 then c.blockWrite ((off - 0x10000) / 64) (off % 64) size value
  else if 0x4000000 ≤ off ∧ off < 0x4000040 then c.mailboxHeader (off - 0x4000000) size value
  else if 0x4001000 ≤ off ∧ off < 0x4002000 then
    c.onHost (fun h => { h with mailbox := { h.mailbox with
      buffer := (List.range (min size (0x4002000 - off))).foldl (fun m i =>
        m.store (off - 0x4001000 + i) (BitVec.ofNat 8 (value / 256 ^ i)) 0) h.mailbox.buffer } })
  else c

/-- An MSI-X table entry as 16 bytes. -/
def MsixEntry.image (e : MsixEntry) : Bytes := leBytes 8 e.address ++ leBytes 4 e.data ++ leBytes 4 (if e.mask then 1 else 0)

/-- A write to BAR4: the MSI-X table (Table 8.4). -/
def Chip.bar4Write (c : Chip) (off size value : Nat) : Chip :=
  if 0x4000 ≤ off then c
  else
    let v := off / 16
    let e := c.msixEntry v
    let b := patch e.image (off % 16) ((leBytes size value).take (16 - off % 16))
    let masked := leAt b 12 1 % 2 = 1
    (c.setMsix v { e with address := leAt b 0 8, data := leAt b 8 4, mask := masked }).msixRelease v

/-- The writable bits of a BAR whose size is a power of two, after a write of a part of its 64 bits (R219). -/
def barBase (size old place value : Nat) : Nat := leNat (patch (leBytes 8 old) place (leBytes 4 value)) / size * size

/-- A write of a BAR of the configuration header (Table 8.6): the odd ones are upper halves; the others are not implemented. -/
def HostPort.writeBar (h : HostPort) (n value : Nat) : HostPort :=
  if n < 2 then { h with bar0 := barBase (2 ^ 27) h.bar0 (4 * n) value }
  else if n = 4 ∨ n = 5 then { h with bar4 := barBase (2 ^ 20) h.bar4 (4 * (n - 4)) value }
  else h

/-- A write of a configuration field (R219, R226 to R229, R232). -/
def Chip.registerWrite (c : Chip) (t : RegTarget) (size value : Nat) : Chip :=
  match t with
  | .bar0 off => c.barWrite (fun c => c.bar0Write off size value)
  | .bar4 off => c.barWrite (fun c => c.bar4Write off size value)
  | .maxPayload => c.onHost (fun h => { h with maxPayload := 128 * 2 ^ min 2 (value % 8) })
  | .maxReadRequest => c.onHost (fun h => { h with maxRead := 128 * 2 ^ min 5 (value % 8) })
  | .completionTimeoutValue =>
    (c.onHost (fun h => { h with timeoutCode := value % 16 })).setVal 0x1817 0 (timeoutUs (value % 16))
  | .relaxedOrdering => c.onHost (fun h => { h with relaxed := value % 2 = 1 })
  | .tenBitTags => c.onHost (fun h => { h with tenBit := value % 2 = 1 })
  | .msixEnable => c.onHost (fun h => { h with msixEnable := value % 2 = 1 })
  | .msixFunctionMask =>
    if value % 2 = 1 then c.onHost (fun h => { h with msixMask := true }) else c.msixUnmask none
  | .ltrEnable => (c.onHost (fun h => { h with ltrEnable := value % 2 = 1 })).ltrCheck
  | .maxSnoop => c.onHost (fun h => { h with ltrCap := value % 2 ^ 16 })
  | .maxNoSnoop => c.onHost (fun h => { h with ltrCapNoSnoop := value % 2 ^ 16 })
  | .bar n => c.onHost (fun h => h.writeBar n (value % 2 ^ 32))
  | .expansionRom => c

/-- [PRESUMED, notes/assumptions/9.md] -/
def execRegisterWrite (target : RegTarget) (size value : Nat) (s : State) : Host.Outcome State Fault Refusal :=
  s.effect (fun c => c.registerWrite target size value)

def execMsixUnmask (vector : Option Nat) (s : State) : Host.Outcome State Fault Refusal := s.effect (fun c => c.msixUnmask vector)

/-! ### Fetching (R188) -/

/-- Entries of a ring that wait and are not being fetched. -/
def QueuePair.waiting (x : QueuePair) : Nat := (x.sqTail + x.sqSize - x.sqHead) % x.sqSize - x.fetching

/-- One ring's turn: at most `burst` entries, in ring order. [DEDUCED, notes/assumptions/42.md] -/
def Chip.fetchRing (c : Chip) (q : Nat) : Chip :=
  let x := c.queue q
  let n := min x.waiting x.burst
  if x.qstate ≠ 1 ∨ n = 0 then c
  else
    let c := c.setQueue q { x with fetching := x.fetching + n }
    let c := c.onCqi (fun k => { k with turn := q + 1 })
    c.each (List.range n) (fun c j =>
      let i := (x.sqHead + x.fetching + j) % x.sqSize
      c.onHost (fun h => { h with toRead := h.toRead ++ [(.entry q i, x.sqBase + 64 * i, 64)] }))

/-- SUBMISSION_FETCH: the rings in round-robin order of queue number, from the turn on. [DEDUCED, notes/assumptions/42.md] -/
def Chip.submissionFetch (c : Chip) : Chip :=
  if !c.cqi.enable || !c.hostOpen then c
  else
    let l := c.cqi.queues.keys
    let t := c.cqi.turn
    (c.each (l.filter (fun q => decide (t ≤ q)) ++ l.filter (fun q => decide (q < t))) Chip.fetchRing).pumpReads

def execSubmissionFetch (s : State) : Host.Outcome State Fault Refusal := s.effect Chip.submissionFetch

/-! ### Entries at the head of their ring -/

/-- The next entry of a ring, if it has arrived. [DEDUCED, notes/assumptions/42.md] -/
def Chip.headOf (c : Chip) (q : Nat) : Option Fetched :=
  c.cqi.arrived.find? (fun f => decide (f.queue = q) && decide (f.index = (c.queue q).sqHead))

/-- The entry at a ring's head is done with. -/
def Chip.takeHead (c : Chip) (q : Nat) : Chip :=
  let x := c.queue q
  let c := c.onCqi (fun k => { k with arrived := k.arrived.filter (fun f => !(decide (f.queue = q) && decide (f.index = x.sqHead))) })
  c.setQueue q { x with sqHead := (x.sqHead + 1) % x.sqSize, fetching := x.fetching - 1 }

def Chip.putHead (c : Chip) (f : Fetched) : Chip :=
  c.onCqi (fun k => { k with arrived := k.arrived.map (fun y => if y.queue = f.queue ∧ y.index = f.index then f else y) })

/-- The entry's checks need data of the host (R196, R228): a descriptor, or the value of a dictionary write.
[DEDUCED, notes/assumptions/43.md] -/
def Sub.needsData (s : Sub) : Bool := s.opcode = 0x20 || s.opcode = 0x22 || (s.opcode = 0x12 && decide (s.mode ≠ 0))

/-- Ask for a segment of an entry's list. -/
def Chip.askSegment (c : Chip) (f : Fetched) (a n : Nat) : Chip :=
  ((c.putHead { f with phase := 1, next := none, host := [], left := 16 * n }).wantRead (.preAccept f.queue 0) a (16 * n)).pumpReads

/-- Ask for the data of an entry. [DEDUCED, notes/assumptions/43.md] -/
def Chip.askData (c : Chip) (f : Fetched) (s : Sub) : Chip :=
  let l := if s.mode = 1 then [(s.addr, s.len, false)] else f.spans
  let c := c.putHead { f with phase := 2, host := [], left := spansLen l }
  (l.foldl (fun (a : Chip × Nat) t => (a.1.wantRead (.preAccept f.queue a.2) t.1 t.2.1, a.2 + t.2.1)) (c, 0)).1.pumpReads

/-- What an entry still needs before it can be accepted is asked for. -/
def Chip.askHost (c : Chip) (f : Fetched) (s : Sub) : Chip :=
  if s.mode = 2 then c.askSegment f s.addr s.len
  else if s.needsData then c.askData f s
  else c.putHead { f with phase := 3 }

/-- A command's list as far as it is known. -/
def Fetched.command (f : Fetched) (s : Sub) : Cmd :=
  { s.command f.queue with spans := f.spans, segment := f.next, segments := f.segments, value := f.host }

/-- Work through the heads of a ring (R188, R196). I/O commands are accepted or refused here, in ring order; an undefined opcode,
and an entry of queue 0, waits for its own row. [DEDUCED, notes/assumptions/42.md] -/
def Chip.pumpHeads : Nat → Chip → Nat → Chip
  | 0, c, _ => c
  | n + 1, c, q =>
    match c.headOf q with
    | none => c
    | some f =>
      let s := parseSub f.bytes
      let refuse := fun (st r : Nat) => Chip.pumpHeads n ((c.takeHead q).complete q s.cid 0 st r none []) q
      if (c.queue q).qstate ≠ 1 ∨ !opcodeAllowed q s.opcode then c
      else match c.checkSub q s with
        | some r => if q = 0 then c else refuse r.1 r.2
        | none =>
          if f.phase = 0 then
            let c := c.askHost f s
            if s.mode = 2 ∨ s.needsData then c else Chip.pumpHeads n c q
          else if f.phase ≠ 3 ∨ q = 0 then c
          else if f.status ≠ 0 then refuse f.status 0
          else if f.breach then refuse 0x0102 (Config.breachByte % 65536)
          else Chip.pumpHeads n ((c.takeHead q).acceptIo (f.command s)) q

/-- Every head of a ring that can go on. [DEDUCED, notes/assumptions/42.md] -/
def Chip.heads (c : Chip) (q : Nat) : Chip := Chip.pumpHeads (c.cqi.arrived.length * 2 + 1) c q

/-- A read for the head of a ring has brought bytes at an offset: a segment is followed by the next one or by the data.
[DEDUCED, notes/assumptions/43.md] -/
def Chip.headData (c : Chip) (q off : Nat) (data : Bytes) : Chip :=
  match c.headOf q with
  | none => c
  | some f =>
    let f := { f with host := patch f.host off data, left := f.left - data.length }
    let s := parseSub f.bytes
    if f.left ≠ 0 then c.putHead f
    else if f.phase = 2 then (c.putHead { f with phase := 3 }).heads q
    else match parseSegment f.host (f.host.length / 16) (s.opcode = 1) with
      | none => (c.putHead { f with phase := 3, breach := true }).heads q
      | some (l, next) =>
        let f := { f with spans := f.spans ++ l, next, segments := f.segments + 1, host := [] }
        if !listOk f.spans next f.segments (c.transferLen s) then (c.putHead { f with phase := 3, breach := true }).heads q
        else if !s.needsData then (c.putHead { f with phase := 3 }).heads q
        else match next with
          | some g => c.askSegment f g.1 g.2
          | none => c.askData f s

/-- A read for the head of a ring has failed (Table 8.11). [DESIGN CHOICE, notes/assumptions/34.md] -/
def Chip.headFailed (c : Chip) (q status : Nat) : Chip :=
  match c.headOf q with
  | none => c
  | some f => (c.putHead { f with phase := 3, status }).heads q

/-- UNDEFINED_OPCODE: the entry at the ring's head completes with 0x0101, or with the status that goes before it (R195). -/
def Chip.undefinedOpcode (c : Chip) (q : Nat) : Chip :=
  match c.headOf q with
  | none => c
  | some f =>
    let s := parseSub f.bytes
    match c.checkSub q s with
    | some r => if opcodeAllowed q s.opcode ∨ (c.queue q).qstate ≠ 1 then c
        else ((c.takeHead q).complete q s.cid 0 r.1 r.2 none []).heads q
    | none => c

def execUndefinedOpcode (queue : Nat) (s : State) : Host.Outcome State Fault Refusal := s.effect (fun c => c.undefinedOpcode queue)

end Sys2Proof.Machine
end

