-- ==== Sys2Proof/Machine/HostPort.lean ====
section
/-! DEFINITION. Reads of host memory and how they end (R228 to R231), the rows of the data commands (R195, R198 to R200), bus
master enable and power states (R233 to R235), function-level reset (R236, R237) and the other resets of the host port
(R239, R240). -/

namespace Sys2Proof.Machine

/-! ### Commands in progress -/

def Chip.cmdOf (c : Chip) (acc : Nat) : Option Cmd := c.cqi.cmds.find? (fun x => decide (x.acc = acc) && !x.dead)

/-- End a command whose host transfer failed (Table 8.11, R191). -/
def Chip.failTransfer (c : Chip) (x : Cmd) (status result : Nat) : Chip :=
  if x.isWrite then (c.failWrite x status).pumpHost else (c.endCmd x status result).pumpHost

/-- Bytes of an entry of a log (Table 7.13). -/
def logEntry (arg0 : Nat) : Nat := if arg0 % 256 = 1 then 64 else if arg0 % 256 = 3 then 128 else 32

/-- The bytes of an admin command go to the host once its whole list is known (R211). -/
def Chip.finishAdmin (c : Chip) (x : Cmd) : Chip :=
  let l := x.buffers
  if !c.hostOpen then c.putCmd { x with stage := .aborted401 }
  else
    -- a log is copied in whole entries
    let e := if x.opcode = 0x10 then logEntry x.arg0 else 1
    c.endCmd x 0 x.lastSeq (spread l (fit (spansLen l) (x.value.take (spansLen l / e * e))))

/-- A segment of an accepted command is whole (R190, R191). -/
def Chip.segmentWhole (c : Chip) (x : Cmd) (n : Nat) : Chip :=
  let len := if x.opcode = 1 ∨ x.opcode = 2 then some (x.count * 4096)
    else if x.opcode = 0x11 then some x.value.length else if x.opcode = 0x28 then some 128 else none
  match parseSegment x.segData n (x.opcode = 1) with
  | none => c.failTransfer x 0x0102 (Config.breachByte % 65536)
  | some (l, next) =>
    let old := spansLen x.spans
    let x := { x with spans := x.spans ++ l, segment := next, segData := [], segGot := 0, segments := x.segments + 1 }
    if !listOk x.spans next x.segments len then c.failTransfer x 0x0102 (Config.breachByte % 65536)
    else
      let c := c.putCmd x
      let c := if x.opcode = 2 then
          (l.foldl (fun (a : Chip × Nat) t => (a.1.wantRead (.writeData x.acc a.2) t.1 t.2.1, a.2 + t.2.1)) (c, old)).1
        else c
      match next with
      | some g => (c.wantRead (.segment x.acc 0) g.1 (16 * g.2)).pumpReads
      | none =>
        if x.opcode = 1 then (if x.need.isEmpty ∧ x.stage = .reading then c.deliverRead x else c)
        else if x.opcode = 2 then c.pumpReads
        else c.finishAdmin x

/-- Bytes of a scatter-list segment have arrived. -/
def Chip.segmentData (c : Chip) (acc off : Nat) (data : Bytes) : Chip :=
  match c.cmdOf acc with
  | none => c
  | some x =>
    match x.segment with
    | none => c
    | some g =>
      let x := { x with segData := patch x.segData off data, segGot := x.segGot + data.length }
      if x.segGot < 16 * g.2 then c.putCmd x else c.segmentWhole x g.2

/-- Put bytes into a command's data by 4 KiB block. -/
def Cmd.place (x : Cmd) (off : Nat) (data : Bytes) : Cmd :=
  let lo := off / 4096
  let hi := (off + data.length + 4095) / 4096
  { x with data := ((List.range (hi - lo)).map (fun j => lo + j)).foldl (fun m b =>
      let start := max off (b * 4096)
      let stop := min (off + data.length) (b * 4096 + 4096)
      m.put b (patch (m.getD b []) (start - b * 4096) (slice data (start - off) (stop - start)))) x.data }

/-- Write data has arrived (R72, R73). -/
def Chip.writeDataArrived (c : Chip) (acc off : Nat) (data : Bytes) : Chip :=
  match c.cmdOf acc with
  | none => c
  | some x =>
    let x := { x.place off data with got := x.got + data.length }
    if x.got < x.count * 4096 ∨ x.segment.isSome then c.putCmd x
    else ((c.putCmd x).dataWhole x).pumpHost

/-- A block of a write-through write has been fetched again (Table 14.3). -/
def Chip.refetched (c : Chip) (acc off : Nat) (data : Bytes) : Chip :=
  match c.cmdOf acc with
  | none => c
  | some x =>
    let x := x.place off data
    let b := x.first + off / 4096
    (c.putCmd x).setVersions x.piste b ((c.versions x.piste b).map (fun v =>
      if v.state = .through ∧ v.acc = acc then { v with data := x.block b } else v))

/-! ### Ends of reads (R230, R231) -/

/-- What the end of a read leads to. -/
def Chip.readEnded (c : Chip) (r : HostRead) (out : HostReadOutcome) (status : Nat) : Chip :=
  if r.dead then c
  else match out, r.why with
    | .data b, .entry q i =>
      if (c.queue q).qstate ≠ 1 then c
      else
        let f : Fetched := { queue := q, index := i, bytes := fit 64 b, phase := 0, spans := [], next := none, segments := 0, host := [],
                             left := 0, status := 0, breach := false }
        (c.onCqi (fun k => { k with arrived := k.arrived ++ [f] })).heads q
    | .data b, .preAccept q o => c.headData q o (fit r.bytes b)
    | .data b, .segment a o => c.segmentData a o (fit r.bytes b)
    | .data b, .writeData a o => c.writeDataArrived a o (fit r.bytes b)
    | .data b, .refetch a o => c.refetched a o (fit r.bytes b)
    | _, .entry q _ => c.queueError q 3
    | _, .preAccept q _ => c.headFailed q status
    | _, .segment a _ => (match c.cmdOf a with | some x => c.failTransfer x status 0 | none => c)
    | _, .writeData a _ => (match c.cmdOf a with | some x => c.failTransfer x status 0 | none => c)
    | _, .refetch a _ => (match c.cmdOf a with | some x => c.failTransfer x status 0 | none => c)

/-- Status and counter of a failed read (Table 8.11). -/
def failure : HostReadOutcome → Nat × Nat
  | .data _ => (0, 0)
  | .poisoned => (0x0403, 0x1815)
  | .unsupported => (0x0401, 0x1816)
  | .completerAbort => (0x0401, 0x1816)

/-- HOST_READ_COMPLETION. One for a held tag, or for a tag with no read outstanding, is unexpected (R231). -/
def Chip.hostReadCompletion (c : Chip) (tag : Nat) (out : HostReadOutcome) : Chip :=
  match c.host.reads.find? (fun r => decide (r.tag = tag)) with
  | none => (c.bump 0x1814).bump 0x1853
  | some r =>
    let c := c.onHost (fun h => { h with reads := h.reads.filter (fun y => decide (y.tag ≠ tag)) })
    let f := failure out
    let c := if f.1 = 0 then c else (c.bump f.2).bump 0x1853
    (c.readEnded r out f.1).pumpReads

def execHostReadCompletion (tag : Nat) (outcome : HostReadOutcome) (s : State) : Host.Outcome State Fault Refusal :=
  s.effect (fun c => c.hostReadCompletion tag outcome)

/-- COMPLETION_TIMEOUT: the tag is held (R229, R231). -/
def Chip.completionTimeout (c : Chip) (tag : Nat) : Chip :=
  match c.host.reads.find? (fun r => decide (r.tag = tag)) with
  | none => c
  | some r =>
    let c := c.onHost (fun h => { h with reads := h.reads.filter (fun y => decide (y.tag ≠ tag)), quarantine := h.quarantine ++ [tag] })
    let c := (c.bump 0x1813).bump 0x1853
    (c.readEnded r .completerAbort 0x0402).pumpReads

def execCompletionTimeout (tag : Nat) (s : State) : Host.Outcome State Fault Refusal := s.effect (fun c => c.completionTimeout tag)

def execTagQuarantineExpiry (tag : Nat) (s : State) : Host.Outcome State Fault Refusal :=
  s.effect (fun c => (c.onHost (fun h => { h with quarantine := h.quarantine.filter (fun t => decide (t ≠ tag)) })).pumpReads)

/-! ### Rows of the data commands -/

/-- An accepted command that has not begun. [DESIGN CHOICE, notes/assumptions/4.md] -/
def Chip.freshCmd (c : Chip) (queue cid opcode : Nat) : Option Cmd :=
  match c.findCmd queue cid with
  | some x => if x.opcode = opcode ∧ x.stage = .fresh then some x else none
  | none => none

/-- READ: later segments are asked for, and the blocks it needs (R199). [DEDUCED, notes/assumptions/33.md] -/
def Chip.beginRead (c : Chip) (queue cid : Nat) : Chip :=
  match c.freshCmd queue cid 1 with
  | none => c
  | some x =>
    let c := match x.segment with | some g => c.wantRead (.segment x.acc 0) g.1 (16 * g.2) | none => c
    (c.continueRead x).pumpReads.flushHeld

def execRead (queue cid : Nat) (s : State) : Host.Outcome State Fault Refusal := s.effect (fun c => c.beginRead queue cid)

/-- WRITE, DEALLOCATE or WRITE_ZEROES (R72, R137, R200). -/
def Chip.beginWrite (c : Chip) (queue cid opcode : Nat) : Chip :=
  match c.freshCmd queue cid opcode with
  | none => c
  | some x =>
    (c.startWrite x).pumpHost

def execWrite (queue cid : Nat) (s : State) : Host.Outcome State Fault Refusal := s.effect (fun c => c.beginWrite queue cid 2)
def execDeallocate (queue cid : Nat) (s : State) : Host.Outcome State Fault Refusal := s.effect (fun c => c.beginWrite queue cid 4)
def execWriteZeroes (queue cid : Nat) (s : State) : Host.Outcome State Fault Refusal := s.effect (fun c => c.beginWrite queue cid 5)

/-- FLUSH (R78). -/
def Chip.beginFlush (c : Chip) (queue cid : Nat) : Chip :=
  match c.freshCmd queue cid 3 with
  | none => c
  | some x => (c.putCmd { x with stage := .waiting }).pumpFlushes

def execFlush (queue cid : Nat) (s : State) : Host.Outcome State Fault Refusal := s.effect (fun c => c.beginFlush queue cid)

/-! ### Bus master enable (R233, R234) and D3hot (R235) -/

/-- A command's transfer with the host is not finished (R233). -/
def Cmd.transferring (x : Cmd) : Bool :=
  !x.dead && (x.opcode = 1 || (x.opcode = 2 && x.stage != .whole && x.stage != .through) || decide (0x10 ≤ x.opcode))

/-- The device may issue nothing more: reads outstanding are discarded, affected commands wait for 0x0401, entries being fetched
are fetched again. [DEDUCED, notes/assumptions/46.md] -/
def Chip.hostCloses (c : Chip) : Chip :=
  let c := c.onHost (fun h => { h with
    toRead := []
    reads := h.reads.map (fun r => { r with dead := true })
    bmeSinceNs := match h.bmeSinceNs with | some t => some t | none => some c.clk.opNs })
  let c := c.onCqi (fun k => { k with
    cmds := k.cmds.map (fun x => if x.transferring then { x with stage := .aborted401 } else x)
    arrived := k.arrived.map (fun f => if f.phase = 3 then f else { f with phase := 0, spans := [], next := none, segments := 0, host := [], left := 0 })
    queues := k.queues.mapVal (fun q x => { x with fetching := countOf k.arrived (fun f => decide (f.queue = q)) }) })
  c

/-- Memory requests are possible again (R233, R234): held entries first, then the affected commands. -/
def Chip.hostOpens (c : Chip) : Chip :=
  if !c.hostOpen then c
  else
    let c := c.onHost (fun h => { h with bmeSinceNs := none })
    let c := c.onCqi (fun k => { k with queues := k.queues.mapVal (fun _ x => if x.qstate = 3 ∧ x.qerror = 4 then { x with usable := true } else x) })
    let c := c.flushHeld
    let c := c.each (c.cqi.cmds.filter (fun x => x.stage = .aborted401)) (fun c x =>
      if x.isWrite then c.failWrite x 0x0401 else c.endCmd x 0x0401)
    let c := c.each c.cqi.queues.keys Chip.heads
    c.pumpHost.pumpReads

/-- BUS_MASTER_DISABLE. -/
def execBusMasterDisable (s : State) : Host.Outcome State Fault Refusal :=
  s.effect (fun c => if c.host.busMaster then (c.onHost (fun h => { h with busMaster := false })).hostCloses else c)

/-- BUS_MASTER_ENABLE. -/
def execBusMasterEnable (s : State) : Host.Outcome State Fault Refusal :=
  s.effect (fun c => if c.host.busMaster then c else (c.onHost (fun h => { h with busMaster := true })).hostOpens)

/-- BME_CLEAR_LIMIT_EXPIRY: queues that hold a completion enter ERROR (R234). -/
def Chip.bmeLimit (c : Chip) : Chip :=
  match c.host.bmeSinceNs with
  | none => c
  | some t =>
    if (c.host.busMaster && !c.host.d3) || !c.elapsedMs t (c.val 0x1832) then c
    else
      let holds := fun (q : Nat) => c.cqi.held.any (fun e => !e.event && decide (e.queue = q))
      let l := c.cqi.queues.keys.filter (fun q => holds q && decide ((c.queue q).qstate ≠ 3))
      ((c.onHost (fun h => { h with bmeSinceNs := none })).bump 0x1833).each l (fun c q => c.queueError q 4)

def execBmeClearLimitExpiry (s : State) : Host.Outcome State Fault Refusal := s.effect Chip.bmeLimit

def execPowerStateD3hot (s : State) : Host.Outcome State Fault Refusal :=
  s.effect (fun c =>
    if c.host.d3 then c
    else if !c.host.busMaster then c.onHost (fun h => { h with d3 := true })
    else (c.onHost (fun h => { h with d3 := true })).hostCloses)

def execPowerStateD0 (s : State) : Host.Outcome State Fault Refusal :=
  s.effect (fun c => if c.host.d3 then (c.onHost (fun h => { h with d3 := false })).hostOpens else c)

/-! ### Resets of the host port (R236 to R240, Table 16.4) -/

/-- Every accepted command ends without a completion (R237): a write whose data is whole goes on to be applied. -/
def Chip.endCommands (c : Chip) : Chip :=
  let keep := fun (x : Cmd) => x.isWrite && (x.stage = .whole || x.stage = .through)
  let ended := c.cqi.cmds.filter (fun x => x.isWrite && !keep x)
  let c := c.onCqi (fun k => { k with
    cmds := (k.cmds.filter keep).map (fun x => { x with dead := true })
    held := k.held.filter (fun e => e.event)
    arrived := [] })
  let c := c.each ended Chip.releasePages
  let gone := fun (v : Version) => v.state = .through && v.entry = 0 && !(c.cqi.cmds.any (fun x => decide (x.acc = v.acc)))
  let c := c.onCache (fun k => { k with blocks := (k.blocks.map (fun b => (b.1, b.2.filter (fun v => !gone v)))).filter (fun b => !b.2.isEmpty) })
  c.onHost (fun h => { h with toRead := [], reads := h.reads.map (fun r => { r with dead := true }) })

/-- A write-back write whose every block is whole is applied at once, where no partner is waited for any more (R237, R364). -/
def Chip.applyWhole (c : Chip) : Chip :=
  c.each (c.cqi.cmds.filter (fun x => x.isWrite && x.stage = .whole)) (fun c x => c.ackWrite { x with dead := true })

/-- A write-through write whose every block is whole is applied where LPDDR6 is kept and no entry on record carries it (R237): its blocks
become DIRTY. [DEDUCED, notes/assumptions/78.md] -/
def Chip.applyThrough (c : Chip) (live : List Nat) : Chip :=
  c.each (c.cqi.cmds.filter (fun x => x.isWrite && x.stage = .through)) (fun c x =>
    let loose := fun (v : Version) => v.state = .through && decide (v.acc = x.acc) && !v.landed && (v.entry = 0 || decide (v.entry - 1 ∉ live))
    let blocks := x.blocks.filter (fun b => (c.versions x.piste b).any loose)
    let c := c.each blocks (fun c b => c.setVersions x.piste b ((c.versions x.piste b).filter (fun v => !loose v)))
    (c.applyWrite x blocks).dropCmd x.acc)

/-- Queue-pair blocks, unit registers, mailbox and MSI-X at their reset values; HANDLE_END events already written count as passed
(R203). Counts that objects report go on. -/
def Chip.resetQueues (c : Chip) : Chip :=
  let c := c.passEnds (fun _ => true)
  let c := c.onCqi (fun k => { k with
    enable := false, droppedBit := false, turn := 0
    queues := k.queues.mapVal (fun _ x => { QueuePair.reset with accepted := x.accepted, errors := x.errors }) })
  c.onHost (fun h => { h with mailbox := Mailbox.reset, msix := [] })

/-- Configuration space at its reset values. [PRESUMED, notes/assumptions/9.md] -/
def HostPort.resetConfig (h : HostPort) : HostPort :=
  { h with bar0 := 0, bar4 := 0, busMaster := false, bmeSinceNs := none, d3 := false, maxPayload := 128, maxRead := 512, timeoutCode := 0, relaxed := true,
           tenBit := false, msixEnable := false, msixMask := false, ltrEnable := false, ltrCap := 0, ltrCapNoSnoop := 0
           ltrState := 0 }

/-- FUNCTION_LEVEL_RESET. [DEDUCED, notes/assumptions/46.md] -/
def Chip.flrBegin (c : Chip) : Chip :=
  if !c.host.ready ∨ c.host.flr.isSome then c
  else
    let c := (c.onHost (fun h => { h with flr := some c.clk.opNs })).bump 0x1830
    ((c.endCommands).setVal 0x5401 0 6).bump 0x5402 6 |>.record 0xC01

def execFunctionLevelReset (s : State) : Host.Outcome State Fault Refusal := s.effect Chip.flrBegin

/-- FLR_COMPLETE: once every outstanding read has ended. [DEDUCED, notes/assumptions/46.md] -/
def Chip.flrDone (c : Chip) : Chip :=
  match c.host.flr with
  | none => c
  | some t =>
    if !c.host.reads.isEmpty then c
    else
      let busy := decide (c.host.mailbox.status = 1)
      let c := c.resetQueues.onHost (fun h => { h.resetConfig with
        flr := none, mailbox := { Mailbox.reset with status := if busy then 6 else 0 } })
      (c.setVal 0x1817 0 50000).setVal 0x1831 0 ((c.clk.opNs - t) / 1000)

def execFlrComplete (s : State) : Host.Outcome State Fault Refusal := s.effect Chip.flrDone

/-- The link is gone or reset: the port resets and trains again. Tags of reads that were outstanding are free again.
[DEDUCED, notes/assumptions/46.md] -/
def Chip.portReset (c : Chip) (cause : Nat) : Chip :=
  let c := c.endCommands.resetQueues
  let c := c.onHost (fun h => { h.resetConfig with
    ready := false, flr := none, reads := [], toRead := [], quarantine := [], speed := 0, width := 0, flit := false })
  (((c.setVal 0x1817 0 50000).setVal 0x5401 0 cause).bump 0x5402 cause).record (0xC10 + cause)

/-- HOST_LINK_DOWN and HOT_RESET are resets of kind HOT (Table 16.3). -/
def Chip.linkDown (c : Chip) (lost : Bool) : Chip :=
  if c.host.perst then c
  else
    let c := if lost then c.bump 0x1805 else c
    ((c.portReset 5).onHost (fun h => { h with releaseNs := some c.clk.opNs })).emit .hostTrain

def execHostLinkDown (s : State) : Host.Outcome State Fault Refusal := s.effect (fun c => c.linkDown true)
def execHotReset (s : State) : Host.Outcome State Fault Refusal := s.effect (fun c => c.linkDown false)

/-- The counters of 0x1800–0x18FF that a PERST_N reset clears (Table 16.4). -/
def hostCounters : List Nat := [0x1804, 0x1805, 0x1813, 0x1814, 0x1815, 0x1816, 0x1825, 0x1830, 0x1831, 0x1833, 0x1840, 0x1841, 0x1851, 0x1852, 0x1853]

def Chip.clearHostCounters (c : Chip) : Chip := c.each hostCounters (fun c i => c.setVal i 0 0)

/-- PERST_N_ASSERT. -/
def execPerstNAssert (s : State) : Host.Outcome State Fault Refusal :=
  s.effect (fun c => if c.host.perst then c else
    ((c.portReset 4).clearHostCounters).onHost (fun h => { h with perst := true, releaseNs := none }))

/-- PERST_N_RELEASE: training begins 20 ms later (R240). -/
def execPerstNRelease (s : State) : Host.Outcome State Fault Refusal :=
  s.effect (fun c => if c.host.perst then
    (c.onHost (fun h => { h with perst := false, releaseNs := some c.clk.opNs })).emit .hostTrain else c)

/-- HOST_LINK_READY (R240, R437): the rate is one the port trains to. -/
def Chip.linkReady (c : Chip) (speed width : Nat) (flit : Bool) : Chip :=
  if c.host.perst ∨ c.host.ready ∨ speed < 4 ∨ c.val 0x1803 < speed ∨ !(width = 16 ∨ width = 8 ∨ width = 4 ∨ width = 2 ∨ width = 1) then c
  else
    let t := match c.host.releaseNs with | some t => (c.clk.opNs - t) / 1000000 | none => 0
    ((c.onHost (fun h => { h with ready := true, speed, width, flit := flit || decide (speed = 6) })).bump 0x1804).setVal 0x5403 0 t

def execHostLinkReady (speed width : Nat) (flit : Bool) (s : State) : Host.Outcome State Fault Refusal :=
  s.effect (fun c => c.linkReady speed width flit)

end Sys2Proof.Machine
end

