-- ==== Sys2Proof/Machine/Admin.lean ====
section
/-! DEFINITION. The rows of queue 0 (Table 7.6): what is common to them (R192, R195, R196, R201), the logs (R211), dictionary
reads, handles (R202, R204), ABORT (R210), sweeps (R168), grooming by command, rebuild by command (R148), drains (R161),
replacements (R162) and the vault test (R383). -/

namespace Sys2Proof.Machine

/-! ### Entries of queue 0 -/

/-- The entry at queue 0's head completes without having been accepted. -/
def Chip.refuseHead (c : Chip) (s : Sub) (status result : Nat) : Chip :=
  ((c.takeHead 0).complete 0 s.cid 0 status result none []).heads 0

/-- The entry at queue 0's head is accepted (R196). -/
def Chip.acceptHead (c : Chip) (f : Fetched) (s : Sub) : Chip × Cmd := (c.takeHead 0).accept (f.command s)

/-- It is accepted and completes at once. -/
def Chip.finishHead (c : Chip) (f : Fetched) (s : Sub) (status result : Nat) (data : List (Nat × Bytes)) : Chip :=
  let r := c.acceptHead f s
  (r.1.complete 0 s.cid r.2.acc status result r.2.named data).heads 0

/-- A row of queue 0: the checks before acceptance in the order of R195, then, with everything the entry needs at hand, what
the row does. -/
def Chip.admin (c : Chip) (op cid : Nat) (run : Chip → Fetched → Sub → Chip) : Chip :=
  match c.headOf 0 with
  | none => c
  | some f =>
    let s := parseSub f.bytes
    let waits := decide (s.mode = 2) || s.needsData
    if s.opcode ≠ op ∨ s.cid ≠ cid ∨ (c.queue 0).qstate ≠ 1 then c
    else match c.checkSub 0 s with
      | some r =>
        -- a refused write is logged (R341)
        let w : Writer := { origin := .host, route := .queue, originId := c.cqi.lastRequester }
        let c := if op = 0x12 ∧ r.2 = 24 + 65536 then
            c.logChange (s.arg0 % 65536) (s.arg0 / 65536 % 256) w 1 0 0 (if s.mode = 0 then s.arg1 else 0) false
          else c
        c.refuseHead s r.1 r.2
      | none =>
        if waits && decide (f.phase = 0) then c.askHost f s
        else if waits && decide (f.phase ≠ 3) then c
        else if f.status ≠ 0 then c.refuseHead s f.status 0
        else if f.breach then c.refuseHead s 0x0102 (Config.breachByte % 65536)
        else run c f s

/-- A refusal that the device logs (R341): index 0, the opcode as subindex, the reason and the check number. -/
def Chip.refuseLogged (c : Chip) (s : Sub) (reason check result : Nat) : Chip :=
  let w : Writer := { origin := .host, route := .queue, originId := c.cqi.lastRequester }
  (c.logChange 0 s.opcode w reason check 0 0 false).refuseHead s 0x0102 result

/-- A long command (R201): it takes a handle slot and completes with its handle; then the operation begins. -/
def Chip.longCommand (c : Chip) (f : Fetched) (s : Sub) (piste : Nat) (start : Chip → Nat → Chip) : Chip :=
  match c.freeHandle with
  | none => c.refuseHead s 0x0102 (0xFFFE * 65536)
  | some slot =>
    let r := c.acceptHead f s
    let c := r.1.takeHandle slot (handleKind s.opcode) piste r.2.acc s.arg3
    let c := c.complete 0 s.cid r.2.acc 0 (c.handle slot).value r.2.named []
    (start c slot).heads 0

/-- A command whose answer goes to host memory: at once, or once the rest of its scatter list has been read. -/
def Chip.answer (c : Chip) (f : Fetched) (s : Sub) (result : Nat) (bytes : Bytes) : Chip :=
  let r := c.acceptHead f s
  let x := { r.2 with value := bytes, lastSeq := result, stage := .reading }
  if s.mode = 0 then (r.1.complete 0 s.cid x.acc 0 result x.named []).heads 0
  else
    let c := r.1.onCqi (fun k => { k with cmds := k.cmds ++ [x] })
    match x.segment with
    | some g => ((c.wantRead (.segment x.acc 0) g.1 (16 * g.2)).pumpReads).heads 0
    | none => (c.finishAdmin x).heads 0

/-! ### GET_LOG (R211) -/

/-- A deferred-error log entry (Table 7.16). -/
def Deferred.bytes (d : Deferred) : Bytes :=
  fit 64 (leBytes 4 d.number ++ leBytes 1 d.piste ++ leBytes 1 d.kind ++
    leBytes 2 ((if d.delivered then 1 else 0) + (if d.posted then 2 else 0) + (if d.closed then 4 else 0)) ++
    leBytes 8 d.first ++ leBytes 8 d.count ++ leBytes 8 d.logSeq ++ leBytes 6 d.carriedBy ++ leBytes 2 d.carriedQueue ++
    leBytes 4 d.source)

/-- A range of the LOST_RANGES log. -/
structure LostLog where
  piste : Nat
  status : Nat
  first : Nat
  count : Nat
  seq : Nat

/-- A lost-range log entry (Table 7.17). -/
def LostLog.bytes (l : LostLog) : Bytes :=
  leBytes 1 l.piste ++ leBytes 1 0 ++ leBytes 2 l.status ++ leBytes 8 l.first ++ leBytes 4 l.count ++ leBytes 8 l.seq ++ leBytes 8 0

/-- Place a range by piste and block. -/
def placeLost (l : LostLog) : List LostLog → List LostLog
  | [] => [l]
  | a :: r => if l.piste < a.piste ∨ (l.piste = a.piste ∧ l.first < a.first) then l :: a :: r else a :: placeLost l r

/-- Host ranges of a lost stripe: by its columns, or by walking the map. -/
def Chip.lostHostRanges (c : Chip) (l : LostStripe) : List (Nat × Nat) :=
  let x := c.piste l.piste
  let g := x.geometry ⟨l.piste, l.newGeom, 0, l.stripe⟩
  if x.groomed then
    ((x.held.getD l.stripe []).map (fun gno =>
      let o := mapOffset (x.mapOf gno) % max 1 g.b
      let lo := max o l.first
      let hi := min (o + x.gb) (l.first + l.count)
      match c.stripeOfEntry x (x.mapOf gno) with
      | some (_, col) => if l.columns.testBit col ∧ lo < hi then [(gno * x.gb + (lo - o), hi - lo)] else []
      | none => [])).flatten
  else
    ((List.range g.k).filter (fun col => l.columns.testBit col)).map (fun col =>
      (g.hostBlock l.stripe col l.first, l.count))

/-- Every host range that answers 0x0201 or 0x0404, by piste and block. -/
def Chip.lostLog (c : Chip) : List LostLog :=
  let a : List LostLog := (c.cache.lostStripes.map (fun l => (c.lostHostRanges l).map (fun r =>
    { piste := l.piste, status := 0x0201, first := r.1, count := r.2, seq := l.logSeq }))).flatten
  let b : List LostLog := c.cache.lostRanges.map (fun l =>
    { piste := l.piste, status := 0x0404, first := l.first, count := l.count, seq := l.seq })
  (a ++ b).foldl (fun m l => placeLost l m) []

/-- The piste an event concerns. [DEDUCED, notes/assumptions/47.md] -/
def CqEntry.eventPiste (e : CqEntry) : Option Nat := if e.status = 2 then some (e.result / 2 ^ 32 % 256) else none

/-- A log's entries as bytes, after the filter, and the newest sequence number. [DEDUCED, notes/assumptions/47.md] -/
def Chip.logBytes (c : Chip) (id : Nat) (filter : Option Nat) : List Bytes × Nat :=
  let keep := fun (p : Option Nat) => match filter with
    | none => true
    | some q => decide (p = some q)
  if id = 1 then
    let l := keepLast 1024 c.cqi.deferred
    ((l.filter (fun d => keep (some d.piste))).map Deferred.bytes, maxOf (l.map (fun d => d.logSeq)))
  else if id = 2 then
    let l := c.lostLog
    ((l.filter (fun r => keep (some r.piste))).map LostLog.bytes, maxOf (l.map (fun r => r.seq)))
  else if id = 3 then
    (((c.cqi.handles.filter (fun h => decide (h.2.value ≠ 0) && keep (some h.2.piste)))).map (fun h => h.2.bytes), 0)
  else if id = 4 then
    let l := c.cqi.errorLog
    ((l.filter (fun t => keep t.1.piste)).map (fun t => t.1.logBytes t.2.2.2 t.2.2.1 t.2.1), maxOf (l.map (fun t => t.2.1)))
  else
    let l := c.cqi.eventLog
    ((l.filter (fun t => keep t.1.eventPiste)).map (fun t => t.1.logBytes t.2.2 0 t.2.1), maxOf (l.map (fun t => t.2.1)))

/-- GET_LOG. [DEDUCED, notes/assumptions/47.md] -/
def Chip.getLog (c : Chip) (cid : Nat) : Chip :=
  c.admin 0x10 cid (fun c f s =>
    let r := c.logBytes (s.arg0 % 256) (if s.arg0.testBit 8 then some s.piste else none)
    c.answer f s r.2 ((r.1.drop (s.arg1 / logEntry s.arg0)).flatten))

def execGetLog (cid : Nat) (s : State) : Host.Outcome State Fault Refusal := s.effect (fun c => c.getLog cid)

/-! ### DICT_READ (R193) -/

def Chip.dictRead (c : Chip) (cid : Nat) : Chip :=
  c.admin 0x11 cid (fun c f s =>
    let b := (c.readObject (s.arg0 % 65536) (s.arg0 / 65536 % 256)).getD []
    c.answer f s (if b.length ≤ 8 then leNat b else 0) b)

def execDictRead (cid : Nat) (s : State) : Host.Outcome State Fault Refusal := s.effect (fun c => c.dictRead cid)

/-! ### Handles (R202 to R204) -/

/-- A handle's record as a query gives it: the progress of a running operation is the device's own figure.
[DESIGN CHOICE, notes/assumptions/48.md] -/
def Chip.queried (c : Chip) (h : Handle) : Handle × Chip :=
  if h.state = 0 then ({ h with progress := Config.progress c.draws % 1001 }, { c with draws := c.draws + 1 }) else (h, c)

def Chip.handleQuery (c : Chip) (cid : Nat) : Chip :=
  c.admin 0x28 cid (fun c f s =>
    let v := s.arg0 % 2 ^ 32
    let h := c.handle (v % 65536)
    if v ≠ 0 ∧ h.value = v then
      let r := c.queried h
      r.2.answer f s (r.1.state + r.1.progress * 65536) r.1.bytes
    else c.answer f s 4 ({ Handle.reset with value := v, state := 4 } : Handle).bytes)

def execHandleQuery (cid : Nat) (s : State) : Host.Outcome State Fault Refusal := s.effect (fun c => c.handleQuery cid)

/-- A running operation is told to stop (R204). -/
def Chip.cancelHandle (c : Chip) (slot : Nat) : Chip :=
  let h := c.handle slot
  let kind := h.value / 2 ^ 28
  let c := c.setHandle slot { h with cancelling := true }
  if kind = 5 then c.updSweep slot (fun s => { s with cancelled := true })
  else if kind = 6 then
    c.each (c.livePistes.filter (fun p => p.2.forced.any (fun f => decide (f.1 = slot)))) (fun c p =>
      c.updPiste p.1 (fun x =>
        let others := x.forced.any (fun f => decide (f.1 ≠ slot))
        if x.groomState = 0 ∧ !others then { x with copyQueue := [], victim := none } else x))
  else if kind = 4 then
    let c := c.each h.slots (fun c pe => c.onSlots pe.1 (fun r =>
      if r.index = pe.2 ∧ (r.state = 1 ∨ r.state = 2 ∨ r.state = 0) then { r with state := 0, cancelled := true } else r))
    c.endHandle slot 3 0x0108 []
  else c

def Chip.handleCancel (c : Chip) (cid : Nat) : Chip :=
  c.admin 0x29 cid (fun c f s =>
    let v := s.arg0 % 2 ^ 32
    let slot := v % 65536
    let h := c.handle slot
    let kind := v / 2 ^ 28
    if v = 0 ∨ h.value ≠ v ∨ h.state ≠ 0 then c.finishHead f s 0x0109 0 []
    else if !(kind = 5 ∨ kind = 6 ∨ kind = 4 ∨ kind = 9) then c.refuseHead s 0x0102 24
    else if h.cancelling then c.finishHead f s 0x0109 0 []
    else (c.finishHead f s 0 0 []).cancelHandle slot)

def execHandleCancel (cid : Nat) (s : State) : Host.Outcome State Fault Refusal := s.effect (fun c => c.handleCancel cid)

/-! ### ABORT (R210) -/

/-- The target has not been applied and can still be ended (Table 7.15). -/
def Cmd.endable (x : Cmd) : Bool :=
  decide (x.opcode = 1) || decide (x.opcode = 3) ||
    (x.isWrite && (x.stage = .fresh || x.stage = .waitOverlap || x.stage = .gated || x.stage = .allowance ||
      x.stage = .fetching || x.stage = .aborted401))

def Chip.abort (c : Chip) (cid : Nat) : Chip :=
  c.admin 0x08 cid (fun c f s =>
    let q := s.arg0 % 65536
    let n := s.arg0 / 65536 % 65536
    match c.findCmd q n with
    | none => c.finishHead f s 0x0109 0 []
    | some x =>
      if x.endable then ((c.failTransfer x 0x0108 0).bump 0x1A17).finishHead f s 0 0 []
      else
        let r := c.acceptHead f s
        (r.1.onCqi (fun k => { k with cmds := k.cmds ++ [{ r.2 with stage := .waiting, target := some (q, n) }] })).heads 0)

def execAbort (cid : Nat) (s : State) : Host.Outcome State Fault Refusal := s.effect (fun c => c.abort cid)

/-! ### SWEEP (R168) -/

def Chip.beginSweep (c : Chip) (cid : Nat) : Chip :=
  c.admin 0x24 cid (fun c f s =>
    c.longCommand f s s.piste (fun c slot =>
      let w : Sweep :=
        { handle := slot, piste := s.piste, first := s.arg0, last := s.arg0 + s.arg1, flags := s.arg2 % 65536, stripe := 0,
          blocksRead := 0, corrected := 0, rebuilt := 0, lost := 0, checked := 0, unlocated := 0, startStride := c.clk.stride,
          cancelled := false }
      (c.onCqi (fun k => { k with sweeps := k.sweeps ++ [w] }))))

def execSweep (cid : Nat) (s : State) : Host.Outcome State Fault Refusal := s.effect (fun c => c.beginSweep cid)

/-! ### GROOM_FORCE -/

/-- [DEDUCED, notes/assumptions/37.md] -/
def Chip.groomForce (c : Chip) (cid : Nat) : Chip :=
  c.admin 0x25 cid (fun c f s =>
    let n := s.arg1 % 2 ^ 32
    c.longCommand f s s.piste (fun c slot =>
      c.updPiste s.piste (fun x => { x with
        forced := x.forced ++ [(slot, s.arg0 % 256, if n = 0 then 2 ^ 40 else 2 ^ 32 + n)] })))

def execGroomForce (cid : Nat) (s : State) : Host.Outcome State Fault Refusal := s.effect (fun c => c.groomForce cid)

/-! ### REBUILD_START (R148) -/

/-- WAITING slots of a piste, for some indices, are released: they go on as the lap's rules let them. -/
def Chip.releaseWaiting (c : Chip) (p : Nat) (idx : List Nat) : Chip :=
  let x := c.piste p
  let go := decide (c.shareSet 5 ≠ 0)
  c.onSlots p (fun r => if r.state = 0 ∧ r.index ∈ idx then
      { r with cancelled := false, state := if go && !r.pausedByTable && (!x.groomed || decide (r.base ≠ 0)) then c.passOf x r else 0 } else r)

/-- What REBUILD_START would start and release: pistes with the indices it concerns. [DEDUCED, notes/assumptions/24.md] -/
def Chip.rebuildTargets (c : Chip) (s : Sub) : List (Nat × Nat) :=
  let waiting := fun (p e : Nat) => match (c.piste p).slotOf e with
    | some r => decide (r.state = 0)
    | none => false
  if s.arg0 % 2 = 1 then
    let x := c.piste s.piste
    ((List.range x.list.length).filter (fun e =>
      waiting s.piste e || (x.mayEnter e && (match c.localSlot x e with
        | some t => decide ((c.member t).mstate = .failed)
        | none => false)))).map (fun e => (s.piste, e))
  else
    let t := s.arg1 % 256
    let m := c.member t
    (c.holders t).filter (fun pe =>
      waiting pe.1 pe.2 || ((decide (m.mstate = .failed) || decide (m.mstate = .inService)) && (c.piste pe.1).mayEnter pe.2))

def Chip.rebuildStart (c : Chip) (cid : Nat) : Chip :=
  c.admin 0x23 cid (fun c f s =>
    let t := s.arg1 % 256
    let l := c.rebuildTargets s
    if l.isEmpty then c.refuseHead s 0x0102 (if s.arg0 % 2 = 1 then 4 else 32)
    else
      c.longCommand f s (if s.arg0 % 2 = 1 then s.piste else 0xFF) (fun c slot =>
        let c := c.updHandle slot (fun h => { h with members := if s.arg0 % 2 = 1 then [] else [t], slots := l })
        let c := c.each l (fun c pe => c.releaseWaiting pe.1 [pe.2])
        if s.arg0 % 2 = 1 then
          c.each l (fun c pe =>
            if pe.2 ∈ (c.piste pe.1).repl then c
            else
              let c := (c.enterE pe.1 pe.2 false).1
              match c.localSlot (c.piste pe.1) pe.2 with
              | none => c
              | some m =>
                -- the grace time has ended everywhere once every piste has the member in E
                let rest := (c.holders m).any (fun y => decide (y.2 ∉ (c.piste y.1).repl))
                if rest then c else
                  (c.updMember m (fun y => { y with mstate := if y.mstate = .failed then .rebuilding else y.mstate,
                                                    graceOver := true })).closeLog m)
        else
          let c := if (c.member t).mstate = .inService then c.failMember t 4 else c
          if (c.member t).mstate = .failed then c.endGrace t true else c))

def execRebuildStart (cid : Nat) (s : State) : Host.Outcome State Fault Refusal := s.effect (fun c => c.rebuildStart cid)

/-! ### MEMBER_REMOVE (R161) and MEMBER_ADD (R162, R249, R268) -/

/-- The member of a slot can be drained: it is in service, and every piste that holds it has room in E. [DEDUCED, notes/assumptions/24.md] -/
def Chip.drainable (c : Chip) (t : Nat) : Bool :=
  let m := c.member t
  (m.slot = .inUse || m.slot = .removalPending) && m.mstate = .inService &&
    (c.holders t).all (fun pe => (c.piste pe.1).mayEnter pe.2)

def Chip.memberRemove (c : Chip) (cid : Nat) : Chip :=
  c.admin 0x26 cid (fun c f s =>
    let t := s.arg0 % 256
    if !c.drainable t then c.refuseHead s 0x0102 24
    else c.longCommand f s 0xFF (fun c slot =>
      let c := c.updHandle slot (fun h => { h with members := [t] })
      let c := c.updMember t (fun m => { m with mstate := .draining })
      (c.each (c.holders t) (fun c pe => (c.enterE pe.1 pe.2 true).1))))

def execMemberRemove (cid : Nat) (s : State) : Host.Outcome State Fault Refusal := s.effect (fun c => c.memberRemove cid)

/-- Label a drive as a spare (Table 9.13). [DEDUCED, notes/assumptions/24.md; DEDUCED, notes/assumptions/53.md] -/
def Chip.makeSpare (c : Chip) (t : Nat) : Chip :=
  let r := c.random64
  let uid := if (c.member t).label.uid ≠ 0 ∧ (c.member t).label.owner = c.ownerId then (c.member t).label.uid else r.1
  let c := r.2.writeLabel t 2 uid
  let fresh := (c.holders t).isEmpty
  (c.updMember t (fun m => { m with
    slot := .inUse
    replaces := none
    mstate := if fresh then .inService else m.mstate
    cause := if fresh then 0 else m.cause
    failNs := if fresh then none else m.failNs })).memberEvent t 13 0

/-- The member list of a piste names the slot, and that member is FAILED or in E. -/
def Chip.wantsDrive (c : Chip) (t : Nat) : Bool :=
  let m := c.member t
  !(c.holders t).isEmpty &&
    (decide (m.mstate = .failed) || (c.holders t).any (fun pe => decide (pe.2 ∈ (c.piste pe.1).repl)))

/-- A drive in a member's own slot can take its place (R162): it has the sizes. -/
def Chip.replaceFits (c : Chip) (t : Nat) : Bool :=
  let m := c.member t
  match m.report with
  | some n => (match m.figures with | some o => sizesFit ((c.holders t).any (fun pe => (c.piste pe.1).groomed)) o n | none => true)
  | none => false

/-- A drive becomes the designated replacement of the member of its slot (R268).
[DEDUCED, notes/assumptions/24.md; DEDUCED, notes/assumptions/53.md] -/
def Chip.designate (c : Chip) (t : Nat) : Chip :=
  let m := c.member t
  let c := c.writeLabel t 1 (m.recorded.getD m.label.uid)
  let c := c.updMember t (fun m => { m with slot := .inUse, replaces := some t })
  let c := c.memberEvent t 12 0
  let c := if m.mstate = .failed then c.endGrace t true else c
  if (c.member t).mstate = .rebuilding ∧ c.slotsDone t then c.memberRebuilt t
  else if (c.member t).mstate = .rebuilt then c.copybackOwn t
  else c

/-- The slot holds a drive that may be added: awaiting MEMBER_ADD, or seated with its member out of service.
[DEDUCED, notes/assumptions/24.md] -/
def Chip.addable (c : Chip) (t kind : Nat) : Bool :=
  let m := c.member t
  (m.slot = .held || m.slot = .inUse) && (match m.report with | some r => r.meetsTable | none => false) &&
    (if kind = 0 then c.wantsDrive t && c.replaceFits t && m.replaces.isNone
     else m.slot = .held || ((c.holders t).isEmpty && m.replaces.isNone))

def Chip.memberAdd (c : Chip) (cid : Nat) : Chip :=
  c.admin 0x27 cid (fun c f s =>
    let t := s.arg0 % 256
    let kind := s.arg1 % 4
    if !c.addable t kind then c.refuseHead s 0x0102 24
    else c.longCommand f s 0xFF (fun c slot =>
      let c := c.updHandle slot (fun h => { h with members := [t] })
      if kind = 0 then c.designate t
      else (c.makeSpare t).endHandle slot 1 0 []))

def execMemberAdd (cid : Nat) (s : State) : Host.Outcome State Fault Refusal := s.effect (fun c => c.memberAdd cid)

/-! ### VAULT_TEST (R383) -/

/-- [DEDUCED, notes/assumptions/49.md] -/
def Chip.vaultTest (c : Chip) (cid : Nat) : Chip :=
  c.admin 0x2A cid (fun c f s =>
    if c.power.supply ≠ .normal ∨ !c.vaultSlots.all c.vaultDriveUp ∨ (c.image 0).status = 2 then c.refuseHead s 0x0102 0
    else c.longCommand f s 0xFF (fun c slot =>
      (c.setImage 0 { VaultImage.reset with status := 5 }).onPower (fun p =>
        { p with test := some slot, holdup := p.holdup || decide (150 ≤ p.usable) })))

def execVaultTest (cid : Nat) (s : State) : Host.Outcome State Fault Refusal := s.effect (fun c => c.vaultTest cid)

end Sys2Proof.Machine
end

