-- ==== Sys2Proof/Machine/Pistes.lean ====
section
/-! DEFINITION. Making, deleting and reshaping pistes: descriptors (Tables 3.5 and 6.8), their checks (Tables 3.6 and 6.9,
R63, R171, R458), and what the commands begin (R64, R67, R172, R173, R176). -/

namespace Sys2Proof.Machine

/-! ### Descriptors -/

/-- A piste descriptor (Table 3.5). -/
structure Desc where
  ty : Nat
  k : Nat
  strip : Nat
  granule : Nat
  n : Nat
  spare : Nat
  spanning : Bool
  seedGiven : Bool
  seed : Nat
  capacity : Nat
  base : Nat
  home : Nat
  number : Nat
  name : Bytes
  list : List (Nat × Nat)

/-- Entries of a member list. -/
def parseMembers (b : Bytes) (n : Nat) : List (Nat × Nat) :=
  (List.range n).map (fun i => (leAt b (128 + 2 * i) 1, leAt b (129 + 2 * i) 1 % 32))

/-- Entries of a list that a descriptor can hold. -/
def listLimit (n : Nat) : Nat := min n 384

def parseDesc (b : Bytes) : Desc :=
  let n := leAt b 4 2
  { ty := leAt b 0 1, k := leAt b 1 1, strip := leAt b 2 1, granule := leAt b 3 1, n, spare := leAt b 6 1,
    spanning := (leAt b 7 1).testBit 0, seedGiven := (leAt b 7 1).testBit 1, seed := leAt b 8 8, capacity := leAt b 16 8,
    base := leAt b 24 8, home := leAt b 32 1, number := leAt b 34 2, name := slice b 64 32,
    list := parseMembers b (listLimit n) }

/-- Reserved bits of a byte of a member list of n entries. -/
def listReserved (i n : Nat) : Nat := if i % 2 = 1 ∧ (i - 128) / 2 < n then 0xE0 else 0

/-- Reserved bits of a byte of the piste descriptor. -/
def descReserved (n i : Nat) : Nat :=
  if i = 7 then 0xFC
  else if i = 33 ∨ (36 ≤ i ∧ i < 64) ∨ (96 ≤ i ∧ i < 128) ∨ 896 ≤ i then 0xFF
  else if 128 ≤ i then listReserved i n
  else 0

/-- Reserved bits of a byte of the reshape descriptor. -/
def reshapeReserved (n i : Nat) : Nat :=
  if i = 5 then 0xFC
  else if i = 6 ∨ i = 7 ∨ (24 ≤ i ∧ i < 128) ∨ 896 ≤ i then 0xFF
  else if 128 ≤ i then listReserved i n
  else 0

/-- The first non-zero reserved byte (R63). [DEDUCED, notes/assumptions/22.md] -/
def firstReserved (b : Bytes) (mask : Nat → Nat) : Option Nat :=
  (List.range 1024).find? (fun i => decide ((byteAt b i).toNat &&& mask i ≠ 0))

/-! ### Numbered checks (Table 3.6): the check and the byte of the first field it finds wrong (R193) -/

/-- A check that fails at a byte. -/
abbrev Failed := Option (Nat × Nat)

def failIf (b : Bool) (check d : Nat) : Failed := if b then some (check, d) else none

/-- The first of some checks that fails. -/
def firstFailed (l : List Failed) : Failed := l.findSome? id

/-- Checks 1 to 3 for a geometry, with the byte of each field. `f` is the minimum of spare columns asked for. -/
def geometryChecks (groomed spanning : Bool) (k n strip granule f : Nat) (bk bn bs bg bf : Nat) : Failed :=
  firstFailed [
    failIf (decide (k < 2) || decide (30 < k)) 1 bk,
    failIf (decide (2 < strip)) 1 bs,
    failIf (groomed && (decide (2 < granule) || decide (strip < granule))) 1 bg,
    failIf (decide (n < k + 2)) 2 bk,
    failIf (decide ((if spanning then 384 else 48) < n)) 2 bn,
    failIf (!groomed && decide (8 < f)) 3 bf,
    failIf (!groomed && decide (n < k + 2 + f)) 3 bk]

/-- A member meets Table 5.1 for one more groomed piste with strips of b blocks. Its zones hold 64 strips in the parity mode a new piste
takes, counted in the mode that leaves fewer data blocks. -/
def Chip.groomable (c : Chip) (slot : Nat) (r : DriveReport) (b : Nat) : Bool :=
  let sharing := countOf (c.livePistes.filter (fun p => p.2.groomed)) (fun p => decide (slot ∈ c.localSlots p.2))
  r.meetsZoned && decide (r.zonedBlocks ≠ 0) && decide (r.zoneCapacity ≤ 2 ^ 20) && decide (r.zoneCapacity ≤ r.zoneSize) &&
    decide (r.zoneCount ≤ 2 ^ 24) && decide (64 ≤ zoneStrips 0 r.zoneCapacity (max 1 b)) &&
    (decide (r.maxActive = 0) || decide (3 * (sharing + 1) ≤ r.maxActive))

/-- A member of this unit is offered to a piste (R110, R247). -/
def Chip.offered (c : Chip) (groomed : Bool) (b slot : Nat) : Bool :=
  let m := c.member slot
  decide (slot < c.slots) && m.slot = .inUse && (m.label.pool = 1 || m.label.pool = 2) &&
    (match m.report with
     | some r => r.meetsTable && decide (r.conventionalBlocks ≠ 0) && (!groomed || c.groomable slot r b)
     | none => false)

/-- Check 4 over the entries of a list from a place on: distinct, this unit's own offered, other nodes only in a spanning piste. -/
def Chip.check4 (c : Chip) (groomed spanning : Bool) (b from_ : Nat) (l : List (Nat × Nat)) : Failed :=
  let bad := fun (i : Nat) =>
    let e := atD l i (0, 0)
    decide (e ∈ l.take i) || (if c.ownNode e.2 then !c.offered groomed b e.1 else !spanning)
  ((List.range l.length).find? (fun i => decide (from_ ≤ i) && bad i)).map (fun i => (4, 128 + 2 * i))

/-- Nodes of a list. -/
def nodesOf (l : List (Nat × Nat)) : List Nat := l.foldl (fun a e => addNew a e.2) []

/-- A ring member that is known to be on the ring. -/
def Chip.onRingNow (c : Chip) (n : Nat) : Bool := c.reachable n

/-- A piste number nothing uses; a record that only a PISTE_CHECK has made does not take one (R458). -/
def Chip.numberFree (c : Chip) (n : Nat) : Bool := decide ((c.piste n).state = .absent) || (c.piste n).offer

/-- Check 5, as far as this unit tells it. -/
def Chip.check5 (c : Chip) (d : Desc) : Failed :=
  let nodes := nodesOf d.list
  if !d.spanning then none
  else firstFailed [
    failIf (decide (d.home ∉ nodes)) 5 32,
    failIf (decide (d.number ≠ 0xFFFF) && !c.numberFree d.number) 5 34,
    failIf (decide (8 < nodes.length) || decide (c.clk.sync ≠ .locked)) 5 128,
    ((List.range d.list.length).find? (fun i => !c.onRingNow (atD d.list i (0, 0)).2)).map (fun i => (5, 128 + 2 * i))]

/-- The number a creation gets: the one asked for, or the lowest free one on the unit that received it; R62 does not say on which units
of a spanning piste it must be free. [DESIGN CHOICE, notes/assumptions/99.md] -/
def Chip.pisteNumber (c : Chip) (d : Desc) : Nat :=
  if d.number = 0xFFFF then ((List.range 256).find? c.numberFree).getD 256 else d.number

/-- Minimum spare columns of a descriptor. -/
def Chip.sparesOf (c : Chip) (d : Desc) : Nat :=
  if d.ty = 1 then 0 else if d.spare = 0xFF then c.val 0x2004 else d.spare

/-- The geometry of a descriptor, its extent still to be chosen. -/
def Chip.descGeometry (c : Chip) (d : Desc) : Geometry :=
  { k := d.k, n := d.n, stripCode := d.strip, f := c.sparesOf d, base := 0, rows := 0, zoneParity := if d.ty = 1 then c.val 0x2807 else 0 }

/-- Blocks free on some slots from a member block on: up to the next extent or the end of a namespace. -/
def Chip.roomFrom (c : Chip) (slots : List Nat) (start : Nat) : Nat :=
  let ends := slots.map (fun s => match (c.member s).report with | some r => r.conventionalBlocks | none => 0)
  let starts := ((c.livePistes.filter (fun p => (c.localSlots p.2).any (fun s => decide (s ∈ slots)))).map (fun p =>
    ((c.extents p.2).filter (fun e => decide (start < e.1 + e.2))).map (fun e => max start e.1))).flatten
  minOf (ends ++ starts) start - start

/-- The largest fixed extent: its start and rows (R62, capacity 0). [DESIGN CHOICE, notes/assumptions/21.md] -/
def Chip.largestExtent (c : Chip) (slots : List Nat) (g : Geometry) (base : Nat) : Nat × Nat :=
  let ends := (c.livePistes.map (fun p => (c.extents p.2).map (fun e => ceilDiv (e.1 + e.2) 64 * 64))).flatten
  let starts := if base = 0 then (262144 :: vaultEnd :: ends).filter (fun a => c.extentOk slots a 0) else [base]
  starts.foldl (fun (a : Nat × Nat) s =>
    let r := c.roomFrom slots s / max 1 g.b
    if a.2 < r then (s, r) else a) (base, 0)

/-- The largest host capacity of a groomed piste (R138): the zones of its members less their reserves, at k·⌊D ÷ b⌋ ÷ (k+2) data strips
each; the granules are rounded down once, over the total. A member of another unit counts as one of this unit's own does. [DESIGN CHOICE,
notes/assumptions/21.md] -/
def Chip.groomedCapacity (c : Chip) (g : Geometry) (gb : Nat) (list : List (Nat × Nat)) : Nat :=
  let own := c.ownSlots list
  let strips := fun (s : Nat) =>
    let m := c.member s
    (m.zoneCount - m.zonesOffline - c.reserveZones m) * (zoneData g.zoneParity m.zcap / max 1 g.b)
  let mean := strips (own.headD 0)
  let total := sumOf own strips + (list.length - own.length) * mean
  total * g.k * (g.b / max 1 gb) * (100 - c.val 0x2808) / ((g.k + 2) * 100) * gb

/-- The extent of a creation: geometry with base and rows, capacity, map base; `none` where check 6 fails, with its byte. -/
structure Extent where
  geom : Geometry
  capacity : Nat
  mapBase : Nat
  failed : Failed

/-- Check 6 and the choices it leaves to the device, from a base that is given or 0. [DESIGN CHOICE, notes/assumptions/21.md] -/
def Chip.chooseExtentAt (c : Chip) (d : Desc) (base : Nat) : Chip × Extent :=
  let g := c.descGeometry d
  let slots := c.ownSlots d.list
  if d.ty = 1 then
    let gb := stripBlocks d.granule
    let cap := if d.capacity = 0 then c.groomedCapacity g gb d.list else d.capacity
    let len := areaRows g (ceilDiv (ceilDiv cap gb) 512) * 4
    let r := if base = 0 then c.chooseExtent slots len else (c, if c.extentOk slots base len then some base else none)
    (r.1, { geom := g, capacity := cap, mapBase := r.2.getD 0, failed := failIf (r.2.isNone || decide (cap = 0)) 6 16 })
  else
    let unit := g.m * g.d
    if d.capacity = 0 then
      let e := c.largestExtent slots g base
      let g := { g with base := e.1, rows := e.2 }
      (c, { geom := g, capacity := g.capacity, mapBase := 0,
            failed := firstFailed [failIf (decide (e.2 = 0)) 6 16, failIf (!c.extentOk slots e.1 (e.2 * g.b)) 6 24] })
    else
      let rows := ceilDiv d.capacity (max 1 unit)
      let r := if base = 0 then c.chooseExtent slots (rows * g.b) else (c, some base)
      let g := { g with base := r.2.getD 0, rows }
      let fits := r.2.isSome && c.extentOk slots g.base (rows * g.b)
      -- a base from which no row fits is named; else the capacity, the first field tested [DEDUCED, notes/assumptions/22.md]
      let d6 := if base ≠ 0 ∧ !c.extentOk slots base g.b then 24 else 16
      (r.1, { geom := g, capacity := g.capacity, mapBase := 0, failed := failIf (!fits) 6 d6 })

/-- Check 6 of a host's descriptor: its member_base is for fixed pistes only. -/
def Chip.chooseExtentFor (c : Chip) (d : Desc) : Chip × Extent := c.chooseExtentAt d (if d.ty = 1 then 0 else d.base)

/-- Checks 1 to 3 of a creation, with what check 1 says of numbers. -/
def Chip.checks123 (c : Chip) (d : Desc) : Failed :=
  let f := c.sparesOf d
  firstFailed [
    failIf (decide (1 < d.ty)) 1 0,
    failIf (decide (d.k < 2) || decide (30 < d.k)) 1 1,
    failIf (decide (2 < d.strip)) 1 2,
    failIf (decide (d.ty = 1) && (decide (2 < d.granule) || decide (d.strip < d.granule))) 1 3,
    failIf (d.spanning && decide (31 < d.home)) 1 32,
    failIf (decide (255 < d.number) && decide (d.number ≠ 0xFFFF)) 1 34,
    geometryChecks (decide (d.ty = 1)) d.spanning d.k d.n d.strip d.granule f 1 4 2 3 6,
    failIf (decide (d.ty = 1) && !(decide (d.spare = 0) || decide (d.spare = 0xFF))) 3 6]

/-- Check 7. -/
def Chip.check7 (c : Chip) (d : Desc) : Failed :=
  let n := c.pisteNumber d
  failIf (decide (255 < n) || !c.numberFree n || decide (256 ≤ c.livePistes.length)) 7 34

/-- The lower of two failed checks. [DEDUCED, notes/assumptions/22.md] -/
def lowerFailed (a b : Failed) : Failed :=
  match a, b with
  | some x, some y => if y.1 < x.1 then some y else some x
  | some x, none => some x
  | none, y => y

/-- The byte a check that another unit found wrong names. [DEDUCED, notes/assumptions/22.md] -/
def remoteByte (check : Nat) : Nat := if check = 4 then 128 else if check = 5 then 34 else 16

/-! ### PISTE_CREATE (R63, R64) -/

/-- The result of a descriptor that fails a numbered check (R193). [DEDUCED, notes/assumptions/22.md] -/
def failedResult (x : Nat × Nat) : Nat := x.1 * 65536 + 64 + x.2

/-- Members that come into use by a piste are MEMBER drives. -/
def Chip.enlist (c : Chip) (slots : List Nat) : Chip :=
  c.each slots (fun c s =>
    let m := c.member s
    let c := if m.label.pool = 2 then c.writeLabel s 1 m.label.uid else c
    c.updMember s (fun m => { m with recorded := some m.label.uid }))

/-- The piste enters CREATING, and its extent is zeroed. [DEDUCED, notes/assumptions/24.md; DEDUCED, notes/assumptions/25.md] -/
def Chip.createPiste (c : Chip) (d : Desc) (x : Extent) (slot : Nat) : Chip :=
  let p := c.pisteNumber d
  let seed := if d.seedGiven then (d.seed, c) else c.random
  let uid := seed.2.random64
  let c := uid.2
  let own := c.ownSlots d.list
  let piste : Piste := { Piste.reset with
    state := .creating, groomed := decide (d.ty = 1), uid := uid.1, name := d.name
    granuleCode := if d.ty = 1 then d.granule else 0xFF
    geom := x.geom, seed := seed.1 % w64, capacity := x.capacity, list := d.list
    home := if d.spanning then d.home else c.straps.nodeId
    spanning := d.spanning, zeroLeft := own.length, handle := slot + 1, mapBase := x.mapBase, mapGeom := x.geom
    throughUntilLane := false }
  let c := (c.enlist own).setPiste p piste
  let c := c.updHandle slot (fun h => { h with piste := p })
  (c.pisteChange p).zeroPiste p

/-- Checks 4 to 7 have been made here and elsewhere: the command ends, or the creation begins. -/
def Chip.finishCreateWith (c : Chip) (f : Fetched) (s : Sub) (remote : Nat) (r : Chip × Extent) : Chip :=
  let d := parseDesc f.host
  let mine := firstFailed [c.check4 (decide (d.ty = 1)) d.spanning (stripBlocks d.strip) 0 d.list, c.check5 d, r.2.failed]
  let there := if remote = 0 then none else some (remote, remoteByte remote)
  match lowerFailed mine there with
  | some e => c.refuseLogged s 7 e.1 (failedResult e)
  | none =>
    match c.check7 d with
    | some e => c.refuseLogged s 7 e.1 (failedResult e)
    | none => r.1.longCommand f s 0xFF (fun c slot => c.createPiste d r.2 slot)

def Chip.finishCreate (c : Chip) (f : Fetched) (s : Sub) (remote : Nat) : Chip :=
  c.finishCreateWith f s remote (c.chooseExtentFor (parseDesc f.host))

/-- The descriptor that goes to the other units of a spanning creation: what it leaves to the device is chosen first and filled in (seed,
number, capacity, and the base, of a groomed piste that of its map area), so that every unit tests and keeps the same one (R59).
[DESIGN CHOICE, notes/assumptions/99.md] -/
def Chip.filledIn (c : Chip) (b : Bytes) : Chip × Bytes :=
  let d := parseDesc b
  let r := c.chooseExtentFor d
  let seed := if d.seedGiven then (d.seed, r.1) else r.1.random
  let flags := leAt b 7 1 ||| 2
  let number := c.pisteNumber d
  let base := if d.ty = 1 then r.2.mapBase else r.2.geom.base
  let b := patch (patch b 7 (leBytes 1 flags)) 8 (leBytes 8 (seed.1 % w64))
  let b := if r.2.failed.isSome then b else patch (patch b 16 (leBytes 8 r.2.capacity)) 24 (leBytes 8 base)
  (seed.2, if number < 256 then patch b 34 (leBytes 2 number) else b)

/-- Ask the other nodes of a list for their checks (R458). [DEDUCED, notes/assumptions/23.md] -/
def Chip.askNodes (c : Chip) (cid : Nat) (nodes : List Nat) (body : Bytes) (reshape : Bool) (worst : Nat) : Chip :=
  let tag := c.ring.nextReqTag
  let c := c.onRing (fun r => { r with
    nextReqTag := (tag + 1) % 2 ^ 32
    checks := r.checks ++ [{ tag, queue := 0, cid, waiting := nodes, worst, sinceLap := c.lap, reshape, body }] })
  c.each nodes (fun c n => c.send n 5 5 (leBytes 4 tag ++ body))

def Chip.pisteCreate (c : Chip) (cid : Nat) : Chip :=
  c.admin 0x20 cid (fun c f s =>
    let d := parseDesc f.host
    match firstReserved f.host (descReserved (listLimit d.n)) with
    | some i => c.refuseLogged s 4 0 (64 + i)
    | none =>
      match c.checks123 d with
      | some e => c.refuseLogged s 7 e.1 (failedResult e)
      | none =>
        let others := (nodesOf d.list).filter (fun n => !c.ownNode n)
        let reach := others.filter c.onRingNow
        if c.ring.checks.any (fun k => decide (k.cid = cid) && !k.reshape) then c
        else if d.spanning ∧ !reach.isEmpty then
          -- a node that is no ring member fails check 5 at once
          let r := c.filledIn f.host
          r.1.askNodes cid reach r.2 false (if reach.length < others.length then 5 else 0)
        else c.finishCreate f s 0)

def execPisteCreate (cid : Nat) (s : State) : Host.Outcome State Fault Refusal := s.effect (fun c => c.pisteCreate cid)

/-! ### PISTE_DELETE (R67) -/

def Chip.pisteDelete (c : Chip) (cid : Nat) : Chip :=
  c.admin 0x21 cid (fun c f s =>
    c.longCommand f s s.piste (fun c slot =>
      ((c.updPiste s.piste (fun x => { x with state := .deleting, handle := slot + 1 })).releaseZones s.piste).pisteChange s.piste))

def execPisteDelete (cid : Nat) (s : State) : Host.Outcome State Fault Refusal := s.effect (fun c => c.pisteDelete cid)

/-! ### PISTE_RESHAPE (R170 to R176) -/

/-- A reshape descriptor (Table 6.8), with what it keeps filled in. -/
structure ReshapeDesc where
  k : Nat
  strip : Nat
  n : Nat
  f : Nat
  parity : Nat
  capacity : Nat
  base : Nat
  list : List (Nat × Nat)

def parseReshape (b : Bytes) (x : Piste) : ReshapeDesc :=
  let g := x.geom
  let keep := fun (v none_ old : Nat) => if v = none_ then old else v
  let n := leAt b 2 2
  { k := keep (leAt b 0 1) 0 g.k, strip := keep (leAt b 1 1) 0xFF g.stripCode, n := keep n 0 g.n, f := keep (leAt b 4 1) 0xFF g.f,
    parity := keep (leAt b 5 1 % 4) 3 g.zoneParity, capacity := keep (leAt b 8 8) 0 x.capacity, base := leAt b 16 8,
    list := if n = 0 then x.list else parseMembers b (listLimit n) }

/-- The new geometry, its extent still to be chosen. -/
def ReshapeDesc.geometry (d : ReshapeDesc) : Geometry :=
  { k := d.k, n := d.n, stripCode := d.strip, f := d.f, base := 0, rows := 0, zoneParity := d.parity }

/-- Check 1 of Table 6.9. -/
def Piste.atRest (x : Piste) : Bool :=
  x.state = .online && decide (x.fall.state = 0) && x.rebuild.slots.all (fun r => decide (r.state = 0) || decide (r.state = 3))

/-- Checks 2 to 4 of Table 6.9; check 4 of Table 3.6 over the new entries. [DEDUCED, notes/assumptions/22.md] -/
def Chip.reshapeChecks (c : Chip) (x : Piste) (d : ReshapeDesc) : Failed :=
  let g := x.geom
  let same := decide (d.k = g.k) && decide (d.strip = g.stripCode) && decide (d.n = g.n) && decide (d.f = g.f) &&
    decide (d.parity = g.zoneParity) && decide (d.capacity = x.capacity) && decide (d.list = x.list)
  let differs := (List.range (min d.list.length x.list.length)).find? (fun i => decide (atD d.list i (0, 0) ≠ atD x.list i (0, 0)))
  firstFailed [
    failIf same 2 0,
    failIf (x.groomed && decide (d.strip ≠ g.stripCode)) 2 1,
    failIf (x.groomed && decide (d.f ≠ g.f)) 2 4,
    failIf (!x.groomed && decide (d.parity ≠ g.zoneParity)) 2 5,
    failIf (x.groomed && decide (d.capacity ≠ x.capacity)) 2 8,
    failIf (decide (d.capacity < x.capacity)) 2 8,
    failIf (x.groomed && decide (d.base ≠ 0)) 2 16,
    failIf (decide (d.n < g.n)) 3 2,
    differs.map (fun i => (3, 128 + 2 * i)),
    (c.check4 x.groomed x.spanning (stripBlocks d.strip) g.n d.list).map (fun e => (3, e.2)),
    -- a spanning piste names members of up to 8 units
    ((List.range d.list.length).find? (fun i => decide (8 < (nodesOf (d.list.take (i + 1))).length))).map (fun i => (3, 128 + 2 * i)),
    (geometryChecks x.groomed x.spanning d.k d.n d.strip x.granuleCode d.f 0 2 1 1 4).map (fun e => (4, e.2))]

/-- The new extent of a fixed piste (check 5): base and rows. -/
def Chip.reshapeExtent (c : Chip) (x : Piste) (d : ReshapeDesc) : Chip × Geometry × Failed :=
  let g := d.geometry
  let rows := ceilDiv d.capacity (max 1 (g.m * g.d))
  let slots := c.ownSlots d.list
  if x.groomed then (c, g, none)
  else
    let r := if d.base = 0 then c.chooseExtent slots (rows * g.b) else (c, some d.base)
    let g := { g with base := r.2.getD 0, rows }
    let d5 := if d.base ≠ 0 ∧ (d.base < 262144 ∨ d.base % 64 ≠ 0) then 16 else 8
    (r.1, g, failIf (!(r.2.isSome && c.extentOk slots g.base (rows * g.b))) 5 d5)

/-- The reshape begins: the fall-line record, its first checkpoint, and on a fixed piste the zeroing of the rows no old data
fills; on a groomed one the switch (R172, R173, R176). -/
def Chip.beginReshape (c : Chip) (p : Nat) (d : ReshapeDesc) (g : Geometry) (slot : Nat) : Chip :=
  let x := c.piste p
  let new_ := (c.ownSlots d.list).filter (fun s => decide (s ∉ c.localSlots x))
  let c := c.enlist new_
  if x.groomed then
    let c := c.finishAll p
    let x := c.piste p
    let q := x.nextQ
    let base := (List.range d.list.length).map (fun e =>
      (e, (if e < x.geom.n then (x.serial e q : Int) else 0) - (serialOf x.seed g e q : Int)))
    let c := c.updPiste p (fun x => { x with
      handle := slot + 1, geom := g, list := d.list
      serialBase := base, serialBaseOld := x.serialBase
      fall := { FallLine.reset with state := 1, old := x.geom, new := g, qSwitch := q, newList := d.list, capacity := x.capacity } })
    c.checkpointReshape p
  else
    let own := c.ownSlots d.list
    let filled := ceilDiv (ceilDiv x.capacity (max 1 g.d)) (max 1 g.m)
    let bare := g.rows - filled
    let c := c.updPiste p (fun x => { x with
      handle := slot + 1
      fall := { FallLine.reset with state := 1, old := x.geom, new := g, newList := d.list, capacity := g.capacity
                                    zeroLeft := if bare = 0 then 0 else own.length } })
    (c.checkpointReshape p).zeroBare p

/-- The checks of a reshape have been made here and elsewhere. -/
def Chip.finishReshape (c : Chip) (f : Fetched) (s : Sub) (remote : Nat) : Chip :=
  let x := c.piste s.piste
  let d := parseReshape f.host x
  let r := c.reshapeExtent x d
  let there := if remote = 0 then none else some (3, 128 + 2 * x.list.length)
  match lowerFailed (firstFailed [c.reshapeChecks x d, r.2.2]) there with
  | some e => c.refuseLogged s 7 e.1 (failedResult e)
  | none => r.1.longCommand f s s.piste (fun c slot => c.beginReshape s.piste d r.2.1 slot)

def Chip.pisteReshape (c : Chip) (cid : Nat) : Chip :=
  c.admin 0x22 cid (fun c f s =>
    let x := c.piste s.piste
    let d := parseReshape f.host x
    match firstReserved f.host (reshapeReserved (if leAt f.host 2 2 = 0 then 0 else listLimit d.n)) with
    | some i => c.refuseLogged s 4 0 (64 + i)
    | none =>
      if !x.atRest then c.refuseLogged s 7 1 (1 * 65536 + 4)
      else
        let new_ := d.list.drop x.list.length
        let others := (nodesOf new_).filter (fun n => !c.ownNode n)
        let reach := others.filter c.onRingNow
        let ok : Bool := match c.reshapeChecks x d with | none => true | some e => decide (2 < e.1)
        if c.ring.checks.any (fun k => decide (k.cid = cid) && k.reshape) then c
        else if x.spanning ∧ !reach.isEmpty ∧ ok then
          c.askNodes cid reach f.host true (if reach.length < others.length then 5 else 0)
        else c.finishReshape f s (if reach.length < others.length ∧ x.spanning then 5 else 0))

def execPisteReshape (cid : Nat) (s : State) : Host.Outcome State Fault Refusal := s.effect (fun c => c.pisteReshape cid)

/-! ### Checks for other units (R458) -/

/-- The entry of queue 0 that a set of checks is for. [DEDUCED, notes/assumptions/23.md] -/
def Chip.checkEnded (c : Chip) (k : SpanCheck) : Chip :=
  let c := c.onRing (fun r => { r with checks := r.checks.filter (fun y => decide (y.tag ≠ k.tag)) })
  match c.headOf 0 with
  | none => c
  | some f =>
    let s := parseSub f.bytes
    if s.cid ≠ k.cid then c
    else if k.reshape ∧ s.opcode = 0x22 then c.finishReshape f s k.worst
    else if !k.reshape ∧ s.opcode = 0x20 then
      let f := { f with host := k.body }
      c.finishCreateWith f s k.worst (c.chooseExtentAt (parseDesc k.body) (parseDesc k.body).base)
    else c

/-- PISTE_CHECK_REPLY. -/
def Chip.checkReply (c : Chip) (src tag result : Nat) : Chip :=
  match c.ring.checks.find? (fun k => decide (k.tag = tag) && decide (src ∈ k.waiting)) with
  | none => c
  | some k =>
    let worst := if result = 0 then k.worst else if k.worst = 0 then result else min k.worst result
    let k := { k with waiting := k.waiting.filter (fun n => decide (n ≠ src)), worst }
    let c := c.onRing (fun r => { r with checks := r.checks.map (fun y => if y.tag = tag then k else y) })
    if k.waiting.isEmpty then c.checkEnded k else c

def execPisteCheckReply (src tag result : Nat) (s : State) : Host.Outcome State Fault Refusal :=
  s.effect (fun c => c.checkReply src tag result)

/-- At a lap boundary: a node that has not answered within 64 laps fails check 5. -/
def Chip.checksLap (c : Chip) : Chip :=
  c.each (c.ring.checks.filter (fun k => decide (k.sinceLap + 64 ≤ c.lap))) (fun c k =>
    c.checkEnded { k with worst := if k.worst = 0 then 5 else min k.worst 5 })

/-- A number of this unit is free for a home unit: nothing uses it, or the home unit's own former piste of that number does, which only its
home can delete (R59, R67). [DEDUCED, notes/assumptions/23.md] -/
def Chip.numberFreeFor (c : Chip) (src n : Nat) : Bool :=
  let x := c.piste n
  c.numberFree n || (x.spanning && !c.ownNode x.home && decide (x.home = src))

/-- The record a PISTE_CHECK would replace is taken away. -/
def Chip.dropOffer (c : Chip) (src n : Nat) : Chip := if n < 256 ∧ c.numberFreeFor src n then { c with pistes := c.pistes.drop n } else c

/-- PISTE_CHECK: the checks for the entries that name this unit's slots; where member_base was 0, of the base that the receiving unit
chose. [DEDUCED, notes/assumptions/23.md; DESIGN CHOICE, notes/assumptions/99.md] -/
def Chip.checkFor (c : Chip) (d : Desc) : Nat :=
  let g := decide (d.ty = 1)
  let own := (List.range d.list.length).filter (fun i => c.ownNode (atD d.list i (0, 0)).2)
  let bad4 := own.any (fun i => let e := atD d.list i (0, 0); decide (e ∈ d.list.take i) || !c.offered g (stripBlocks d.strip) e.1)
  let bad5 := decide (c.clk.sync ≠ .locked) || (decide (d.number ≠ 0xFFFF) && !c.numberFree d.number)
  if bad4 then 4 else if bad5 then 5 else if ((c.chooseExtentAt d d.base).2.failed).isSome then 6 else 0

/-- A unit whose checks pass records the piste, as every unit that holds a member of it does (R59), and zeroes its own members' extents (R64).
Until its home is heard of the record stands for an offer. [DESIGN CHOICE, notes/assumptions/99.md] -/
def Chip.recordOffer (c : Chip) (d : Desc) : Chip :=
  let p := c.pisteNumber d
  let r := c.chooseExtentAt d d.base
  let piste : Piste := { Piste.reset with
    state := .creating, groomed := decide (d.ty = 1), name := d.name, granuleCode := if d.ty = 1 then d.granule else 0xFF
    geom := r.2.geom, seed := d.seed, capacity := r.2.capacity, list := d.list, home := d.home, spanning := true
    mapBase := r.2.mapBase, mapGeom := r.2.geom, offer := !c.ownNode d.home }
  if 255 < p then c else ((((r.1.enlist (c.ownSlots d.list)).setPiste p piste).pisteChange p).zeroPiste p)

/-- The entries of a reshape descriptor that name this unit's slots, for check 3 of Table 6.9: distinct, and offered to a piste of the kind
the descriptor tells (a base or a capacity is given for fixed pistes only, a zone parity for groomed ones). [DEDUCED,
notes/assumptions/23.md] -/
def Chip.checkReshapeFor (c : Chip) (b : Bytes) : Nat :=
  let list := parseMembers b (listLimit (leAt b 2 2))
  let own := (List.range list.length).filter (fun i => c.ownNode (atD list i (0, 0)).2)
  let fixed := decide (leAt b 8 8 ≠ 0) || decide (leAt b 16 8 ≠ 0)
  let groomed := decide (leAt b 5 1 % 4 ≠ 3)
  let strip := if leAt b 1 1 = 0xFF then 4 else stripBlocks (leAt b 1 1)
  let good := fun (i : Nat) => let e := atD list i (0, 0)
    decide (e ∉ list.take i) &&
      (if fixed then c.offered false strip e.1 else if groomed then c.offered true strip e.1
       else c.offered false strip e.1 || c.offered true strip e.1)
  if own.any (fun i => !good i) then 4 else if c.clk.sync ≠ .locked then 5 else 0

/-- PISTE_CHECK carries a piste descriptor, or a reshape descriptor, told by its width and name fields: bytes 24 to 127 of a
reshape descriptor are reserved and zero, and a piste descriptor of a spanning piste has its spanning bit at byte 7 set, which
a reshape descriptor reserves. [DEDUCED, notes/assumptions/23.md] -/
def Chip.pisteCheck (c : Chip) (src tag : Nat) (b : Bytes) : Chip :=
  let reply := fun (c : Chip) (r : Nat) => c.send src 5 6 (leBytes 4 tag ++ leBytes 1 r)
  if !(leAt b 7 1).testBit 0 then reply c (c.checkReshapeFor b)
  else
    let d := parseDesc b
    let c := c.dropOffer src d.number
    let r := c.checkFor d
    reply (if r = 0 then c.recordOffer d else c) r

def execPisteCheck (src tag : Nat) (descriptor : Bytes) (s : State) : Host.Outcome State Fault Refusal :=
  s.effect (fun c => c.pisteCheck src tag descriptor)

end Sys2Proof.Machine
end

