-- ==== Sys2Proof/Machine/Access.lean ====
section
/-! DEFINITION. Writes to the dictionary: the checks of Table 12.4 in their order (R330 to R339), the ranges of the chapters,
the storing of RW values with their persistence (R335) and mirroring (R336), and command objects (Table 12.3). -/

namespace Sys2Proof.Machine

/-! ### Rights (R337) -/

/-- The requester filter's entries. -/
def Chip.requesters (c : Chip) : List Nat := (List.range 8).map (fun i => leAt (c.octets 0x1122) (2 * i) 2)

/-- The filter excludes a HOST writer. -/
def Chip.filtered (c : Chip) (w : Writer) : Bool :=
  w.origin = .host && c.requesters.any (fun r => decide (r ≠ 0)) && decide (w.originId % 65536 ∉ c.requesters)

/-- In NO_IMAGE only the identity objects and those of the start are served (R433). [DEDUCED, notes/assumptions/71.md] -/
def Chip.served (c : Chip) (index : Nat) : Bool := decide (c.start.phase ≠ 6) || decide (index / 256 = 0x10) || decide (index / 256 = 0x54)

/-- Reasons 1 to 3 of Table 12.4. [DEDUCED, notes/assumptions/71.md; DEDUCED, notes/assumptions/94.md] -/
def Chip.accessReason (c : Chip) (index sub : Nat) (w : Writer) : Nat :=
  match c.object index sub with
  | none => 1
  | some o =>
    if !c.served index then 1
    else if o.access < 2 then 2
    else if !(c.rightsOf o).testBit (originCode w.origin) || c.filtered w then 3
    else 0

/-! ### Ranges -/

/-- A pack descriptor passes R370. -/
def packOk (b : Bytes) : Bool :=
  let band := fun (i : Nat) => slice b (64 + 64 * i) 64
  let temp := fun (i : Nat) => signed 8 (leAt (band i) 0 1)
  let ocv := fun (i j : Nat) => leAt (band i) (8 + 2 * j) 2
  let cut := leAt b 5 2
  (List.range 3).all (fun i => decide (temp i < temp (i + 1))) &&
  (List.range 4).all (fun i => (List.range 20).all (fun j => decide (ocv i j < ocv i (j + 1))) &&
    decide (ocv i 0 ≤ cut) && decide (cut < ocv i 10))

/-- The ranges that depend on other objects, for a value to be stored; a rebuild_share above rebuild_share_critical is refused.
[DESIGN CHOICE, notes/assumptions/98.md] -/
def Chip.dynamicOk (c : Chip) (index sub v : Nat) : Bool :=
  if index = 0x1820 then decide (c.val 0x1821 ≤ v)
  else if index = 0x1821 then decide (v ≤ c.val 0x1820)
  else if index = 0x1822 then decide (c.val 0x1823 < v)
  else if index = 0x1823 then decide (v < c.val 0x1822)
  else if index = 0x2831 then decide (v < c.val 0x2832)
  else if index = 0x2832 then decide (c.val 0x2831 < v) && decide (v ≤ c.val 0x2833)
  else if index = 0x2833 then decide (c.val 0x2832 ≤ v)
  else if index = 0x2841 then decide (c.val 0x2842 < v)
  else if index = 0x2842 then decide (v < c.val 0x2841)
  else if index = 0x2C10 ∨ (index = 0x1240 ∧ sub = 5) then decide (v ≤ c.val 0x2C11)
  else if index = 0x2C11 then decide (c.val 0x2C10 ≤ v)
  else if index = 0x3404 then decide (v + 1000 ≤ c.val 0x3822)
  else if index = 0x3822 then decide (c.val 0x3404 + 1000 ≤ v)
  else if index = 0x4400 then decide (c.val 0x4401 + 200 ≤ v)
  else if index = 0x4401 then decide (v + 200 ≤ c.val 0x4400) && decide (c.val 0x4402 + 400 ≤ v)
  else if index = 0x4402 then decide (v + 400 ≤ c.val 0x4401)
  else if index = 0x5020 then (if 1 ≤ sub ∧ sub ≤ 3 then decide (v = 0) else decide (1 ≤ v))
  else if index = 0x5016 then decide (v ≤ c.val 0x5006) && decide (c.val 0x5006 < v + 256)
  else true

/-- Reason `range`: length, value, reserved value, and what a chapter excludes. -/
def Chip.rangeOk (c : Chip) (o : Obj) (sub : Nat) (b : Bytes) (w : Writer) : Bool :=
  decide (b.length = o.len) &&
  (if o.ty = 12 then true
   else if o.ty = 13 then
     if o.index = 0x1122 then
       !(decide (w.origin = .host) && (List.range 8).any (fun i => decide (leAt b (2 * i) 2 ≠ 0)) &&
         decide (w.originId % 65536 ∉ (List.range 8).map (fun i => leAt b (2 * i) 2)))
     else if o.index = 0x4430 then packOk b
     else if o.index = 0x4001 then decide (leAt b 0 1 % 2 = 0)
     else true
   else
     let v := leNat b
     decide (o.lo ≤ v) && decide (v ≤ o.hi) && decide (v % max 1 o.mult = 0) && c.dynamicOk o.index sub v)

/-- The unit is stopped (Table 12.3, RWS). -/
def Chip.unitStopped (c : Chip) : Bool :=
  c.pistes.vals.all (fun x => x.state = .stopped || x.state = .absent) &&
    c.cqi.handles.vals.all (fun h => decide (h.value = 0) || decide (h.state ≠ 0))

/-- A write to a share object would take the sum of the minimum shares above 256 (R25). [DEDUCED, notes/assumptions/93.md] -/
def Chip.shareBreaks (c : Chip) (index sub v : Nat) : Bool :=
  let cls := if index = 0x1240 then some sub else if index = 0x2C10 ∨ index = 0x2C11 then some 5
    else if index = 0x2830 then some 6 else none
  match cls with
  | none => false
  | some i => decide (256 < sumOf (List.range 8) (fun j => if j = i then v else c.shareSet j))

/-- The first check of Table 12.4 that a write to an RW or RWS object fails; 0 where it passes. [DEDUCED, notes/assumptions/94.md] -/
def Chip.writeReason (c : Chip) (index sub : Nat) (b : Bytes) (w : Writer) : Nat :=
  let r := c.accessReason index sub w
  if r ≠ 0 then r
  else match c.object index sub with
    | none => 1
    | some o =>
      if !c.rangeOk o sub b w then 4
      else if o.access = 3 && !c.unitStopped then 5
      else if index = 0x3004 && decide ((c.piste sub).state = .absent) then 5
      else if c.shareBreaks index sub (leNat (b.take 8)) then 6
      else 0

/-! ### Storing -/

/-- Where a value is kept: subindexes 5 and 6 of class_share are objects of other chapters (Table 2.7). -/
def homeOf (index sub : Nat) : Nat × Nat :=
  if index = 0x1240 ∧ sub = 5 then (0x2C10, 0) else if index = 0x1240 ∧ sub = 6 then (0x2830, 0) else (index, sub)

/-- Put a value into its place. -/
def Chip.putObject (c : Chip) (o : Obj) (sub : Nat) (b : Bytes) : Chip :=
  let h := homeOf o.index sub
  if o.ty = 12 ∨ o.ty = 13 then c.setOctets h.1 h.2 b else c.setVal h.1 h.2 (leNat b)

/-- A value that is applied is held until both flashes have it (R335). -/
def Chip.keepWrite (c : Chip) (o : Obj) (sub : Nat) (b : Bytes) : Chip :=
  let h := homeOf o.index sub
  if o.persistent then c.onDict (fun d => { d with uncommitted := d.uncommitted ++ [(objKey h.1 h.2, b, c.newestLog)] }) else c

/-- Apply a write that has passed its checks: log, store, keep, mirror (R335, R336, R341). -/
def Chip.applyObject (c : Chip) (o : Obj) (sub : Nat) (b : Bytes) (w : Writer) : Chip :=
  let old := c.first8 o.index sub
  let c := c.logChange o.index sub w 0 0 old (leNat (b.take 8)) o.secret
  let c := if o.index = 0x3004 then (c.updPiste sub (fun x => { x with newName := some b })).pisteChange sub else c.putObject o sub b
  let c := c.keepWrite o sub b
  if o.pairWide then c.mirrorItem (.record (.dictWrite o.index sub b)) else c

/-- What a change of cache_mode does at once (R102). -/
def Chip.cacheModeHook (c : Chip) (p old : Nat) : Chip :=
  let new := c.val 0x2420 p
  if old = 1 ∧ new = 0 then c.updPiste p (fun x => { x with throughUntilLane := true, laneNamed := false })
  else if old = 0 ∧ new = 1 then c.updPiste p (fun x => { x with throughUntilLane := false, laneNamed := false })
  else c

/-! ### Command objects (Table 12.3, WO) -/

/-- The reason a write to a command object is refused for; `own` is the owning chapter's, 0 where it takes the command.
[DEDUCED, notes/assumptions/94.md] -/
def Chip.commandReason (c : Chip) (index sub : Nat) (w : Writer) (own : Nat) : Nat :=
  let r := c.accessReason index sub w
  if r ≠ 0 then r else own

/-- A write to a command object: logged, and acted on where it is accepted. -/
def Chip.command (c : Chip) (index sub value : Nat) (w : Writer) (own : Nat) (act : Chip → Chip) : Chip :=
  let r := c.commandReason index sub w own
  let c := c.logChange index sub w r 0 0 value (decide (index = 0x4020))
  if r = 0 then act c else c

/-! ### piste_run (R66) -/

def Chip.runReason (c : Chip) (p v : Nat) : Nat :=
  let x := c.piste p
  if (v = 0 ∧ x.state = .online) ∨ (v = 1 ∧ x.state = .stopped) then 0 else 5

def Chip.runAct (c : Chip) (p v : Nat) : Chip :=
  (c.updPiste p (fun x => { x with state := if v = 0 then .stopping else .online })).pisteChange p

/-- PISTE_STOP. -/
def execPisteStop (piste : Nat) (writer : Writer) (s : State) : Host.Outcome State Fault Refusal :=
  s.effect (fun c => c.command 0x3020 piste 0 writer (c.runReason piste 0) (fun c => c.runAct piste 0))

/-- PISTE_START. -/
def execPisteStart (piste : Nat) (writer : Writer) (s : State) : Host.Outcome State Fault Refusal :=
  s.effect (fun c => c.command 0x3020 piste 1 writer (c.runReason piste 1) (fun c => c.runAct piste 1))

end Sys2Proof.Machine
end

