-- ==== Sys2Proof/Machine/Hmac.lean ====
section
/-! DEFINITION. The authentication tag of R347: HMAC-SHA-256 as FIPS 198-1 and FIPS 180-4, which R347 names, describe it. The
constants and rounds come from those standards, not from the spec (PRESUMED, notes/assumptions/10.md). -/

namespace Sys2Proof.Machine

/-- A 32-bit word of SHA-256. -/
abbrev Word32 := BitVec 32

/-- The largest r with r^d at most n, among numbers of so many bits. -/
def rootBelow (d n : Nat) : Nat → Nat → Nat
  | 0, r => r
  | b + 1, r => rootBelow d n b (if (r + 2 ^ b) ^ d ≤ n then r + 2 ^ b else r)

/-- Primes below 312: the first 64. -/
def shaPrimes : List Nat :=
  (List.range 312).filter (fun n => decide (2 ≤ n) && (List.range 18).all (fun d => decide (d < 2) || decide (n ≤ d) || decide (n % d ≠ 0)))

/-- The first 32 bits of the fraction of a number's d-th root. -/
def rootBits (d n : Nat) : Word32 := BitVec.ofNat 32 (rootBelow d (n * 2 ^ (32 * d)) 37 0)

/-- The round constants: from the cube roots of the first 64 primes. [PRESUMED, notes/assumptions/10.md] -/
def shaK : List Word32 := shaPrimes.map (rootBits 3)

/-- The hash value a message begins with: from the square roots of the first 8. [PRESUMED, notes/assumptions/10.md] -/
def shaH : List Word32 := (shaPrimes.take 8).map (rootBits 2)

/-- Bytes as big-endian words, and back. -/
def wordsOf : Bytes → List Word32
  | a :: b :: c :: d :: r => (a ++ b ++ c ++ d) :: wordsOf r
  | _ => []

def bytesOf (l : List Word32) : Bytes :=
  (l.map (fun w => [w.extractLsb' 24 8, w.extractLsb' 16 8, w.extractLsb' 8 8, w.extractLsb' 0 8])).flatten

/-- A message padded to whole blocks of 64 bytes: a one bit, zeros, the length in bits. -/
def shaPad (m : Bytes) : Bytes :=
  let bits := m.length * 8
  m ++ [0x80] ++ List.replicate ((119 - m.length % 64) % 64) 0 ++
    (List.range 8).map (fun i => BitVec.ofNat 8 (bits / 256 ^ (7 - i)))

/-- The message schedule, newest word first: `n` further words. -/
def shaSchedule : Nat → List Word32 → List Word32
  | 0, w => w
  | n + 1, w =>
    let at_ := fun (i : Nat) => w.getD (i - 1) 0
    let s0 := (at_ 15).rotateRight 7 ^^^ (at_ 15).rotateRight 18 ^^^ (at_ 15) >>> 3
    let s1 := (at_ 2).rotateRight 17 ^^^ (at_ 2).rotateRight 19 ^^^ (at_ 2) >>> 10
    shaSchedule n ((at_ 16 + s0 + at_ 7 + s1) :: w)

/-- One round on the eight working words. -/
def shaRound (v : List Word32) (kw : Word32) : List Word32 :=
  match v with
  | [a, b, c, d, e, f, g, h] =>
    let s1 := e.rotateRight 6 ^^^ e.rotateRight 11 ^^^ e.rotateRight 25
    let t1 := h + s1 + ((e &&& f) ^^^ (~~~e &&& g)) + kw
    let s0 := a.rotateRight 2 ^^^ a.rotateRight 13 ^^^ a.rotateRight 22
    let t2 := s0 + ((a &&& b) ^^^ (a &&& c) ^^^ (b &&& c))
    [t1 + t2, a, b, c, d + t1, e, f, g]
  | v => v

/-- One block of 16 words. -/
def shaBlock (h w : List Word32) : List Word32 :=
  let sched := (shaSchedule 48 w.reverse).reverse
  let v := (List.zipWith (· + ·) shaK sched).foldl shaRound h
  List.zipWith (· + ·) h v

/-- The blocks in order. -/
def shaBlocks : Nat → List Word32 → List Word32 → List Word32
  | 0, h, _ => h
  | n + 1, h, w => shaBlocks n (shaBlock h (w.take 16)) (w.drop 16)

/-- SHA-256. [PRESUMED, notes/assumptions/10.md] -/
def sha256 (m : Bytes) : Bytes :=
  let w := wordsOf (shaPad m)
  bytesOf (shaBlocks (w.length / 16) shaH w)

/-- A key of 32 bytes filled to a block, each byte combined with `x`. -/
def hmacPad (key : Bytes) (x : Byte) : Bytes := ((key ++ List.replicate (64 - key.length) 0).take 64).map (· ^^^ x)

/-- HMAC-SHA-256. [PRESUMED, notes/assumptions/10.md] -/
def hmac (key m : Bytes) : Bytes := sha256 (hmacPad key 0x5c ++ sha256 (hmacPad key 0x36 ++ m))

/-- The tag: the first 16 bytes (R347). [PRESUMED, notes/assumptions/10.md] -/
def hmacTag (key m : Bytes) : Bytes := (hmac key m).take 16

end Sys2Proof.Machine
end

