-- ==== Sys2Proof/Machine/Network.lean ====
section
/-! DEFINITION. The management network (R343 to R353): the PHY, frames and their tags, the sessions of both directions, requests and
their retries, DISCOVER and SYNC_REQ. -/

namespace Sys2Proof.Machine

/-- This unit's MAC address. -/
def Chip.mac (c : Chip) : Nat := leNat (c.octets 0x4001)

def broadcastMac : Nat := 2 ^ 48 - 1

/-- The judge's address (R354). -/
def Chip.judgeAddress (c : Chip) : Nat := leAt (c.octets 0x3810) 0 8

/-! ### The PHY (R344) -/

/-- Pairs this unit judges: slots of judge_accept_pair in use. -/
def Chip.pairsJudged (c : Chip) : Nat :=
  if c.val 0x3850 = 1 then countOf (List.range 4) (fun i => decide (c.val 0x4040 i ≠ 0)) else 0

/-- PLCA burst count. -/
def Chip.burstCount (c : Chip) : Nat := max (c.val 0x4013) (2 * c.pairsJudged - 1)

/-- The registers the sequence writes, in order. [DEDUCED, notes/assumptions/69.md] -/
def Chip.phyWrites (c : Chip) : List (Nat × Nat) :=
  [(0xCA01, 0), (0xCA02, c.val 0x4012 * 256 + c.val 0x4011), (0xCA04, c.val 0x4014), (0xCA05, c.burstCount * 256 + 128)] ++
    (if c.val 0x4010 = 1 then [(0xCA01, 0x8000)] else [])

/-- ADP is up once the PHY is set up: NO_KEY without a key (R347). -/
def Chip.adpReady (c : Chip) : Chip :=
  c.onAdp (fun a => { a with astate := if c.val 0x4000 = 0 then 0 else if c.dict.keys.isEmpty then 1 else 2 })

/-- The sequence of R344, with the register that does not read back, if any: the fault is cleared once adp_state says so.
[DEDUCED, notes/assumptions/69.md] -/
def Chip.programPhy (c : Chip) (bad : Option Nat) : Chip :=
  let w := c.phyWrites
  let c := c.each w (fun c r => (c.onAdp (fun a => { a with phy := a.phy.put r.1 r.2 })).emit (.mdio r.1 r.2))
  match bad with
  | none => c.adpReady
  | some r => (c.onAdp (fun a => { a with astate := 3 })).faultAndClear 0xC0 0x20 (some r)

/-- PHY_RESET_DETECTED. -/
def execPhyResetDetected (readBackOk : Bool) (badRegister : Nat) (s : State) : Host.Outcome State Fault Refusal :=
  s.effect (fun c =>
    if c.val 0x4000 = 0 ∨ !c.clk.running then c
    else
      let c := c.programPhy (if readBackOk then none else some badRegister)
      if readBackOk then c else c.onAdp (fun a => { a with phy := a.phy.drop badRegister }))

/-! ### Frames (R346, R347) -/

/-- The bytes a frame's tag covers: from the destination address to the end of the body. -/
def frameBytes (f : AdpFrame) : Bytes :=
  leBytes 6 f.dstMac ++ leBytes 6 f.srcMac ++ [0x88, 0xB5] ++ leBytes 1 f.version ++ leBytes 1 f.op ++
    leBytes 1 (if f.reply then 1 else 0) ++ leBytes 1 (f.keySlot % 2) ++ leBytes 2 f.status ++ leBytes 2 f.body.length ++
    leBytes 8 f.session ++ leBytes 8 f.seq ++ f.body

/-- Send a frame, sealed under the key of the sending slot; none leaves while ADP is not up. -/
def Chip.sendFrame (c : Chip) (f : AdpFrame) : Chip :=
  let slot := c.val 0x4022
  match c.dict.keys.find slot with
  | none => c
  | some key =>
    if c.adp.astate ≠ 2 then c
    else
      let f := { f with srcMac := c.mac, version := 1, keySlot := slot }
      (c.bump 0x4031).emit (.adp { f with tag := hmacTag key (frameBytes f) })

/-- A reply to a request. -/
def replyTo (f : AdpFrame) (status : Nat) (body : Bytes) : AdpFrame :=
  { f with dstMac := f.srcMac, reply := true, status, body, tag := [], etherType := 0x88B5, vlan := false, fcsOk := true }

/-- A frame that the MAC receives: a good FCS, no VLAN tag, ADP's EtherType, this unit's address or the broadcast one (R343). -/
def Chip.macTakes (c : Chip) (f : AdpFrame) : Bool :=
  f.fcsOk && !f.vlan && decide (f.etherType = 0x88B5) && (decide (f.dstMac = c.mac) || decide (f.dstMac = broadcastMac))

/-- A frame that arrives: taken in by the MAC, and its tag good (R343, R347); else it is discarded. -/
def Chip.takeFrame (c : Chip) (f : AdpFrame) (act : Chip → Chip) : Chip :=
  if (c.adp.astate ≠ 2 ∧ c.adp.astate ≠ 1) ∨ !c.macTakes f then c
  else
    let c := c.bump 0x4030
    match c.dict.keys.find f.keySlot with
    | none => c.bump 0x4032
    | some key =>
      if hmacTag key (frameBytes f) ≠ f.tag ∨ c.adp.astate ≠ 2 then c.bump 0x4032
      else act c

/-! ### Lease frames (R278, R352) -/

/-- A lease request's 48 bytes (Table 10.4). -/
def leaseRequestBytes (r : LeaseRequest) : Bytes :=
  leBytes 1 r.op ++ leBytes 1 r.role ++
  leBytes 2 ((if r.synced then 1 else 0) + (if r.pUp then 2 else 0) + (if r.partnerAlive then 4 else 0)) ++
  leBytes 4 r.epoch ++ leBytes 8 r.pairId ++ leBytes 8 r.serial ++ leBytes 8 r.sealSeq ++ leBytes 4 r.requestSeq ++
  leBytes 4 r.leaseUs ++ List.replicate 8 0

/-- A lease reply's 48 bytes (Table 10.5). -/
def leaseAnswerBytes (a : LeaseAnswer) : Bytes :=
  leBytes 1 a.result ++ leBytes 1 a.op ++ leBytes 2 0 ++ leBytes 4 a.epoch ++ leBytes 8 a.pairId ++ leBytes 8 a.holder ++
  leBytes 4 a.requestSeq ++ leBytes 4 a.protectionUs ++ leBytes 2 a.partnerAge ++ List.replicate 14 0

/-- A judge's reply goes out as a LEASE frame. [DESIGN CHOICE, notes/assumptions/60.md] -/
def Chip.answerLease (c : Chip) (dst : Nat) (a : LeaseAnswer) : Chip := (c.bump 0x4031).emit (.leaseReply dst (leaseAnswerBytes a))

/-! ### Sessions held as receiver (R348, R349) -/

def Chip.session (c : Chip) (id : Nat) : Option Session := if id = 0 then none else c.adp.sessions.find? (fun s => decide (s.id = id))

def Chip.updSession (c : Chip) (id : Nat) (f : Session → Session) : Chip :=
  c.onAdp (fun a => { a with sessions := a.sessions.map (fun s => if s.id = id then f s else s) })

/-- Answer a request of a session: the reply is kept for a repeat. -/
def Chip.answerFrame (c : Chip) (f : AdpFrame) (status : Nat) (body : Bytes) : Chip :=
  let r := replyTo f status body
  (c.updSession f.session (fun s => { s with stored := some r })).sendFrame r

/-- A reserved operation or version is answered UNSUPPORTED; a request of a session runs once (R349). -/
def Chip.inSession (c : Chip) (f : AdpFrame) (act : Chip → Chip) : Chip :=
  c.takeFrame f (fun c =>
    if f.reply then c
    else if f.version ≠ 1 then c.sendFrame (replyTo f 6 [])
    else match c.session f.session with
      | none => c.sendFrame (replyTo f 5 [])
      | some s =>
        let c := c.updSession f.session (fun s => { s with lastLap := c.lap })
        if s.highest < f.seq then act (c.updSession f.session (fun s => { s with highest := f.seq, stored := none }))
        else if f.seq = s.highest then (match s.stored with | some r => c.sendFrame r | none => c)
        else c.bump 0x4033)

/-- ADP_UNSUPPORTED. -/
def execAdpUnsupported (frame : AdpFrame) (s : State) : Host.Outcome State Fault Refusal :=
  s.effect (fun c => c.takeFrame frame (fun c => if frame.reply then c else c.sendFrame (replyTo frame 6 [])))

/-- DISCOVER (Table 12.9). -/
def execDiscover (frame : AdpFrame) (s : State) : Host.Outcome State Fault Refusal :=
  s.effect (fun c => c.takeFrame frame (fun c =>
    let filter := leAt frame.body 0 8
    if frame.reply then c
    else if frame.version ≠ 1 then c.sendFrame (replyTo frame 6 [])
    else if filter ≠ 0 ∧ filter ≠ Config.unitSerial then c
    else c.sendFrame (replyTo { frame with session := 0 } 0
      (leBytes 8 Config.unitSerial ++ leBytes 8 c.pair.pairId ++ leBytes 1 c.straps.nodeId ++ leBytes 1 c.pair.role.code ++
        leBytes 1 (c.val 0x1002) ++ leBytes 1 (c.val 0x3850) ++ leBytes 4 (leNat ((c.readObject 0x1005 0).getD []))))))

/-- The session idle longest. -/
def idlest (l : List Session) : Option Session :=
  l.foldl (fun (a : Option Session) s => match a with
    | none => some s
    | some y => if s.lastLap < y.lastLap then some s else some y) none

/-- SYNC_REQ: a new session; with 32 held, it replaces the one idle longest (R348). -/
def execSyncReq (frame : AdpFrame) (s : State) : Host.Outcome State Fault Refusal :=
  s.effect (fun c => c.takeFrame frame (fun c =>
    if frame.reply then c
    else if frame.version ≠ 1 then c.sendFrame (replyTo frame 6 [])
    else
      let r := c.random64
      let c := r.2
      let kept := if c.adp.sessions.length < 32 then c.adp.sessions else match idlest c.adp.sessions with
        | some o => c.adp.sessions.filter (fun s => decide (s.id ≠ o.id))
        | none => []
      let new : Session := { id := r.1, mac := frame.srcMac, highest := 0, stored := none, lastLap := c.lap }
      let c := c.onAdp (fun a => { a with sessions := kept ++ [new] })
      c.sendFrame (replyTo { frame with session := 0 } 0 (leBytes 8 (leAt frame.body 0 8) ++ leBytes 8 r.1))))

/-! ### Requests (R348, R350, R353) -/

def Chip.requester (c : Chip) (judge : Bool) : Requester := if judge then c.adp.toJudge else c.adp.toPartner
def Chip.setRequester (c : Chip) (judge : Bool) (r : Requester) : Chip :=
  c.onAdp (fun a => if judge then { a with toJudge := r } else { a with toPartner := r })

/-- The address of the receiver. -/
def Chip.peerMac (c : Chip) (judge : Bool) : Nat := if judge then c.judgeAddress else c.adp.partnerMac

/-- An empty frame to a receiver. -/
def Chip.blankFrame (c : Chip) (judge : Bool) : AdpFrame :=
  { srcMac := c.mac, dstMac := c.peerMac judge, version := 1, op := 0, reply := false, keySlot := 0, status := 0, session := 0, seq := 0
    body := [], tag := [] }

/-- Open a session: SYNC_REQ with a nonce from the random source. -/
def Chip.openSession (c : Chip) (judge : Bool) : Chip :=
  if c.peerMac judge = 0 then c
  else
    let r := c.random64
    let f := { r.2.blankFrame judge with op := 0x02, body := leBytes 8 r.1 }
    let q := r.2.requester judge
    (r.2.setRequester judge { q with id := 0, nonce := r.1, seq := 0, outstanding := some f, sentLap := r.2.lap, tries := 0
                                     retryLap := none }).sendFrame f

/-- Send a lease request on the session to the judge: it takes the session's next number, and is never sent again (R352). -/
def Chip.sendLeaseFrame (c : Chip) (r : LeaseRequest) : Chip :=
  let q := c.adp.toJudge
  (c.setRequester true { q with seq := q.seq + 1 }).sendFrame
    { c.blankFrame true with op := 0x20, session := q.id, seq := q.seq + 1, body := leaseRequestBytes r }

/-- Send the next waiting request of a session that has none outstanding. [DEDUCED, notes/assumptions/68.md] -/
def Chip.nextRequest (c : Chip) (judge : Bool) : Chip :=
  let q := c.requester judge
  match q.waiting with
  | [] => c
  | (op, body) :: rest =>
    if q.id = 0 ∨ q.outstanding.isSome then c
    else
      let f := { c.blankFrame judge with op, session := q.id, seq := q.seq + 1, body }
      (c.setRequester judge { q with seq := q.seq + 1, outstanding := some f, sentLap := c.lap, tries := 0, retryLap := none
                                     waiting := rest }).sendFrame f

/-- Ask for a request to be sent: at once where the session is free. -/
def Chip.request (c : Chip) (judge : Bool) (op : Nat) (body : Bytes) : Chip :=
  (c.setRequester judge { c.requester judge with waiting := (c.requester judge).waiting ++ [(op, body)] }).nextRequest judge

/-- Ask for a request that goes ahead of every other (R351). [DEDUCED, notes/assumptions/70.md] -/
def Chip.requestFirst (c : Chip) (judge : Bool) (op : Nat) (body : Bytes) : Chip :=
  (c.setRequester judge { c.requester judge with waiting := (op, body) :: (c.requester judge).waiting }).nextRequest judge

/-- The number a request asked for now will carry, where none waits ahead of it. -/
def Chip.nextReqSeq (c : Chip) (judge : Bool) : Nat := (c.requester judge).seq + (c.requester judge).waiting.length + 1

/-- A unit in PAIR mode keeps a session open to its partner and to its judge (R348). -/
def Chip.keepSession (c : Chip) (judge : Bool) : Chip :=
  let q := c.requester judge
  if c.adp.astate = 2 ∧ q.id = 0 ∧ q.outstanding.isNone then c.openSession judge else c

/-- The judge is another one: the session is opened anew, and what was under way on the old one is forgotten.
[DEDUCED, notes/assumptions/72.md] -/
def Chip.judgeChanged (c : Chip) : Chip := (c.setRequester true Requester.reset).keepSession true

/-- DISCOVER of the partner (R353). -/
def Chip.discoverPartner (c : Chip) : Chip :=
  if c.pair.partnerSerial = 0 then c
  else c.sendFrame { c.blankFrame false with dstMac := broadcastMac, op := 0x01, body := leBytes 8 c.pair.partnerSerial }

/-- Requests that wait after BUSY go out again with a new number (R350). -/
def Chip.busyLap (c : Chip) (judge : Bool) : Chip :=
  let q := c.requester judge
  match q.retryLap, q.outstanding with
  | some l, some f =>
    if l ≤ c.lap then
      let f := { f with seq := q.seq + 1, session := q.id }
      (c.setRequester judge { q with seq := q.seq + 1, outstanding := some f, sentLap := c.lap, tries := 0, retryLap := none }).sendFrame f
    else c
  | _, _ => c

end Sys2Proof.Machine
end

