-- ==== Sys2Proof/Machine/Recorder.lean ====
section
/-! DEFINITION. The recorder's flush to the vault drives and its checkpoints (R422, R426). -/

namespace Sys2Proof.Machine

/-- The first block of this unit's half of the log region (R426). -/
def Chip.logBase (c : Chip) : Nat :=
  if c.pair.formed ∧ c.pair.partnerSerial < Config.unitSerial then 196608 else 131072

/-- The log header (Table 15.9). [DESIGN CHOICE, notes/assumptions/63.md] -/
def Chip.logHeader (c : Chip) (next upTo : Nat) : Bytes :=
  sealRecord 36 (fit 4096 (leBytes 6 0x48964C4F4701 ++ leBytes 2 1 ++ leBytes 8 Config.unitSerial ++ leBytes 4 (c.val 0x5006) ++
    leBytes 8 next ++ leBytes 8 upTo))

/-- Blocks of the circulating log, a ring (Table 15.9). [DESIGN CHOICE, notes/assumptions/63.md] -/
def logRing : Nat := 61438

/-- Records in blocks of 32. -/
def recordBlocks (l : List Rec) : List Bytes :=
  (List.range (ceilDiv l.length 32)).map (fun i => fit 4096 (((l.drop (32 * i)).take 32).map Rec.bytes).flatten)

/-- The writes of a flush: block and data (Table 15.9). -/
def Chip.flushWrites (c : Chip) : List (Nat × List Bytes) :=
  let k := c.recorder
  let base := c.logBase
  let new := recordBlocks (k.circ.filter (fun r => decide (k.flushed < r.seq)))
  let next := (k.logNext + new.length) % logRing
  let first := new.take (logRing - k.logNext)
  let ring := [(base + 4098 + k.logNext, first)] ++ (if first.length < new.length then [(base + 4098, new.drop first.length)] else [])
  [(base + 2 + c.val 0x5006 % 256 * 16, recordBlocks k.permanent)].filter (fun w => !w.2.isEmpty) ++
    ring.filter (fun w => !w.2.isEmpty) ++ [(base + k.logCopy, [c.logHeader next k.seq])]

/-- What a flush sets in the recorder once its writes are under way. -/
def Chip.flushBegun (c : Chip) : Chip :=
  let n := ceilDiv (countOf c.recorder.circ (fun r => decide (c.recorder.flushed < r.seq))) 32
  c.onRec (fun k => { k with flushDue := false, lastFlushLap := c.lap, saved := max k.saved k.seq, savedMs := c.nowMs, flushUpTo := k.seq, flushBad := []
                             logNext := (k.logNext + n) % logRing, logCopy := 1 - k.logCopy })

/-- A flush in the JOURNAL class (R426); the supervisor pair may be stopped for good (R416). [DEDUCED, notes/assumptions/73.md] -/
def Chip.flushRecorder (c : Chip) : Chip :=
  let drives := c.vaultUp
  if c.faults.stopped ∨ !c.recorder.flushOut.isEmpty then c
  else if drives.isEmpty then (c.bump 0x5008).onRec (fun k => { k with flushDue := false, lastFlushLap := c.lap })
  else
    let w := c.flushWrites
    let c := c.flushBegun.onRec (fun k => { k with flushOut := (drives.map (fun s => w.map (fun _ => s))).flatten })
    c.each drives (fun c s => c.each w (fun c x => c.issueWrite s 3 false x.1 x.2 true .flushLog))

/-- A command that goes to a vault drive by the vault's own path: outside the scheduler (R364, R426).
[DEDUCED, notes/assumptions/49.md; DEDUCED, notes/assumptions/73.md] -/
def Chip.vaultWrite (c : Chip) (slot block : Nat) (data : List Bytes) (fua : Bool) (chunk : Nat) : Chip :=
  let k : MCmd := { id := c.sched.nextId, cls := 3, op := .writeBlocks false block data fua, bytes := blockBytes data.length
                    deadline := none, admitted := c.clk.opNs, aborted := none, readSeq := 0, purpose := .vault chunk }
  (c.onSched (fun s => { s with nextId := k.id + 1 })).sendCommand slot k

/-- The flush at the end of a vault image: by the vault write path. -/
def Chip.flushByVault (c : Chip) (drives : List Nat) : Chip :=
  if c.faults.stopped then c
  else if drives.isEmpty then c.bump 0x5008
  else
    let w := c.flushWrites
    let c := c.each drives (fun c s => c.each w (fun c x => c.vaultWrite s x.1 x.2 true (2 ^ 32)))
    (c.flushBegun).onRec (fun k => k.made (c.val 0x5006))

/-- RECORDER_FLUSH: a write of 1 to recorder_flush. -/
def execRecorderFlush (writer : Writer) (s : State) : Host.Outcome State Fault Refusal :=
  s.effect (fun c => c.command 0x5040 0 1 writer 0 Chip.flushRecorder)

/-- Records wait to be flushed. -/
def Chip.unflushed (c : Chip) : Bool := decide (c.recorder.flushed < c.recorder.seq)

/-- RECORDER_FLUSH_PERIODIC: every 1,024 laps when records are waiting. -/
def execRecorderFlushPeriodic (s : State) : Host.Outcome State Fault Refusal :=
  s.effect (fun c => if c.unflushed ∧ c.recorder.lastFlushLap + 1024 ≤ c.lap then c.flushRecorder else c)

/-- RECORDER_CHECKPOINT: the counter is saved in both boot flashes (R422). [DEDUCED, notes/assumptions/73.md] -/
def Chip.checkpointRecorder (c : Chip) : Chip := (c.onRec (fun k => { k with saved := max k.saved k.seq, savedMs := c.nowMs })).emit (.flashWrite 2)

def execRecorderCheckpoint (s : State) : Host.Outcome State Fault Refusal := s.effect Chip.checkpointRecorder

end Sys2Proof.Machine
end

