-- ==== Sys2Proof/Machine/Estimator.lean ====
section
/-! DEFINITION. The backup pack: its descriptor (R370), the estimator (R372 to R374), rest points and learning (R375 to R380), and
the charger's states (R371). Volts, amperes, ohms, coulombs, joules and seconds, as exact fractions. -/

namespace Sys2Proof.Machine

/-- A quotient of the estimator; the spec states none for a divisor of 0. -/
def ratio (a b : Rat) : Rat := if b = 0 then Config.divZero a else a / b

/-- Bounded on both sides. -/
def clampRat (lo hi x : Rat) : Rat := if x < lo then lo else if hi < x then hi else x

def absRat (x : Rat) : Rat := if x < 0 then 0 - x else x

/-! ### The descriptor (Tables 13.6, 13.7) -/

def packQnom (d : Bytes) : Rat := (leAt d 0 4 : Rat) / 1000
def packCutMv (d : Bytes) : Nat := leAt d 5 2
def packMaxMv (d : Bytes) : Nat := leAt d 7 2
def packIchg (d : Bytes) : Rat := (leAt d 9 2 : Rat) / 1000
def packIdle (d : Bytes) : Rat := (leAt d 11 2 : Rat) / 1000000
def packEta (d : Bytes) : Rat := (leAt d 13 2 : Rat) / 1000
def packCut (d : Bytes) : Rat := (packCutMv d : Rat) / 1000
def packMax (d : Bytes) : Rat := (packMaxMv d : Rat) / 1000

/-- A temperature in tenths of a degree lies in a range of the descriptor, given by the byte of its lower end. -/
def packTempIn (d : Bytes) (at_ : Nat) (dc : Int) : Bool :=
  decide (signed 8 (leAt d at_ 1) * 10 ≤ dc) && decide (dc ≤ signed 8 (leAt d (at_ + 1) 1) * 10)

/-- Band i's temperature, in tenths of a degree. -/
def bandDc (d : Bytes) (i : Nat) : Int := signed 8 (leAt d (64 + 64 * i) 1) * 10

/-- Interpolation over the bands at a temperature, clamped at the outer bands (R372). -/
def overBands (d : Bytes) (dc : Int) (f : Nat → Rat) : Rat :=
  if dc ≤ bandDc d 0 then f 0
  else if bandDc d 3 ≤ dc then f 3
  else
    let i := if dc < bandDc d 1 then 0 else if dc < bandDc d 2 then 1 else 2
    f i + ratio ((f (i + 1) - f i) * ((dc - bandDc d i : Int) : Rat)) ((bandDc d (i + 1) - bandDc d i : Int) : Rat)

/-- Series and polarisation resistance in ohms, and the time constant in seconds. -/
def packRs (d : Bytes) (dc : Int) : Rat := overBands d dc (fun i => (leAt d (66 + 64 * i) 2 : Rat) / 10000)
def packRp (d : Bytes) (dc : Int) : Rat := overBands d dc (fun i => (leAt d (68 + 64 * i) 2 : Rat) / 10000)
def packTau (d : Bytes) (dc : Int) : Rat := overBands d dc (fun i => (leAt d (70 + 64 * i) 2 : Rat))

/-- The OCV at table point j, in volts. -/
def ocvPoint (d : Bytes) (dc : Int) (j : Nat) : Rat := overBands d dc (fun i => (leAt d (72 + 64 * i + 2 * j) 2 : Rat) / 1000)

/-- OCV(z, T): linear between the points. -/
def packOcv (d : Bytes) (dc : Int) (z : Rat) : Rat :=
  let j : Nat := min 19 (z * 20).floor.toNat
  let a := ocvPoint d dc j
  a + (ocvPoint d dc (j + 1) - a) * (z * 20 - (j : Rat))

/-- OCVinv(v, T): the inverse in z. -/
def packOcvInv (d : Bytes) (dc : Int) (v : Rat) : Rat :=
  if v < ocvPoint d dc 0 ∨ ocvPoint d dc 20 < v then Config.ocvOutside v
  else match (List.range 20).find? (fun j => decide (v ≤ ocvPoint d dc (j + 1))) with
    | some j => ((j : Rat) + ratio (v - ocvPoint d dc j) (ocvPoint d dc (j + 1) - ocvPoint d dc j)) / 20
    | none => Config.ocvOutside v

/-! ### usable(z, T) (R373) -/

/-- The drop under load at an open-circuit voltage: k (Rs + Rp) Pb / (eta V). -/
def loadDrop (d : Bytes) (dc : Int) (k pb v : Rat) : Rat := ratio (k * (packRs d dc + packRp d dc) * pb) (packEta d * v)

/-- zcut: the lowest table point that keeps the cut-off voltage under load. -/
def packZcut (d : Bytes) (dc : Int) (k pb : Rat) : Rat :=
  match (List.range 21).find? (fun j => decide (packCut d ≤ ocvPoint d dc j - loadDrop d dc k pb (ocvPoint d dc j))) with
  | some j => (j : Rat) / 20
  | none => Config.zcutNone

/-- The energy delivered from charge z down to the cut-off. -/
def packUsable (d : Bytes) (dc : Int) (k q pb z : Rat) : Rat :=
  let zcut := packZcut d dc k pb
  if z ≤ zcut then 0
  else (List.range 20).foldl (fun (e : Rat) (j : Nat) =>
    let x := clampRat zcut z ((j : Rat) / 20)
    let y := clampRat zcut z (((j + 1 : Nat) : Rat) / 20)
    if y ≤ x then e
    else
      let v := (packOcv d dc x + packOcv d dc y) / 2
      e + packEta d * q * (y - x) * (v - loadDrop d dc k pb v)) 0

/-! ### The update (R372, R373) -/

def Chip.pack (c : Chip) : Bytes := c.octets 0x4430
/-- P_unit + P_drives of R80, in watts. -/
def Chip.packPb (c : Chip) : Rat := ((c.val 0x2414 + c.val 0x2415 : Nat) : Rat) / 1000

/-- The current of Table 13.10, positive in discharge. -/
def Chip.packCurrent (c : Chip) (vm : Rat) (dc : Int) : Rat :=
  let p := c.power
  let d := c.pack
  if p.supply = .vault then ratio c.packPb (packEta d * vm)
  else if p.supply = .watch then ratio 3 (packEta d * vm)
  else if p.charger = 1 then 0 - packIchg d
  else if p.charger = 2 then
    let i := ratio (packMax d - packOcv d dc p.zc - p.vrc) (p.k * packRs d dc)
    0 - min (packIchg d) (max 0 i)
  else packIdle d

/-- Ec, Ev and E_usable from the charges (R373, R381, R384). -/
def Chip.energies (c : Chip) (dc : Int) : Chip :=
  let p := c.power
  let use := packUsable c.pack dc p.k p.q c.packPb
  let ec := use p.zc
  let ev := use p.zv
  let e := if p.packState = 1 ∧ !p.shipPending ∧ !p.first then min ec ev * (c.confidence : Rat) / 1000 else 0
  c.onPower (fun p => { p with ec, ev, usable := e })

/-- The first estimate, from one reading (R374). [DEDUCED, notes/assumptions/88.md] -/
def Chip.firstEstimate (c : Chip) (uv : Nat) (dc : Int) : Chip :=
  let d := c.pack
  let v := (uv : Rat) / 1000000
  let z := packOcvInv d dc (v + packIdle d * c.power.k * packRs d dc)
  (c.onPower (fun p => { p with packUv := uv, tempDc := dc, first := false, vrc := 0, zc := z, zv := z, zr := z })).energies dc

/-- The lap's update (R373), for a lap of `t` seconds. -/
def Chip.estimate (c : Chip) (uv : Nat) (dc : Int) (t : Rat) : Chip :=
  let p := c.power
  let d := c.pack
  let vm := (uv : Rat) / 1000000
  let i := c.packCurrent vm dc
  let a := Config.expNeg (ratio t (packTau d dc))
  let vrc := a * p.vrc + (1 - a) * i * p.k * packRp d dc
  let zc := clampRat 0 1 (p.zc - ratio (i * t) p.q)
  let zv := packOcvInv d dc (vm + i * p.k * packRs d dc + vrc)
  let zr := if 0 < i then min p.zr (min zc zv) else min zc zv
  (c.onPower (fun p => { p with packUv := uv, tempDc := dc, vrc, zc, zv, zr, integral := p.integral + i * t })).energies dc

/-- A record of class SUPPLY. [DEDUCED, notes/assumptions/19.md] -/
def Chip.supplyRecord (c : Chip) (detail : Nat) : Chip := c.record (0x700 + detail)

/-! ### Mismatch (R378) -/

/-- [DEDUCED, notes/assumptions/74.md] -/
def Chip.mismatchLap (c : Chip) : Chip :=
  let p := c.power
  let zcut := packZcut c.pack p.tempDc p.k c.packPb
  let far := decide ((15 : Rat) / 100 < absRat (p.zc - p.zv))
  let n := if far then p.mismatchLaps + 1 else 0
  let set := (decide (p.zc ≤ zcut) && decide (zcut + (1 : Rat) / 10 ≤ p.zv)) || decide (64 ≤ n)
  let c := c.onPower (fun p => { p with mismatchLaps := n })
  if set ∧ !p.mismatch then (c.onPower (fun p => { p with mismatch := true, learn := 2 })).supplyRecord 1 else c

/-! ### Rest points and learning (R375 to R377) -/

/-- Q and k are kept in flash at every change (R374). -/
def Chip.keepLearned (c : Chip) : Chip := c.emit (.flashWrite 3)

/-- The capacity learned between two rest points. [DEDUCED, notes/assumptions/74.md] -/
def Chip.learnCapacity (c : Chip) (zv : Rat) : Chip :=
  let p := c.power
  match p.lastRest with
  | none => c
  | some z1 =>
    let dz := absRat (zv - z1)
    if dz < (4 : Rat) / 10 ∨ p.learn = 3 then c
    else
      let qm := ratio (absRat p.integral) dz
      let qn := packQnom c.pack
      if qn / 2 ≤ qm ∧ qm ≤ qn * 11 / 10 then
        (c.onPower (fun p => { p with
          q := if p.learn = 0 ∨ p.learn = 2 then qm else p.q + (qm - p.q) / 4, learn := 1, mismatch := false, mismatchLaps := 0 })).keepLearned
      else (c.bump 0x4426).supplyRecord 2

/-- A rest point at the charge zv: it ends SUSPENDED, may learn the capacity, and sets the estimate (R375 to R379).
[DEDUCED, notes/assumptions/74.md] -/
def Chip.restPoint (c : Chip) (zv : Rat) : Chip :=
  let exhausted := decide (c.power.packState = 4)
  let c := c.onPower (fun p => { p with learn := if p.learn = 3 then p.learnBefore else p.learn })
  let c := c.learnCapacity zv
  let c := c.onPower (fun p => { p with
    vrc := 0, zc := zv, zv := zv, zr := zv, integral := 0, lastRest := some zv, lastRestCycles := c.clk.cycles, lastRestMs := c.nowMs
    restPointNs := c.clk.opNs, packState := if p.packState = 4 then 1 else p.packState })
  let c := if exhausted then c.onCache (fun k => { k with gateClosed := c.power.shipPending }) else c
  (c.setVal 0x4420 0 0).energies c.power.tempDc

/-- BKP_VSENSE over the last 10 minutes: equal samples run together. -/
def addSample (now : Nat) (s : Nat × Nat) (l : List (Nat × Nat × Nat)) : List (Nat × Nat × Nat) :=
  let kept := l.filter (fun x => decide (now < x.1 + 600000000000))
  match kept.getLast? with
  | some x => if (x.2.1, x.2.2) = s then kept.dropLast ++ [(now, s.1, s.2)] else kept ++ [(now, s.1, s.2)]
  | none => [(now, s.1, s.2)]

/-- How far BKP_VSENSE has moved in the window, in µV. -/
def windowMoved (l : List (Nat × Nat × Nat)) : Nat := maxOf (l.map (fun x => x.2.2)) - minOf (l.map (fun x => x.2.1)) 0

/-- The conditions of R375: 30 minutes without charge and in NORMAL, and a voltage at rest. -/
def Chip.atRest (c : Chip) : Bool :=
  let p := c.power
  !p.first && decide (p.charger ≠ 1) && decide (p.charger ≠ 2) && decide (p.supply = .normal) && c.elapsedMs p.restNs 1800000 &&
    decide (windowMoved p.window ≤ 2000) && (p.packState = 1 || p.packState = 4)

/-- The rest-point test of a lap boundary. [DEDUCED, notes/assumptions/74.md] -/
def Chip.restLap (c : Chip) (lo hi : Nat) : Chip :=
  let p := c.power
  let stir := p.charger = 1 ∨ p.charger = 2 ∨ p.supply ≠ .normal
  let c := c.onPower (fun p => { p with window := addSample c.clk.opNs (lo, hi) p.window, restNs := if stir then c.clk.opNs else p.restNs })
  if c.atRest ∧ c.power.pause ≠ 2 then c.restPoint c.power.zv else c

/-- minutes_since_rest, and a pause falls due at 72 h (R379). -/
def Chip.minutesLap (c : Chip) : Chip :=
  let m := (c.clk.opNs - c.power.restPointNs) / 60000000000
  let c := c.setVal 0x4420 0 m
  if 4320 ≤ m ∧ c.power.pause = 0 then (c.onPower (fun p => { p with pause := 1, pauseDueNs := c.clk.opNs })).supplyRecord 3 else c

/-! ### The charger (R371) -/

/-- CHG_EN may go high. -/
def Chip.mayCharge (c : Chip) : Bool :=
  let p := c.power
  (p.packState = 1 || (p.packState = 2 && p.shipArmed)) && decide (p.supply = .normal) && packTempIn c.pack 15 p.tempDc &&
    p.pauseNs.isNone && p.startRest.isNone && !p.shipPending && (!p.first || p.packState = 2)

/-- The charger's state where nothing charges. -/
def Power.heldState (p : Power) : Nat := if p.pauseNs.isSome ∨ p.startRest.isSome then 4 else 5

/-- Put the charger into a state; CHG_EN follows. -/
def Chip.setCharger (c : Chip) (v : Nat) : Chip :=
  c.onPower (fun p => { p with charger := v, chgEn := decide (v = 1) || decide (v = 2)
                               restNs := if p.charger = 1 ∨ p.charger = 2 then c.clk.opNs else p.restNs })

/-- The charger at a lap, and whenever a condition of R371 changes. -/
def Chip.chargerLap (c : Chip) : Chip :=
  let p := c.power
  let d := c.pack
  if !c.mayCharge then c.setCharger p.heldState
  else if p.charger = 1 then c
  else if p.charger = 2 then
    if c.val 0x4425 = 0 ∧ 0 - c.packCurrent ((p.packUv : Rat) / 1000000) p.tempDc < packIchg d / 20 then c.setCharger 3 else c
  else if p.packState = 2 ∨ p.zr * 1000 < (c.val 0x4424 : Rat) then c.setCharger 1
  else if p.charger = 3 then c
  else c.setCharger 0

/-- CHARGER_CV: BKP_VSENSE has reached v_max - 20 mV. -/
def execChargerCv (s : State) : Host.Outcome State Fault Refusal :=
  s.effect (fun c => if c.power.charger = 1 then c.setCharger 2 else c)

/-- RESISTANCE_STEP_MEASURE (R377). -/
def Chip.resistanceStep (c : Chip) (uv : Nat) (dc : Int) : Chip :=
  let km := ratio ((uv : Rat) / 1000000) (packIchg c.pack * packRs c.pack dc)
  if c.power.learn ≠ 3 ∧ (1 : Rat) / 2 ≤ km ∧ km ≤ 4 then
    (c.onPower (fun p => { p with k := p.k + (km - p.k) / 8 })).keepLearned
  else c

def execResistanceStepMeasure (deltaUv : Nat) (tempDc : Int) (s : State) : Host.Outcome State Fault Refusal :=
  s.effect (fun c => c.resistanceStep deltaUv tempDc)

/-! ### Charger pauses (R379) -/

/-- The pause is under way. [DEDUCED, notes/assumptions/74.md] -/
def Chip.pauseFails (c : Chip) : Chip :=
  (c.onPower (fun p => { p with pause := 1, pauseNs := none, learn := 3, learnBefore := if p.learn = 3 then p.learnBefore else p.learn })).supplyRecord 4

/-- BRACE, or the move to backup, during a pause. -/
def Chip.stirPause (c : Chip) : Chip := if c.power.pause = 2 then c.pauseFails else c

/-- CHARGER_PAUSE_START. -/
def Chip.pauseStart (c : Chip) : Chip :=
  if c.power.pause = 1 ∧ c.val 0x4421 = 1 ∧ c.power.supply = .normal then
    (c.onPower (fun p => { p with pause := 2, pauseNs := some c.clk.opNs })).chargerLap
  else c

def execChargerPauseStart (s : State) : Host.Outcome State Fault Refusal := s.effect Chip.pauseStart

/-- CHARGER_PAUSE_END: a rest point at the end is success. -/
def Chip.pauseEnd (c : Chip) (uv : Nat) (dc : Int) : Chip :=
  match c.power.pauseNs with
  | none => c
  | some t =>
    if c.power.pause ≠ 2 ∨ !c.elapsedMs t 1800000 then c
    else
      let d := c.pack
      let zv := packOcvInv d dc ((uv : Rat) / 1000000 + packIdle d * c.power.k * packRs d dc + c.power.vrc)
      if c.atRest then ((c.onPower (fun p => { p with pause := 0, pauseNs := none, tempDc := dc })).restPoint zv).chargerLap
      else c.pauseFails.chargerLap

def execChargerPauseEnd (packUv : Nat) (tempDc : Int) (s : State) : Host.Outcome State Fault Refusal :=
  s.effect (fun c => c.pauseEnd packUv tempDc)

/-- PAUSE_WINDOW_FAIL: the window closes early, or none opens within 24 h. -/
def Chip.pauseWindowFail (c : Chip) : Chip :=
  let p := c.power
  if p.pause = 2 ∧ c.val 0x4421 = 0 then c.pauseFails.chargerLap
  else if p.pause = 1 ∧ p.learn ≠ 3 ∧ c.elapsedMs p.pauseDueNs 86400000 then c.pauseFails
  else c

def execPauseWindowFail (s : State) : Host.Outcome State Fault Refusal := s.effect Chip.pauseWindowFail

/-! ### The pack's state (R369, Table 13.5, R374, R381, R384) -/

/-- START_REST_END: the hold of R376 ends; a voltage at rest makes it a rest point, except of a disconnected pack. -/
def Chip.startRestEnd (c : Chip) (uv : Nat) (dc : Int) (moved : Nat) : Chip :=
  match c.power.startRest with
  | none => c
  | some t =>
    if !c.elapsedMs t 120000 then c
    else
      let d := c.pack
      let ship := decide (c.power.packState = 2)
      let c := c.onPower (fun p => { p with startRest := none, shipArmed := ship })
      let zv := packOcvInv d dc ((uv : Rat) / 1000000 + packIdle d * c.power.k * packRs d dc + c.power.vrc)
      (if moved ≤ 2000 ∧ !ship ∧ !c.power.first then (c.onPower (fun p => { p with packUv := uv, tempDc := dc })).restPoint zv else c).chargerLap

def execStartRestEnd (packUv : Nat) (tempDc : Int) (moved60sUv : Nat) (s : State) : Host.Outcome State Fault Refusal :=
  s.effect (fun c => c.startRestEnd packUv tempDc moved60sUv)

/-- PACK_LEAVES_CONNECTED: ABSENT, FAULT or EXHAUSTED; no new dirty bytes from the next stride (R381). -/
def Chip.packLeaves (c : Chip) (cause : Nat) : Chip :=
  if c.power.packState = 1 ∧ (cause = 0 ∨ cause = 3 ∨ cause = 4) then
    (((c.onPower (fun p => { p with packState := cause })).onCache (fun k => { k with gateClosed := true })).supplyRecord 5).chargerLap
  else c

def execPackLeavesConnected (cause : Nat) (s : State) : Host.Outcome State Fault Refusal := s.effect (fun c => c.packLeaves cause)

/-- Table 13.5 for a reading: ABSENT, FAULT or usable. [DEDUCED, notes/assumptions/74.md] -/
def Chip.packReading (c : Chip) (uv : Nat) (dc : Int) : Nat :=
  if uv < 4000000 then 0
  else if !packTempIn c.pack 17 dc ∨ (packMaxMv c.pack + 200) * 1000 < uv then 3
  else 1

/-- PACK_CONNECTED: an absent or faulty pack reads as usable. -/
def Chip.packConnected (c : Chip) (mv : Nat) (dc : Int) : Chip :=
  if (c.power.packState = 0 ∨ c.power.packState = 3) ∧ c.packReading (mv * 1000) dc = 1 then
    let c := (c.onPower (fun p => { p with packState := 1 })).onCache (fun k => { k with gateClosed := c.power.shipPending })
    ((if c.power.first then c.firstEstimate (mv * 1000) dc else c).supplyRecord 6).chargerLap
  else c

def execPackConnected (packMv : Nat) (tempDc : Int) (s : State) : Host.Outcome State Fault Refusal :=
  s.effect (fun c => c.packConnected packMv tempDc)

/-- PACK_RECONNECT: the module has closed its switch (R384); the estimator takes its first estimate. -/
def Chip.packReconnect (c : Chip) (uv : Nat) (dc : Int) : Chip :=
  let d := c.pack
  if c.power.packState = 2 ∧ c.power.shipArmed ∧ packCutMv d * 1000 ≤ uv ∧ uv ≤ packMaxMv d * 1000 then
    let c := c.onPower (fun p => { p with packState := 1, shipArmed := false, packSw := false })
    ((c.onCache (fun k => { k with gateClosed := false })).firstEstimate uv dc).supplyRecord 7
  else c

def execPackReconnect (packUv : Nat) (tempDc : Int) (s : State) : Host.Outcome State Fault Refusal :=
  s.effect (fun c => c.packReconnect packUv tempDc)

/-- PACK_REPLACED: the pack is new (R371). -/
def Chip.newPack (c : Chip) : Chip :=
  ((c.onPower (fun p => { p with q := packQnom c.pack, k := 1, learn := 0, learnBefore := 0, lastRest := none })).keepLearned).chargerLap

def execPackReplaced (writer : Writer) (s : State) : Host.Outcome State Fault Refusal :=
  s.effect (fun c => c.command 0x4431 0 1 writer 0 Chip.newPack)

/-- SHIP_MODE (R384): accepted in NORMAL with its one value. -/
def Chip.shipReason (c : Chip) (value : Nat) : Nat := if value ≠ 0x50494853 then 4 else if c.power.supply = .normal then 0 else 5

/-- E_usable is 0 and the gate is shut at once. -/
def Chip.shipAct (c : Chip) : Chip :=
  (c.onPower (fun p => { p with shipPending := true, usable := 0 })).onCache (fun k => { k with gateClosed := true })

def execShipMode (value : Nat) (writer : Writer) (s : State) : Host.Outcome State Fault Refusal :=
  s.effect (fun c => c.command 0x4432 0 value writer (c.shipReason value) Chip.shipAct)

/-- SHIP_MODE_OPEN: dirty bytes have reached 0; the pack switch opens. -/
def Chip.shipOpen (c : Chip) : Chip :=
  if c.power.shipPending ∧ c.dirtyBytes = 0 ∧ c.power.supply = .normal then
    (((c.setCharger 5).onPower (fun p => { p with packState := 2, packSw := true, packSwNs := c.clk.opNs })).emit (.flashWrite 4)).supplyRecord 8
  else c

/-- PACK_SW is a pulse of at least 20 ms and at most 50 ms: it ends at the first lap boundary past 20 ms (R449, Table 17.5). -/
def Chip.packSwitchLap (c : Chip) : Chip :=
  if c.power.packSw ∧ c.elapsedMs c.power.packSwNs 20 then c.onPower (fun p => { p with packSw := false }) else c

def execShipModeOpen (s : State) : Host.Outcome State Fault Refusal := s.effect Chip.shipOpen

end Sys2Proof.Machine
end

