-- ==== Sys2Proof/Machine/Members.lean ====
section
/-! DEFINITION. Member ports, slots and the bay (R242 to R271): timeouts, containment and release, the slot sideband, the attention
button, insertion and its outcomes. -/

namespace Sys2Proof.Machine

/-! ### Commands that take too long (R245) -/

/-- MEMBER_COMMAND_TIMEOUT: an NVMe Abort is asked for, to be sent on the admin queue at the next boundary that has room (R27), and the
timeout counts as an error (R146).
[DEDUCED, notes/assumptions/17.md] -/
def Chip.commandTimeout (c : Chip) (slot id : Nat) : Chip :=
  let m := c.member slot
  match m.outstanding.find? (fun k => decide (k.id = id)) with
  | none => c
  | some k =>
    if m.slot = .contained ∨ k.aborted.isSome ∨ m.abortAsked id ∨ !c.elapsedMs k.admitted (c.val 0x3404) then c
    else (c.issueAbort slot id).countError slot

def execMemberCommandTimeout (slot id : Nat) (s : State) : Host.Outcome State Fault Refusal :=
  s.effect (fun c => c.commandTimeout slot id)

/-- ABORT_TIMEOUT: the Abort of a command has not completed within 1,000 ms. -/
def Chip.abortTimeout (c : Chip) (slot id : Nat) : Chip :=
  match (c.member slot).outstanding.find? (fun k => decide (k.id = id)) with
  | some k => (match k.aborted with
    | some t =>
      let runs := (c.member slot).outstanding.any (fun a => decide (a.op = .nvmeAbort id))
      if runs ∧ c.elapsedMs t 1000 then c.contain slot 4 else c
    | none => c)
  | none => c

def execAbortTimeout (slot id : Nat) (s : State) : Host.Outcome State Fault Refusal := s.effect (fun c => (c.abortTimeout slot id).pumpHost)

/-! ### Containment (R252 to R254) -/

/-- MEMBER_LINK_FAULT: causes 1 to 3 of Table 9.5. -/
def Chip.linkFault (c : Chip) (slot cause : Nat) : Chip :=
  if (c.member slot).linkUp ∧ 1 ≤ cause ∧ cause ≤ 3 then c.contain slot cause else c

def execMemberLinkFault (slot cause : Nat) (s : State) : Host.Outcome State Fault Refusal :=
  s.effect (fun c => (c.linkFault slot cause).pumpHost)

/-- A slot state of a drive in service. -/
def SlotState.serving (t : SlotState) : Bool := t = .inUse || t = .removalPending || t = .quiescing

/-- A release would succeed: the link has retrained, the drive is the same on all three points, and a log is kept (R252, R253). -/
def Chip.releasable (c : Chip) (slot : Nat) (linkUp identityOk : Bool) : Bool :=
  (c.member slot).slot = .contained && linkUp && identityOk && c.logs.any (fun l => l.open_ && decide (l.slot = slot))

/-- The port is released: the member resyncs what it missed (R253). [DEDUCED, notes/assumptions/53.md] -/
def Chip.release (c : Chip) (slot : Nat) : Chip :=
  let m := c.member slot
  let c := c.setMember slot { m with
    slot := if m.prevSlot.serving then .inUse else m.prevSlot
    linkUp := true, contCause := 0, contNs := none
    mstate := if m.mstate = .rebuilding ∨ m.mstate = .rebuilt ∨ (m.mstate = .failed ∧ m.graceOver) then m.mstate else .resyncing }
  let c := if (c.member slot).mstate = .resyncing then c.directoryChange else c
  c.memberEvent slot 8 0

/-- CONTAINMENT_RELEASE. -/
def execContainmentRelease (slot : Nat) (writer : Writer) (linkUp identityOk : Bool) (s : State) :
    Host.Outcome State Fault Refusal :=
  s.effect (fun c => c.command 0x3432 slot 1 writer (if c.releasable slot linkUp identityOk then 0 else 5)
    (fun c => c.release slot))

/-- CONTAINMENT_AUTO_RELEASE: at most 3 attempts within the window, each with presence set and the link up. -/
def Chip.autoRelease (c : Chip) (slot : Nat) (linkUp identityOk : Bool) : Chip :=
  let m := c.member slot
  match m.contNs with
  | none => c
  | some t =>
    if m.slot ≠ .contained ∨ c.val 0x3433 slot = 0 ∨ !m.presence ∨ !linkUp ∨ 3 ≤ m.contAttempts ∨ c.elapsedMs t (c.val 0x3434) then c
    else
      let c := c.setMember slot { m with contAttempts := m.contAttempts + 1 }
      if c.releasable slot linkUp identityOk then c.release slot
      else c.logChange 0x3432 slot selfWriter 5 0 0 1 false

def execContainmentAutoRelease (slot : Nat) (linkUp identityOk : Bool) (s : State) : Host.Outcome State Fault Refusal :=
  s.effect (fun c => c.autoRelease slot linkUp identityOk)

/-- CONTAINMENT_WINDOW_EXPIRY. -/
def Chip.containmentExpiry (c : Chip) (slot : Nat) : Chip :=
  let m := c.member slot
  match m.contNs with
  | none => c
  | some t =>
    if m.slot ≠ .contained ∨ !c.elapsedMs t (c.val 0x3434) then c
    else
      let c := c.setMember slot { m with contNs := none }
      if m.prevSlot.serving then c.failMember slot 2 else c

def execContainmentWindowExpiry (slot : Nat) (s : State) : Host.Outcome State Fault Refusal :=
  s.effect (fun c => (c.containmentExpiry slot).pumpHost)

/-! ### Power and presence (R255, R264 to R266) -/

/-- Turn a slot's power off: its link goes with it. -/
def Member.unpowered (m : Member) : Member :=
  { m with powerEnable := false, linkUp := false, linkSpeed := 0, linkWidth := 0, waitPower := false, shutting := false,
           windowNs := none, contCause := 0, contNs := none }

/-- A slot leaves the queue for a power group. -/
def Chip.leaveGroup (c : Chip) (slot : Nat) : Chip :=
  c.onStart (fun k => { k with powerOrder := k.powerOrder.filter (fun s => decide (s ≠ slot)) })

/-- A drive has gone: the slot is empty, what it held as a replacement is open again. [DEDUCED, notes/assumptions/51.md] -/
def Chip.slotEmptied (c : Chip) (slot : Nat) : Chip :=
  (c.leaveGroup slot).updMember slot (fun m => { m.unpowered with
    slot := if m.slot = .disabled then .disabled else .empty
    presence := false, rawPresence := false, powerGood := false, refusedNs := none, replaces := none })

/-- CONTAINED_PRESENCE_LOSS. -/
def Chip.containedLoss (c : Chip) (slot : Nat) : Chip :=
  let m := c.member slot
  if m.slot ≠ .contained then c
  else
    let c := if m.prevSlot.serving then c.failMember slot 1 else c
    (c.slotEmptied slot).memberEvent slot 2 0

def execContainedPresenceLoss (slot : Nat) (s : State) : Host.Outcome State Fault Refusal :=
  s.effect (fun c => (c.containedLoss slot).pumpHost)

/-- SURPRISE_REMOVAL (R264): a powered drive is gone. -/
def Chip.surpriseRemoval (c : Chip) (slot : Nat) : Chip :=
  let m := c.member slot
  if !m.presence ∨ !m.powerEnable then c
  else
    let serving := m.slot.serving || (m.slot = .contained && m.prevSlot.serving)
    let c := if m.linkUp then c.contain slot 1 else c.cancelCommands slot true
    let c := if serving then c.failMember slot 1 else c
    (c.slotEmptied slot).memberEvent slot 2 0

def execSurpriseRemoval (slot : Nat) (s : State) : Host.Outcome State Fault Refusal :=
  s.effect (fun c => (c.surpriseRemoval slot).pumpHost)

/-- PRESENCE_LOST: a drive is gone from a slot whose power is off. -/
def Chip.presenceLost (c : Chip) (slot : Nat) : Chip :=
  let m := c.member slot
  if m.powerEnable ∨ m.slot = .empty then c else c.slotEmptied slot

def execPresenceLost (slot : Nat) (s : State) : Host.Outcome State Fault Refusal := s.effect (fun c => c.presenceLost slot)

/-- A slot joins the next power group (R265). -/
def Chip.joinGroup (c : Chip) (slot : Nat) : Chip :=
  (c.updMember slot (fun m => { m with waitPower := true })).onStart (fun k => { k with powerOrder := addNew k.powerOrder slot })

/-- PRESENCE_DEBOUNCED: a drive is inserted (R265). -/
def Chip.presenceDebounced (c : Chip) (slot : Nat) : Chip :=
  let m := c.member slot
  if slot < c.slots ∧ (m.slot = .empty ∨ m.slot = .debounce) ∧ !m.presence ∧ c.val 0x3444 slot = 1 then
    ((c.setMember slot { m with slot := .debounce, presence := true, rawPresence := true }).memberEvent slot 1 0).joinGroup slot
  else c

def execPresenceDebounced (slot : Nat) (s : State) : Host.Outcome State Fault Refusal := s.effect (fun c => c.presenceDebounced slot)

/-- The time of the next group: before the 150 ms step no boundary tells the time, and the group itself does (R429).
[DESIGN CHOICE, notes/assumptions/13.md] -/
def Chip.groupTime (c : Chip) : Chip :=
  if !c.clk.running ∧ c.start.powered ∧ c.start.phase = 0 ∧ c.start.nextGroupNs < c.clk.startNs + 150000000 then
    { c with clk := { c.clk with opNs := max c.clk.opNs c.start.nextGroupNs } }
  else c

/-- SLOT_POWER_GROUP: power for at most 4 slots, 25 ms after the last group (R265); none in NO_IMAGE (R433). -/
def Chip.powerGroup (c : Chip) : Chip :=
  if c.clk.opNs < c.start.nextGroupNs ∨ !c.start.powered ∨ c.start.phase = 6 then c
  else
    let l := c.start.powerOrder.take 4
    let c := c.onStart (fun k => { k with
      powerOrder := k.powerOrder.drop 4
      nextGroupNs := if l.isEmpty then k.nextGroupNs else c.clk.opNs + 25000000 })
    c.each l (fun c slot => c.updMember slot (fun m =>
      { m with powerEnable := true, waitPower := false, slot := .powering, timerNs := c.clk.opNs }))

def execSlotPowerGroup (s : State) : Host.Outcome State Fault Refusal := s.clockEffect (fun c => c.groupTime.aside Chip.powerGroup)

/-- POWER_GOOD. -/
def Chip.powerGood (c : Chip) (slot : Nat) : Chip :=
  let m := c.member slot
  if m.slot = .powering then c.setMember slot { m with powerGood := true, slot := .training, timerNs := c.clk.opNs } else c

def execPowerGood (slot : Nat) (s : State) : Host.Outcome State Fault Refusal := s.effect (fun c => c.powerGood slot)

/-- A slot that does not come up goes to POWER_FAULT (R266). -/
def Chip.powerFault (c : Chip) (slot : Nat) : Chip :=
  (c.updMember slot (fun m => { m.unpowered with slot := .powerFault })).memberEvent slot 11 0

/-- POWER_GOOD_TIMEOUT. -/
def Chip.powerGoodTimeout (c : Chip) (slot : Nat) : Chip :=
  let m := c.member slot
  if m.slot = .powering ∧ c.elapsedMs m.timerNs 500 then c.powerFault slot else c

def execPowerGoodTimeout (slot : Nat) (s : State) : Host.Outcome State Fault Refusal := s.effect (fun c => c.powerGoodTimeout slot)

/-- INSERTION_WAIT_TIMEOUT: no link within 1 s, or a controller not ready within its own wait, which only the drive tells. -/
def Chip.insertionTimeout (c : Chip) (slot : Nat) : Chip :=
  let m := c.member slot
  if m.slot = .training ∧ (m.linkUp ∨ c.elapsedMs m.timerNs 1000) then c.powerFault slot else c

def execInsertionWaitTimeout (slot : Nat) (s : State) : Host.Outcome State Fault Refusal := s.effect (fun c => c.insertionTimeout slot)

/-- MEMBER_LINK_UP: speeds of Table 8.15 from 8.0 GT/s on, widths up to the arrangement's (Table 9.1). -/
def Chip.memberLink (c : Chip) (slot speed width : Nat) : Chip :=
  let m := c.member slot
  let full := if c.slots = 48 then 2 else 4
  if c.onBackup ∧ slot ∉ c.vaultSlots then c      -- only the vault ports' lanes are in service (R13)
  else if m.slot = .training ∧ !m.linkUp ∧ 3 ≤ speed ∧ speed ≤ 5 ∧ 1 ≤ width ∧ width ≤ full then
    let c := c.setMember slot { m with linkUp := true, linkSpeed := speed, linkWidth := width, timerNs := c.clk.opNs }
    if speed < 5 ∨ width < full then c.memberEvent slot 14 0 else c
  else c

def execMemberLinkUp (slot speed width : Nat) (s : State) : Host.Outcome State Fault Refusal :=
  s.effect (fun c => c.memberLink slot speed width)

/-! ### What a drive is (R247, R267 to R269) -/

/-- A drive meets Table 9.2, in the slot it stands in. -/
def Chip.driveMeets (c : Chip) (slot : Nat) (r : DriveReport) : Bool :=
  r.meetsTable && decide (262144 ≤ r.conventionalBlocks) && (decide (r.zonedBlocks = 0) || r.meetsZoned) &&
    decide ((r.conventionalBlocks + r.zonedBlocks) * 4096 ≤ 128000000000000) &&
    (decide (slot ∉ c.vaultSlots) || decide (vaultEnd ≤ r.conventionalBlocks))

/-- The label on a drive is one (Table 9.3). -/
def labelled (r : DriveReport) : Bool :=
  decide (r.labelMagic = 0x48964D454D424C01) && decide (r.labelFormat = 1) && r.labelCrcOk

/-- The label as the device keeps it. [DEDUCED, notes/assumptions/53.md] -/
def labelOf (r : DriveReport) (l : Label) : Label :=
  if labelled r then
    { pool := r.labelPool, vault := r.labelVault, owner := r.labelOwner, uid := r.labelUid, slot := l.slot, node := l.node,
      generation := r.labelGeneration, nqnCheck := r.labelNqnCheck, nguidConventional := r.labelNguidConventional,
      nguidZoned := r.labelNguidZoned }
  else Label.reset

/-- The drive in a slot is the member recorded there: label, NQN and NGUIDs (R150). [DEDUCED, notes/assumptions/53.md] -/
def Chip.sameDrive (c : Chip) (slot : Nat) (r : DriveReport) : Bool :=
  let m := c.member slot
  let old := m.figures.or m.report
  labelled r && decide (r.labelOwner = c.ownerId) && decide (m.recorded = some r.labelUid) &&
    decide (r.labelNqnCheck = crc64 r.nqn) &&
    decide (r.labelNguidConventional = r.nguidConventional) && decide (r.labelNguidZoned = r.nguidZoned) &&
    (match old with
     | some o => decide (o.nqn = r.nqn) && decide (o.nguidConventional = r.nguidConventional) && decide (o.nguidZoned = r.nguidZoned)
     | none => true)

/-- A member with this uid is in service in another slot (Table 9.9). -/
def Chip.uidElsewhere (c : Chip) (slot uid : Nat) : Bool :=
  c.members.any (fun t => decide (t.1 ≠ slot) && t.2.slot.serving && decide (t.2.label.uid = uid) && decide (t.2.mstate ≠ .failed))

/-- Zone records against Report Zones (R112). -/
def Chip.checkZones (c : Chip) (slot : Nat) : Chip :=
  let m := c.member slot
  match m.report with
  | none => c
  | some r => c.each r.zoneReports (fun c t =>
      let z := (c.member slot).zone t.1
      if t.2 = 2 ∧ z.zstate ≠ 3 then
        (c.updMember slot (fun m => { m with zones := m.zones.put t.1 { z with zstate := 3 } })).writeZoneRecord slot t.1
      else if t.2 = 0 ∧ (z.zstate = 1 ∨ z.zstate = 2) then
        let e := { Zone.reset with resetCount := if z.zstate = 2 then z.resetCount + 1 else z.resetCount }
        (c.updMember slot (fun m => { m with zones := m.zones.put t.1 e })).writeZoneRecord slot t.1
      else c)

/-- The unit takes insertion outcomes: it is ACTIVE or ALONE, and its role is settled (R267, R436). -/
def Chip.takesOutcomes (c : Chip) : Bool :=
  (c.pair.role = .active || c.pair.role = .alone) && decide (1 ≤ c.start.phase) && decide (c.start.phase ≤ 5)

/-- The outcome for a drive in READY (Table 9.9, Table 9.13). [DEDUCED, notes/assumptions/53.md] -/
def Chip.takeOutcome (c : Chip) (slot : Nat) : Chip :=
  let m := c.member slot
  match m.report with
  | none => c
  | some r =>
    let own := labelled r && decide (r.labelOwner = c.ownerId)
    let logged := c.logs.any (fun l => l.open_ && decide (l.slot = slot))
    let hold := fun (c : Chip) => c.updMember slot (fun m => { m with slot := .held })
    if m.slot ≠ .ready ∨ !c.takesOutcomes then c
    else if !c.driveMeets slot r then c.setMember slot { m with slot := .unusable }
    else if c.sameDrive slot r ∧ m.mstate ≠ .failed ∧ m.mstate ≠ .rebuilding ∧ m.mstate ≠ .rebuilt then
      -- the member itself, as at a start
      (c.setMember slot { m with slot := .inUse, figures := none }).checkZones slot
    else if c.sameDrive slot r ∧ m.mstate = .failed ∧ !m.graceOver ∧ logged then
      ((c.setMember slot { m with slot := .inUse, figures := none, mstate := .resyncing }).directoryChange).checkZones slot
    else if c.sameDrive slot r ∧ m.mstate.away ∧ m.figures.isSome then
      -- seated at the start and not removed since: it is not written again (Table 6.2)
      c.setMember slot { m with slot := .inUse, figures := none }
    else
      let other := c.uidElsewhere slot r.labelUid
      -- at a start, a drive other than the recorded member fails it (Table 6.1)
      let c := if m.recorded.isSome && !c.sameDrive slot r && decide (m.mstate ≠ .failed) then c.failMember slot 5 else c
      if own ∧ other then (hold c).memberEvent slot 10 0
      else if labelled r ∧ r.labelOwner ≠ c.ownerId then (hold c).memberEvent slot 9 0
      else if c.val 0x3440 = 0 then hold c
      else if c.val 0x3440 = 1 ∧ c.wantsDrive slot ∧ c.replaceFits slot then c.designate slot
      else c.makeSpare slot

/-- The lanes a drive holds are known at a start: those other nodes wrote, and those this unit does not remember (R100, R103).
[DEDUCED, notes/assumptions/79.md] -/
def Chip.takeLanes (c : Chip) (slot : Nat) (r : DriveReport) : Chip :=
  if c.start.replayed then c
  else c.each r.laneBlocks (fun c t => match c.laneFrom slot t.1 t.2 with
    | none => c
    | some l =>
      if c.start.lanesFound.any (fun y => decide (y.lap = l.lap) && decide (y.node = l.node)) then
        c.onStart (fun k => { k with lanesFound := k.lanesFound.map (fun y =>
          if y.lap = l.lap ∧ y.node = l.node then { y with slots := addNew y.slots slot } else y) })
      else
        let c := c.onStart (fun k => { k with lanesFound := k.lanesFound ++ [l] })
        -- until the unit has made one of its own durable, its newest durable lane is the highest found (R100)
        c.onJournal (fun j => match j.lastOwn with
          | some n => if n < l.lap then { j with lastOwn := some l.lap, lastBlock := l.block } else j
          | none => { j with lastOwn := some l.lap, lastBlock := l.block }))

/-- CONTROLLER_READY: identity and label are read, and the outcome is taken. -/
def Chip.controllerReady (c : Chip) (slot : Nat) (r : DriveReport) : Chip :=
  let m := c.member slot
  if m.slot ≠ .training ∨ !m.linkUp then c
  else
    let mine := c.sameDrive slot r
    let recorded := m.recorded.isSome
    ((c.takeLanes slot r).setMember slot { m with
      slot := .ready, report := some r, label := labelOf r m.label
      figures := if mine then (if m.report.isNone ∧ m.mstate.away then m.figures else none)
                 else if recorded then m.figures.or m.report else none }).takeOutcome slot

def execControllerReady (slot : Nat) (report : DriveReport) (s : State) : Host.Outcome State Fault Refusal :=
  s.effect (fun c => (c.controllerReady slot report).pumpHost)

/-- Take the outcomes of every drive that waits in READY, when the unit has become ACTIVE or ALONE. [DEDUCED, notes/assumptions/57.md] -/
def Chip.takeOutcomes (c : Chip) : Chip := c.each (List.range c.slots) Chip.takeOutcome

/-! ### slot_enable (R266) -/

/-- What a change of slot_enable does: 0 powers the slot off, as if the drive had gone; 1 brings a seated drive up again.
[DEDUCED, notes/assumptions/51.md] -/
def Chip.slotEnableHook (c : Chip) (slot old : Nat) : Chip :=
  let v := c.val 0x3444 slot
  let m := c.member slot
  if old = 1 ∧ v = 0 then
    let c := if m.linkUp then c.contain slot 1 else c.cancelCommands slot true
    let c := if m.slot.serving || (m.slot = .contained && m.prevSlot.serving) then c.failMember slot 1 else c
    (c.leaveGroup slot).updMember slot (fun m => { m.unpowered with slot := .disabled, refusedNs := none })
  else if old = 0 ∧ v = 1 ∧ m.slot = .disabled then
    if m.presence then (c.setMember slot { m with slot := .debounce }).joinGroup slot
    else c.setMember slot { m with slot := .empty }
  else c

/-- SLOT_ENABLE. -/
def Chip.slotEnable (c : Chip) (slot v : Nat) (w : Writer) : Chip :=
  let b := leBytes 1 v
  let r := c.writeReason 0x3444 slot b w
  match c.object 0x3444 slot with
  | none => c.logChange 0x3444 slot w r 0 0 v false
  | some o =>
    if r ≠ 0 then c.logChange 0x3444 slot w r 0 (c.first8 0x3444 slot) v false
    else
      let old := c.val 0x3444 slot
      (c.applyObject o slot b w).slotEnableHook slot old

def execSlotEnable (slot : Nat) (value : Bool) (writer : Writer) (s : State) : Host.Outcome State Fault Refusal :=
  s.effect (fun c => (c.slotEnable slot (if value then 1 else 0) writer).pumpHost)

/-! ### The button (R258 to R263) -/

/-- A removal is refused: signal, count, event (R261). [DEDUCED, notes/assumptions/50.md] -/
def Chip.refuseRemoval (c : Chip) (slot check : Nat) : Chip :=
  (c.updMember slot (fun m => { m with refusedNs := some c.clk.opNs, windowNs := none, refusals := m.refusals + 1 })).memberEvent
    slot 5 check

/-- The unit is ACTIVE or ALONE. -/
def Chip.leads (c : Chip) : Bool := c.pair.role = .active || c.pair.role = .alone

/-- BUTTON_PRESS: a counted press. [DEDUCED, notes/assumptions/50.md] -/
def Chip.buttonPress (c : Chip) (slot : Nat) : Chip :=
  let c := if slot < c.slots then c.updMember slot (fun m => { m with presses := m.presses + 1 }) else c
  let m := c.member slot
  if m.refusedNs.isSome then c
  else match m.slot with
    | .inUse =>
      if !c.leads then (c.setMember slot { m with prevSlot := .inUse }).refuseRemoval slot 1
      else (c.setMember slot { m with slot := .removalPending, prevSlot := .inUse, windowNs := some c.clk.opNs }).memberEvent slot 3 0
    | .removalPending =>
      if !c.leads then c.refuseRemoval slot 1
      else (c.setMember slot { m with slot := m.prevSlot, windowNs := none }).memberEvent slot 4 0
    | .safeToRemove =>
      if !c.leads then (c.setMember slot { m with prevSlot := .safeToRemove }).refuseRemoval slot 1
      else if m.presence then c.joinGroup slot else c
    | _ => c

def execButtonPress (slot : Nat) (s : State) : Host.Outcome State Fault Refusal := s.effect (fun c => c.buttonPress slot)

/-- The first check of Table 9.11 that a removal fails; 0 where it passes. -/
def Chip.removalCheck (c : Chip) (slot : Nat) : Nat :=
  let m := c.member slot
  let two := m.mstate = .rebuilt || (c.holders slot).all (fun pe =>
    let x := c.piste pe.1
    ((List.range x.list.length).filter (fun e => decide (e ≠ pe.2))).all (fun e => !c.unknownIndex x e) && decide (x.unplaced = 0))
  let other := (c.vaultSlots.filter (fun t => decide (t ≠ slot))).headD slot
  if !c.leads ∨ c.cqi.unitState = 0 ∨ c.braced ∨ c.onBackup ∨ c.faults.safe then 1
  else if !two then 2
  else if slot ∈ c.vaultSlots ∧ !c.vaultDriveUp other then 3
  else if (match m.replaces with | some t => decide (t ≠ slot) | none => false) then 4
  else 0

/-- REMOVAL_WINDOW_END (R260 to R262). -/
def Chip.removalWindowEnd (c : Chip) (slot : Nat) : Chip :=
  let m := c.member slot
  match m.windowNs with
  | none => c
  | some t =>
    if m.slot ≠ .removalPending ∨ !c.elapsedMs t (c.val 0x3442) then c
    else
      let k := c.removalCheck slot
      if k ≠ 0 then c.refuseRemoval slot k
      else
        let c := c.failMember slot 6
        (c.updMember slot (fun m => { m with slot := .quiescing, windowNs := none })).quiesceStep slot

def execRemovalWindowEnd (slot : Nat) (s : State) : Host.Outcome State Fault Refusal :=
  s.effect (fun c => (c.removalWindowEnd slot).pumpHost)

/-- REFUSAL_SIGNAL_END. [DEDUCED, notes/assumptions/50.md] -/
def Chip.refusalEnd (c : Chip) (slot : Nat) : Chip :=
  let m := c.member slot
  match m.refusedNs with
  | none => c
  | some t =>
    if c.elapsedMs t 3000 then
      c.setMember slot { m with refusedNs := none, slot := if m.slot = .removalPending then m.prevSlot else m.slot }
    else c

def execRefusalSignalEnd (slot : Nat) (s : State) : Host.Outcome State Fault Refusal := s.effect (fun c => c.refusalEnd slot)

/-- The drive is shut down: power off, SAFE_TO_REMOVE (R262). `extra` records a shutdown that did not complete.
[DESIGN CHOICE, notes/assumptions/52.md] -/
def Chip.safeToRemove (c : Chip) (slot extra : Nat) : Chip :=
  (c.updMember slot (fun m => { m.unpowered with slot := .safeToRemove })).memberEvent slot 6 extra

/-- SHUTDOWN_COMPLETE. -/
def execShutdownComplete (slot : Nat) (s : State) : Host.Outcome State Fault Refusal :=
  s.effect (fun c => if (c.member slot).slot = .quiescing ∧ (c.member slot).shutting then c.safeToRemove slot 0 else c)

/-- SHUTDOWN_WAIT_EXPIRY: after the drive's RTD3 entry latency, at most 10 s. -/
def execShutdownWaitExpiry (slot : Nat) (s : State) : Host.Outcome State Fault Refusal :=
  s.effect (fun c =>
    let m := c.member slot
    let wait := match m.report with | some r => min 10000 r.rtd3EntryMs | none => 10000
    if m.slot = .quiescing ∧ m.shutting ∧ c.elapsedMs m.timerNs wait then c.safeToRemove slot (Config.lateShutdown slot) else c)

/-! ### SGPIO (R255 to R257) -/

/-- A light that blinks with a period in ms, half of it lit. [DEDUCED, notes/assumptions/50.md] -/
def blink (ms period : Nat) : Bool := decide (ms % period < period / 2)

/-- The LED bits of a slot: activity, locate, fault (Table 9.8). [DEDUCED, notes/assumptions/50.md] -/
def Chip.ledBits (c : Chip) (slot : Nat) : Bool × Bool × Bool :=
  let m := c.member slot
  let l := m.ledState
  let ms := c.nowMs
  let io := !m.outstanding.isEmpty || decide (m.lastIoNs ≠ 0 ∧ c.clk.opNs < m.lastIoNs + 50000000)
  let asked := decide (c.val 0x3421 slot = 1) && blink ms 500
  let act := if l = 1 ∨ l = 3 ∨ l = 8 ∨ l = 10 then io else false
  let loc := if l = 2 then true else if l = 6 then blink ms 1000 else asked
  let flt := if l = 1 then blink ms 250 else if l = 3 then blink ms 1000 else if l = 4 ∨ l = 5 ∨ l = 6 ∨ l = 7 then true
    else if l = 8 then blink ms 2000 else false
  (act, loc, flt)

/-- What a frame reads of a slot: presence and power-good, and the start or end of a debounce (Table 9.7). -/
def Member.sampled (m : Member) (presence good enabled : Bool) (now : Nat) : Member :=
  let m := { m with rawPresence := presence, powerGood := good }
  if presence ∧ m.slot = .empty ∧ enabled then { m with slot := .debounce, timerNs := now }
  else if !presence ∧ m.slot = .debounce ∧ !m.presence then { m with slot := .empty }
  else m

/-- SGPIO_FRAME: a power frame every 8th, and after a change of a power enable; the inputs in the same frame. -/
def Chip.sgpioFrame (c : Chip) (stream : Nat) (inputs : List (Bool × Bool × Bool)) : Chip :=
  let slots := (List.range 24).map (fun i => 24 * stream + i)
  if c.slots ≤ 24 * stream then c
  else
    let n := c.start.frames.getD stream 0 + 1
    let changed := slots.any (fun s => (c.member s).powerEnable != (c.member s).powerSent)
    let power := decide (n % 8 = 0) || changed
    let bits := slots.map (fun s => if power then ((c.member s).powerEnable, false, false) else c.ledBits s)
    let c := (c.emit (.sgpio stream power c.leads bits)).bump 0x3451
    let c := c.onStart (fun k => { k with frames := k.frames.put stream n })
    let c := if power then c.each slots (fun c s => c.updMember s (fun m => { m with powerSent := m.powerEnable })) else c
    c.each (slots.zip inputs) (fun c t => c.updMember t.1 (fun m =>
      m.sampled t.2.1 t.2.2.2 (decide (c.val 0x3444 t.1 = 1)) c.clk.opNs))

def execSgpioFrame (stream : Nat) (inputs : List (Bool × Bool × Bool)) (s : State) : Host.Outcome State Fault Refusal :=
  s.effect (fun c => c.sgpioFrame stream inputs)

end Sys2Proof.Machine
end

