-- ==== Sys2Proof/Machine/Judge.lean ====
section
/-! DEFINITION. The judge (R281, R355, R356): the rules of Table 10.6 over the records of the pairs a unit judges. Time is in
microseconds of this unit's operation. -/

namespace Sys2Proof.Machine

def Chip.nowUs (c : Chip) : Nat := c.clk.opNs / 1000

/-- The judge's record of a pair. -/
def Chip.judgeRecord (c : Chip) (pairId : Nat) : JudgeRecord :=
  (c.pair.judges.find? (fun r => decide (r.pairId = pairId))).getD { JudgeRecord.reset with pairId }

def Chip.putJudge (c : Chip) (r : JudgeRecord) : Chip :=
  c.onPair (fun p => { p with judges := p.judges.filter (fun y => decide (y.pairId ≠ r.pairId)) ++ [r] })

/-- The slot of `judge_accept_pair` that holds a pair, else the lowest open one (R356). -/
def Chip.judgeSlot (c : Chip) (pairId : Nat) : Option Nat :=
  ((List.range 4).find? (fun i => decide (c.val 0x4040 i = pairId))).or ((List.range 4).find? (fun i => decide (c.val 0x4040 i = 0)))

/-- A request's pair takes its slot, persistently, logged with origin SELF (R356). -/
def Chip.acceptPair (c : Chip) (slot pairId : Nat) : Chip :=
  if c.val 0x4040 slot = pairId then c
  else match c.object 0x4040 slot with
    | none => c
    | some o => c.applyObject o slot (leBytes 8 pairId) selfWriter

/-- The unit judges this pair: it serves, the pair is not its own, and a slot is to be had. -/
def Chip.judges (c : Chip) (pairId : Nat) : Bool :=
  decide (c.val 0x3850 = 1) && decide (pairId ≠ 0) && decide (pairId ≠ c.pair.pairId) && (c.judgeSlot pairId).isSome

/-- Time left of the holder's protection. -/
def JudgeRecord.left (r : JudgeRecord) (now : Nat) : Nat := r.protectUs - now
def JudgeRecord.protected_ (r : JudgeRecord) (now : Nat) : Bool := decide (r.holder ≠ 0) && decide (now < r.protectUs)

/-- The protection a grant sets: L(1 + 1/512) + 1 ms from the receipt of the request (R281). -/
def protection (now leaseUs : Nat) : Nat := now + ceilDiv (leaseUs * 513) 512 + 1000

/-- A unit is marked stale: the mark lies on the holder's partner. -/
def JudgeRecord.isStale (r : JudgeRecord) (serial : Nat) : Bool := r.stale && decide (serial ≠ r.holder)

/-- The record after a grant: a change of holder raises the epoch; the pending request of the other unit waits on behind a holder that
renews. [DEDUCED, notes/assumptions/55.md] -/
def JudgeRecord.grant (r : JudgeRecord) (q : LeaseRequest) (now : Nat) : JudgeRecord :=
  let base := max r.epoch r.maxEpoch
  let same := decide (r.holder = q.serial)
  let epoch := if same then r.epoch else base + 1
  { r with holder := q.serial, epoch, maxEpoch := max base epoch, protectUs := protection now q.leaseUs
           pending := r.pending.filter (fun x => same && decide (x.2.serial ≠ q.serial)), acquires := [], acquireUs := 0
           stale := r.stale && same }

/-- The other unit of a pair, as far as it has been heard. -/
def JudgeRecord.other (r : JudgeRecord) (serial : Nat) : Nat := (r.heard.keys.find? (fun s => decide (s ≠ serial))).getD 0

/-- The reply to a request from a record. -/
def JudgeRecord.reply (r : JudgeRecord) (q : LeaseRequest) (result now : Nat) : LeaseAnswer :=
  { result, op := q.op, epoch := r.epoch, pairId := q.pairId, holder := r.holder, requestSeq := q.requestSeq,
    protectionUs := r.left now
    partnerAge := match r.heard.find (r.other q.serial) with
      | some t => if r.other q.serial = 0 then 0xFFFF else min 0xFFFF ((now - t) / max 1 (q.leaseUs / 64))
      | none => 0xFFFF }

/-- Result codes (Table 10.5). -/
def granted : Nat := 0
def deniedHeld : Nat := 1
def deniedStale : Nat := 2
def deniedStarting : Nat := 3
def deniedUnknown : Nat := 4
def pendingAnswer : Nat := 5

/-- Table 10.6, the first row that applies: the result, and the record after it. `none`: the request is collected and answered
later. `start` is the time since the judge's own start. [DEDUCED, notes/assumptions/55.md] -/
def JudgeRecord.decide (r : JudgeRecord) (src : Nat) (q : LeaseRequest) (now start free : Nat) : Option Nat × JudgeRecord :=
  if start < 4 * (q.leaseUs / 64) then (some deniedStarting, r)
  else if (q.op = 1 ∨ q.op = 4 ∨ (q.op = 5 ∧ q.synced)) ∧ q.serial = r.holder ∧ q.epoch = r.epoch then
    let g := r.grant q now
    (some granted,
      if q.op = 4 then { g with stale := true } else if q.op = 5 then { g with stale := false } else g)
  else if q.op = 1 ∧ r.holder = 0 ∧ q.epoch = r.maxEpoch then
    (some granted, { r with holder := q.serial, epoch := q.epoch, protectUs := protection now q.leaseUs })
  else if (q.op = 2 ∨ q.op = 3 ∨ q.op = 8) ∧ start < 300000 then (some deniedStarting, r)
  else if q.op = 3 ∧ (r.isStale q.serial ∨ !q.synced) then (some deniedStale, r)
  else if (q.op = 3 ∨ q.op = 2) ∧ r.protected_ now then (some pendingAnswer, { r with pending := some (src, q) })
  else if q.op = 2 then
    let mine := r.acquires.filter (fun a => Decidable.decide (a.2.serial ≠ q.serial))
    (none, { r with acquires := mine ++ [(src, q)], acquireUs := if r.acquires.isEmpty then now else r.acquireUs })
  else if q.op = 3 then (some granted, r.grant q now)
  else if q.op = 8 ∧ !r.protected_ now then (some granted, { r.grant q now with stale := true })
  else if q.op = 6 ∧ q.serial = r.holder then (some granted, { r with protectUs := now })
  else if q.op = 7 ∧ r.holder ≠ 0 ∧ r.holder ≠ q.serial ∧ r.protected_ now then (some deniedHeld, r)
  else if q.op = 7 then (some (free % 6), r)
  else (some (1 + free % 4), r)

/-- The pending request is granted once nothing protects the holder; a unit marked stale since is refused. [DEDUCED, notes/assumptions/55.md] -/
def Chip.grantPending (c : Chip) (r : JudgeRecord) : Chip :=
  let now := c.nowUs
  match r.pending with
  | none => c
  | some (src, q) =>
    if r.protected_ now then c
    else if r.isStale q.serial then
      let g := { r with pending := none }
      (c.putJudge g).answerLease src (g.reply q (if q.op = 3 then deniedStale else deniedHeld) now)
    else
      let g := r.grant q now
      (c.putJudge g).answerLease src (g.reply q granted now)

/-- LEASE: a request arrives at the judge. [DESIGN CHOICE, notes/assumptions/60.md] -/
def Chip.lease (c : Chip) (src : Nat) (q : LeaseRequest) : Chip :=
  if !c.judges q.pairId then
    c.answerLease src ({ JudgeRecord.reset with pairId := q.pairId }.reply q deniedUnknown c.nowUs)
  else
    let now := c.nowUs
    let c := c.acceptPair ((c.judgeSlot q.pairId).getD 0) q.pairId
    let r := c.judgeRecord q.pairId
    let r := { r with heard := r.heard.put q.serial now, maxEpoch := max r.maxEpoch q.epoch, lapUs := q.leaseUs / 64 }
    let free := Config.judgeOther (q.op + 256 * q.serial + q.requestSeq)
    let d := r.decide src q now (now - c.clk.startNs / 1000) free
    let c := c.putJudge d.2
    let c := match d.1 with
      | some result => c.answerLease src (d.2.reply q result now)
      | none => c
    if q.op = 6 ∧ d.1 = some granted then c.grantPending d.2 else c

def execLease (src : Nat) (request : LeaseRequest) (s : State) : Host.Outcome State Fault Refusal :=
  s.effect (fun c => if c.adp.astate ≠ 2 then c else (c.lease src request).bump 0x4030)

/-- The better of two ACQUIREs: higher epoch, then higher seal_seq, then lower serial. [DEDUCED, notes/assumptions/55.md] -/
def betterAcquire (a b : LeaseRequest) : Bool :=
  decide (b.epoch < a.epoch) || (decide (a.epoch = b.epoch) &&
    (decide (b.sealSeq < a.sealSeq) || (decide (a.sealSeq = b.sealSeq) && decide (a.serial < b.serial))))

/-- The record of a judged pair by its slot. -/
def Chip.judgedAt (c : Chip) (slot : Nat) : Option JudgeRecord :=
  c.pair.judges.find? (fun r => decide (r.pairId = c.val 0x4040 slot) && decide (r.pairId ≠ 0))

/-- JUDGE_ACQUIRE_WINDOW_END: eight laps after the first ACQUIRE. [DEDUCED, notes/assumptions/55.md] -/
def Chip.acquireEnd (c : Chip) (slot : Nat) : Chip :=
  match c.judgedAt slot with
  | none => c
  | some r =>
    let now := c.nowUs
    if r.acquires.isEmpty ∨ now < r.acquireUs + 8 * r.lapUs then c
    else
      let fit := r.acquires.filter (fun a => !r.isStale a.2.serial)
      let best := fit.foldl (fun (b : Option (Nat × LeaseRequest)) a => match b with
        | none => some a
        | some y => if betterAcquire a.2 y.2 then some a else some y) none
      let g := match best with
        | some b => r.grant b.2 now
        | none => { r with acquires := [], acquireUs := 0 }
      let c := c.putJudge g
      c.each r.acquires (fun c a => c.answerLease a.1 (g.reply a.2 (if some a = best then granted else deniedHeld) now))

def execJudgeAcquireWindowEnd (record : Nat) (s : State) : Host.Outcome State Fault Refusal := s.effect (fun c => c.acquireEnd record)

/-- JUDGE_PROTECTION_END. -/
def execJudgeProtectionEnd (record : Nat) (s : State) : Host.Outcome State Fault Refusal :=
  s.effect (fun c => match c.judgedAt record with
    | some r => c.grantPending r
    | none => c)

end Sys2Proof.Machine
end

