-- ==== Sys2Proof/Machine/Pair.lean ====
section
/-! DEFINITION. The pair (R272 to R299): roles, heartbeats, the lease, endorsement, takeover, handover and sync. -/

namespace Sys2Proof.Machine

/-- The unit runs as one of a pair: PAIR mode in the x2 arrangement (R272). -/
def Chip.paired (c : Chip) : Bool := decide (c.val 0x3800 = 1) && decide (c.slots = 48)

/-- A record of class PAIR. [DEDUCED, notes/assumptions/19.md] -/
def Chip.pairRecord (c : Chip) (detail : Nat) : Chip := c.record (0x500 + detail)

/-- unit_state changes, and the host is told (R212). -/
def Chip.setUnitState (c : Chip) (v : Nat) : Chip :=
  if c.cqi.unitState = v then c else (c.onCqi (fun k => { k with unitState := v })).event 5 v

/-! ### Who is heard (R276) -/

/-- A silent partner counts as alive: its ring heartbeat or the judge's last word is less than 2 laps old. [DEDUCED, notes/assumptions/56.md] -/
def Chip.partnerAlive (c : Chip) : Bool := !c.pair.silent || decide (c.pair.ringAge < 2) || decide (c.pair.judgeAge < 2)

def Chip.partnerLost (c : Chip) : Bool := c.pair.silent && !c.partnerAlive

/-! ### Lease requests (R277, R278, R352) -/

/-- The lease length L in ns: 64 laps at the stride in force. -/
def Chip.leaseNs (c : Chip) : Nat := 64 * c.lapNs

/-- What is sent for an operation: while an endorsement it has given runs, a unit asks for no lease (R283). -/
def Chip.leaseOp (c : Chip) (op : Nat) : Nat := if (op = 2 ∨ op = 3) ∧ c.clk.opNs < c.pair.endorseUntil then 7 else op

/-- Send a lease request: the next one replaces it (R352). -/
def Chip.sendLease (c : Chip) (asked : Nat) : Chip :=
  let op := c.leaseOp asked
  if !c.paired ∨ c.judgeAddress = 0 ∨ c.adp.astate ≠ 2 ∨ c.adp.toJudge.id = 0 then c
  else
    let p := c.pair
    let n := (p.reqSeq + 1) % 2 ^ 32
    let r : LeaseRequest :=
      { op, role := p.role.code, synced := if c.leads then decide (p.peerSync = 2) else decide (p.sync = 2)
        pUp := decide ((c.port 0).pstate = 2), partnerAlive := c.partnerAlive, epoch := p.epoch, pairId := p.pairId
        serial := Config.unitSerial, sealSeq := c.journal.sealSeq, requestSeq := n, leaseUs := c.leaseNs / 1000 }
    (c.onPair (fun p => { p with reqSeq := n, lastOp := op, lastReqNs := c.clk.opNs, lastReqLap := c.lap, answered := false })).sendLeaseFrame r

/-- Pursue an operation: asked for at once, and in every lap until it is answered. -/
def Chip.pursue (c : Chip) (op : Nat) : Chip := (c.onPair (fun p => { p with pursue := op })).sendLease op

/-- The lap's request (R277). -/
def Chip.leaseLap (c : Chip) : Chip :=
  if !c.paired ∨ c.onBackup then c
  else c.sendLease (if c.pair.pursue ≠ 0 then c.pair.pursue else if c.leads then 1 else 7)

/-- A STANDBY asks to take over: its copy is SYNCED and it endorses no lease (R284, R293). -/
def Chip.askTakeover (c : Chip) : Chip :=
  if c.pair.role = .standby ∧ c.pair.sync = 2 ∧ c.pair.endorseUntil ≤ c.clk.opNs ∧ c.pair.pursue ≠ 3 then
    (c.onPair (fun p => { p with takeoverLaps := 0 })).pursue 3
  else c

/-! ### Fencing (R75, R282) -/

/-- The unit leads no longer: it is FENCED, and its outstanding member writes are aborted, each by an NVMe Abort admitted at the next
boundary (R27, R282). -/
def Chip.loseRole (c : Chip) : Chip :=
  let c := c.onPair (fun p => { p with role := .fenced, leaseNs := none, source := 0, writeStop := false, pursue := 0, soleDue := false,
                                       handover := false, asked := false })
  c.each c.members.keys (fun c slot =>
    let m := c.member slot
    c.each (m.outstanding.filter (fun k => k.op.writes && k.aborted.isNone)) (fun c k => c.issueAbort slot k.id))

/-- The node IDs claimed for a partner are given back (R318). -/
def Chip.dropAliases (c : Chip) : Chip :=
  if c.ring.aliases.isEmpty then c else
    (c.each c.ring.aliases (fun c a => c.broadcast 5 3
      (leBytes 1 a.1 ++ leBytes 1 c.straps.nodeId ++ leBytes 4 c.pair.epoch ++ leBytes 1 0))).onRing (fun r => { r with aliases := [] })

/-- The unit loses its lease: writes not yet acknowledged end with 0x0302. -/
def Chip.fence (c : Chip) : Chip :=
  let c := c.loseRole
  let c := c.each (c.cqi.cmds.filter (fun x => x.isWrite && !x.dead)) (fun c x => c.failWrite x 0x0302)
  (c.dropAliases.setUnitState 2).pairRecord 3

/-! ### The role of a holder -/

/-- A button window is dropped: by a takeover or a vault (Table 9.12). -/
def Chip.dropWindows (c : Chip) : Chip :=
  { c with members := c.members.mapVal (fun _ m =>
      if m.slot = .removalPending ∧ m.windowNs.isSome then { m with slot := m.prevSlot, windowNs := none } else m) }

/-- The new holder claims its partner's node ID on the ring (R318). -/
def Chip.claimAlias (c : Chip) : Chip :=
  match c.ring.nodes.find? (fun n => n.2.known && decide (n.2.serial = c.pair.partnerSerial) && decide (n.1 ≠ c.straps.nodeId)) with
  | none => c
  | some (n, _) =>
    if c.ring.rstate < 2 ∨ c.ring.aliases.any (fun a => decide (a.1 = n)) then c
    else (c.onRing (fun r => { r with aliases := r.aliases ++ [(n, c.pair.epoch)] })).broadcast 5 3
      (leBytes 1 n ++ leBytes 1 c.straps.nodeId ++ leBytes 4 c.pair.epoch ++ leBytes 1 1)

/-- A unit takes over (R285 to R288): from the mirror, or from its own state by FORCE. [DEDUCED, notes/assumptions/57.md] -/
def Chip.takeover (c : Chip) (forced : Bool) : Chip :=
  let former := c.pair.lastHb
  let lastLap := match former with | some h => h.lastLaneLap + 1 | none => 0
  let high := match former with | some h => max h.acceptanceHigh (c.cqi.nextAcc - 1) | none => c.cqi.nextAcc - 1
  let c := c.onPair (fun p => { p with
    role := .alone, grantNs := some c.clk.opNs, takeoverNs := some c.clk.opNs, former, sync := 0, peerSync := 0, soleDue := !forced
    pursue := if forced then 0 else 4, serving := false, takeoverLaps := 0, handover := false, leaving := false })
  let c := c.bump 0x3806
  let c := c.onJournal (fun j => { j with lapOffset := lastLap - c.lap, avoidBlock := former.map (fun h => h.lastLaneBlock) })
  let c := c.onCqi (fun k => { k with nextAcc := (high + 2 ^ 32) % (2 ^ 48 - 1) + 1 })
  let c := (c.dropWindows).claimAlias
  let c := c.replayFrom (if forced then (if c.start.phase = 5 then .retained else c.chooseSource) else .mirror)
  (c.pairRecord 1)

/-- TAKEOVER_SERVING: classification has ended (R285, R289). [DEDUCED, notes/assumptions/57.md] -/
def Chip.takeoverServing (c : Chip) : Chip :=
  match c.pair.grantNs with
  | none => c
  | some t =>
    if !c.leads ∨ c.pair.serving then c
    else
      let c := c.onPair (fun p => { p with grantNs := none, serving := true })
      let c := c.setVal 0x3807 0 ((c.clk.opNs - t) / 1000000)
      let c := c.onJournal (fun j => { j with lanesAllowed := true })
      let c := (c.setUnitState 1).takeOutcomes
      c.each (c.cqi.deferred.filter (fun d => !d.posted && !d.closed)) (fun c d =>
        c.event 2 (d.number + d.piste * 2 ^ 32 + d.kind * 2 ^ 40))

def execTakeoverServing (s : State) : Host.Outcome State Fault Refusal := s.effect (fun c => c.takeoverServing.pumpHost)

/-- FENCE_HOLD_END (R286, R287). [DEDUCED, notes/assumptions/57.md] -/
def Chip.fenceHoldEnd (c : Chip) : Chip :=
  match c.pair.takeoverNs with
  | some t =>
    if c.elapsedMs t (c.val 0x3822) then
      (c.onPair (fun p => { p with takeoverNs := none })).onJournal (fun j => { j with avoidBlock := none })
    else c
  | none => c

def execFenceHoldEnd (s : State) : Host.Outcome State Fault Refusal := s.effect Chip.fenceHoldEnd

/-! ### Sync (R290, R292) -/

/-- Everything that Table 10.8 marks as carried, for the stream's bulk part. [DESIGN CHOICE, notes/assumptions/58.md] -/
def Chip.bulkItems (c : Chip) : List BulkItem :=
  let blocks := (c.cache.blocks.map (fun b => (b.2.filter Version.isDirty).reverse.map (fun v =>
    BulkItem.block (b.1 / 2 ^ 64) (b.1 % 2 ^ 64) (if v.state = .frozen then 3 else 2) v.data))).flatten
  let pages := (c.pistes.map (fun p => (p.2.pages.filter (fun g => g.2.dirty)).map (fun g =>
    BulkItem.mapPage p.1 g.1 g.2.bytes))).flatten
  let entries := (c.journal.entries.map (fun e =>
    BulkItem.record (.entryState e.1 (e.2.bytes e.1)) ::
      (if e.2.change.isEmpty then [] else
        [BulkItem.record (.changeRecord e.1 (e.2.change.map (fun x => (x.granule, x.oldEntry, x.newEntry, x.superseded))))]))).flatten
  let logs := (List.range c.logs.length).map (fun i =>
    let l := (c.logs[i]?).getD DirtyLog.reset
    BulkItem.record (DirtyLog.record i l))
  let tables := c.cache.lostRanges.map (fun r => BulkItem.record (.lostRange r.piste r.first r.count)) ++
    c.cache.lostStripes.map (fun l => BulkItem.record (.lostStripe l.bytes))
  let pistes := (c.livePistes.map (fun p => [BulkItem.record (.rebuildRecord p.1 p.2.rebuild.bytes),
    BulkItem.record (.fallLine p.1 p.2.fall.bytes)])).flatten
  let errors := c.cqi.deferred.map (fun d => BulkItem.record d.record)
  let wide := (c.objectKeys.filter (fun k => match findObj k.1 with
      | some o => o.pairWide && decide (2 ≤ o.access) && decide (o.access ≤ 3)
      | none => false)).map (fun k => BulkItem.record (.dictWrite k.1 k.2 ((c.readObject k.1 k.2).getD [])))
  blocks ++ pages ++ entries ++ logs ++ tables ++ pistes ++ errors ++ wide ++ [.record (.acceptance (c.cqi.nextAcc - 1)), .bulkEnd]

/-- The holder begins a sync: mirror numbers begin at 0, the bulk part goes out (R290, R292). [DESIGN CHOICE, notes/assumptions/58.md] -/
def Chip.startSync (c : Chip) : Chip :=
  let items := c.bulkItems
  let c := c.onPair (fun p => { p with mirrorSeq := 0, mirrorAcc := 0, mirrorQueue := [], syncTotal := items.length,
                                       syncSent := items.length, peerSync := 1 })
  c.each items (fun c i => c.emit (.mirror 0 i))

/-- The start reaches DONE (R437); an accepted image of a higher security version raises the one in eFuses (R432). -/
def Chip.startDone (c : Chip) : Chip :=
  (c.onStart (fun k => { k with phase := 5, secVersion := max k.secVersion k.raiseTo })).setVal 0x5404 0
    ((c.clk.opNs - c.clk.startNs) / 1000000)

/-- The unit becomes STANDBY and syncs (Table 10.2, R292). [DEDUCED, notes/assumptions/59.md] -/
def Chip.beStandby (c : Chip) (epoch : Nat) : Chip :=
  let c := c.onPair (fun p => { p with role := .standby, sync := 1, epoch := max p.epoch epoch, recvSeq := 0, toldSeq := 0,
                                       bulkEnded := false, pursue := 0, leaseNs := none, source := 0, leaving := false
                                       vaultStart := false })
  let c := c.onJournal (fun j => { j with entries := [], lanesAllowed := false })
  let c := c.onCache (fun k => { k with blocks := [], lostRanges := [], lostStripes := [] })
  let c := { c with gathers := [] }
  let c := if c.start.phase = 3 then c.startDone else c
  (c.setUnitState 2).pairRecord 2

/-- SYNC_COMPLETE: on the STANDBY its copy is current; on the holder the partner's is, and JOIN is asked for. -/
def Chip.syncComplete (c : Chip) : Chip :=
  let p := c.pair
  if p.role = .standby ∧ p.sync = 1 ∧ p.bulkEnded ∧ p.toldSeq ≤ p.recvSeq then
    (c.onPair (fun p => { p with sync := 2 })).pairRecord 4
  else if p.role = .alone ∧ c.paired ∧ p.formed ∧ p.peerSync = 2 ∧ p.pursue = 0 then c.pursue 5
  else c

def execSyncComplete (s : State) : Host.Outcome State Fault Refusal := s.effect Chip.syncComplete

/-! ### Heartbeats (R275, R283) -/

/-- The heartbeat record of the stride (Table 10.3). -/
def Chip.ownHb (c : Chip) : PartnerHb :=
  let p := c.pair
  { role := p.role.code, syncState := p.sync, endorseRequest := c.leads && decide (8 ≤ p.sinceGrant)
    endorseGrant := p.endorsing, brace := c.braced, leaving := p.leaving
    judgeReachable := decide (p.sinceReply ≤ 8), vaultStart := p.vaultStart, lastLaneBlock := c.journal.issuedBlock, epoch := p.epoch
    hbSeq := p.hbSeq + 1, serial := Config.unitSerial, sealSeq := c.journal.sealSeq, ownCeiling := c.cache.own
    lastLaneLap := c.journal.issuedLap, acceptanceHigh := c.cqi.nextAcc - 1, leaseRemaining := c.leaseLaps
    dirtyBytes := c.dirtyBytes }

/-- Each stride a unit of a formed pair sends its heartbeat, and one more stride has passed since the partner's (R275, R276). -/
def Chip.heartbeatStride (c : Chip) : Chip :=
  if !c.pair.formed ∨ (c.port 0).pstate ≠ 2 then c.onPair (fun p => { p with sinceHb := p.sinceHb + 1, asked := false, endorsing := false })
  else
    let hb := c.ownHb
    let missed := decide (1 ≤ c.pair.sinceHb)
    let c := if missed then c.bump 0x3821 else c
    (c.onPair (fun p => { p with hbSeq := hb.hbSeq, sinceHb := p.sinceHb + 1, asked := hb.endorseRequest, endorsing := false })).emit
      (.partnerHb hb)

/-- An endorsement counts as a grant of the heartbeat sent a stride before (R283, R280). [DEDUCED, notes/assumptions/56.md] -/
def Chip.endorsed (c : Chip) : Chip :=
  let l := c.leaseNs
  let sent := c.clk.opNs - c.clk.ticks
  c.onPair (fun p => { p with leaseNs := some (max (p.leaseNs.getD 0) (sent + l - ceilDiv l 512)), source := 2, writeStop := false })

/-- The holder's partner is gone or going: SOLE (Table 10.2, R295). [DEDUCED, notes/assumptions/57.md] -/
def Chip.askSole (c : Chip) : Chip :=
  if c.paired ∧ c.pair.role = .active ∧ c.pair.pursue ≠ 4 then c.pursue 4 else c

/-- PARTNER_HB: the partner's heartbeat arrives. [DEDUCED, notes/assumptions/56.md; DESIGN CHOICE, notes/assumptions/60.md] -/
def Chip.partnerHb (c : Chip) (hb : PartnerHb) : Chip :=
  if !c.paired ∨ !c.pair.formed ∨ (c.port 0).pstate ≠ 2 ∨ hb.epoch < c.pair.epoch then c
  else
    let old := c.pair
    let c := c.onPair (fun p => { p with lastHb := some hb, sinceHb := 0, silent := false,
                                         peerSync := if hb.role = 2 then hb.syncState else 0 })
    let holderHere := decide (hb.role = 0) || decide (hb.role = 1)
    if c.leads then
      let c := if hb.endorseGrant && old.asked then c.endorsed else c
      let c := if hb.role = 2 ∧ hb.syncState = 1 ∧ old.peerSync ≠ 1 then c.startSync else c
      if hb.leaving ∨ (old.role = .active ∧ hb.role ≠ 2) then c.askSole else c
    else if holderHere then
      let c := if c.pair.role = .fenced ∧ (c.start.phase = 3 ∨ c.start.phase = 5) ∧ !c.faults.safe ∧ !hb.leaving then c.beStandby hb.epoch
        else c.onPair (fun p => { p with epoch := max p.epoch hb.epoch })
      let c := if hb.endorseRequest ∧ c.pair.role = .standby ∧ c.pair.sync = 2 ∧ c.val 0x3816 = 1 then
          let l := c.leaseNs
          c.onPair (fun p => { p with endorsing := true, endorseUntil := c.clk.opNs + ceilDiv (l * 513) 512 + 1000000 })
        else c
      let c := if c.pair.role = .standby ∧ c.pair.toldSeq ≤ c.pair.recvSeq then
          c.onJournal (fun j => { j with sealSeq := max j.sealSeq hb.sealSeq }) else c
      if hb.vaultStart ∨ hb.leaving then c.askTakeover else c
    -- a FENCED partner holds no lease any more: the safe state, or a handover (R284)
    else if hb.role = 3 then c.askTakeover
    else c

def execPartnerHb (hb : PartnerHb) (s : State) : Host.Outcome State Fault Refusal := s.effect (fun c => (c.partnerHb hb).pumpHost)

/-- What silence leads to: the holder asks for SOLE; a STANDBY whose partner is lost asks to take over (R276, R284).
[DEDUCED, notes/assumptions/90.md] -/
def Chip.silence (c : Chip) : Chip :=
  if c.pair.role = .active then c.askSole else if c.partnerLost then c.askTakeover else c

/-- PARTNER_SILENT. -/
def Chip.partnerSilent (c : Chip) : Chip :=
  if c.pair.formed ∧ (c.val 0x3820 ≤ c.pair.sinceHb ∨ (c.port 0).pstate ≠ 2) then
    (c.onPair (fun p => { p with silent := true })).silence
  else c

def execPartnerSilent (s : State) : Host.Outcome State Fault Refusal := s.effect Chip.partnerSilent

/-! ### Replies (R279, R280, Table 10.2) -/

/-- An ACQUIRE is granted: at a start the unit goes on to replay; a FENCED unit serves from its own state. -/
def Chip.acquired (c : Chip) : Chip :=
  let synced := c.pair.formed && !c.pair.silent && decide (c.pair.peerSync = 2)
  let c := c.onPair (fun p => { p with role := if synced then .active else .alone, pursue := 0, takeoverLaps := 0 })
  if c.start.phase = 3 then c.onStart (fun k => { k with phase := 4 })
  else c.takeover true

/-- FORCE is granted: ALONE from the unit's own state, with one CACHE_LOST error for every ONLINE piste (R294). -/
def Chip.forced (c : Chip) : Chip :=
  let c := if c.start.phase = 3 then (c.onPair (fun p => { p with role := .alone, pursue := 0 })).onStart (fun k => { k with phase := 4 })
    else c.takeover true
  c.each (c.pistes.filter (fun p => decide (p.2.state = .online))) (fun c p => c.deferError p.1 3 0 p.2.capacity 0xFFFFFFFF)

/-- A reply that counts: to the latest request, within 2 laps of its send, from the judge (R279, R354). -/
def Chip.replyCounts (c : Chip) (src : Nat) (a : LeaseAnswer) : Bool :=
  c.paired && decide (src = c.judgeAddress) && decide (a.requestSeq = c.pair.reqSeq) && decide (a.op = c.pair.lastOp) &&
    decide (a.pairId = c.pair.pairId) && decide (c.clk.opNs ≤ c.pair.lastReqNs + 2 * c.lapNs)

/-- What a grant gives: the epoch, and the lease from the request's send time (R280). -/
def Chip.takeGrant (c : Chip) (a : LeaseAnswer) : Chip :=
  let l := c.leaseNs
  let c := c.onPair (fun p => { p with epoch := a.epoch, sinceGrant := 0 })
  if a.op = 6 ∨ a.op = 7 then c
  else c.onPair (fun p => { p with leaseNs := some (max (p.leaseNs.getD 0) (p.lastReqNs + l - ceilDiv l 512)), source := 1,
                                   writeStop := false })

/-- A copy that the judge calls stale is not used again until a sync (R293). -/
def Chip.staleCopy (c : Chip) : Chip :=
  let c := c.onPair (fun p => { p with sync := 3, pursue := 0 })
  if c.pair.role = .standby then c.fence else c

/-- LEASE_REPLY. -/
def Chip.leaseReply (c : Chip) (src : Nat) (a : LeaseAnswer) : Chip :=
  if !c.replyCounts src a then c
  else
    let rtt := (c.clk.opNs - c.pair.lastReqNs) / 1000
    let c := c.onPair (fun p => { p with answered := true, sinceReply := 0, judgeAge := a.partnerAge })
    let c := c.onAdp (fun k => { k with rtts := (k.rtts.filter (fun t => decide (c.lap < t.1 + 64))) ++ [(c.lap, rtt)] })
    let c := if c.lapNs < rtt * 1000 then c.pairRecord 5 else c
    let c := if a.result ≠ 0 ∧ a.result ≠ 5 then c.bump 0x3814 else c
    if a.result = 0 ∧ a.op = 7 then (if c.partnerLost then c.askTakeover else c)
    else if a.result = 0 then
      let c := c.takeGrant a
      match a.op with
      | 1 => (c.bump 0x3813).onPair (fun p => { p with pursue := if p.pursue = 1 then 0 else p.pursue })
      | 2 => if c.leads then c else c.acquired
      | 3 => if c.pair.role = .standby then c.takeover false else c
      | 4 => if c.leads then
          ((c.onPair (fun p => { p with role := .alone, peerSync := if p.silent then 0 else p.peerSync, soleDue := false,
                                        pursue := 0 })).pairRecord 6).ackMirrored
        else c
      | 5 => if c.pair.role = .alone ∧ c.pair.peerSync = 2 then
          (c.onPair (fun p => { p with role := .active, pursue := 0 })).pairRecord 7
        else c.onPair (fun p => { p with pursue := 0 })
      | 8 => if c.pair.role = .fenced then (c.onPair (fun p => { p with pursue := 0 })).forced else c
      | _ => c
    else if a.result = 2 then c.staleCopy
    else if a.result = 5 then c
    else
      -- refused: FORCE and SOLE are not asked again; ACQUIRE awaits the holder (R436)
      let c := if c.pair.pursue = 8 ∨ (c.pair.pursue = 2 ∧ a.result = 1) then c.onPair (fun p => { p with pursue := 0 }) else c
      if c.partnerLost then c.askTakeover else c

def execLeaseReply (src : Nat) (reply : LeaseAnswer) (s : State) : Host.Outcome State Fault Refusal :=
  s.effect (fun c => if c.adp.astate ≠ 2 then c else ((c.leaseReply src reply).bump 0x4030).pumpHost)

/-! ### The end of a lease (R282) -/

/-- LEASE_WRITE_STOP: 8 laps or fewer are left. -/
def Chip.leaseWriteStop (c : Chip) : Chip :=
  match c.pair.leaseNs with
  | some t => if c.paired ∧ c.leads ∧ t ≤ c.clk.opNs + 8 * c.lapNs then c.onPair (fun p => { p with writeStop := true }) else c
  | none => c

def execLeaseWriteStop (s : State) : Host.Outcome State Fault Refusal := s.effect Chip.leaseWriteStop

/-- LEASE_EXPIRY: the unit is FENCED, and asks to acquire what it has lost (Table 10.10). [DEDUCED, notes/assumptions/57.md] -/
def Chip.leaseExpiry (c : Chip) : Chip :=
  match c.pair.leaseNs with
  | some t => if c.paired ∧ c.leads ∧ t ≤ c.clk.opNs then c.fence.pursue 2 else c
  | none => c

def execLeaseExpiry (s : State) : Host.Outcome State Fault Refusal := s.effect (fun c => c.leaseExpiry.pumpHost)

/-! ### Handover and FORCE (R291, R294) -/

/-- The holder's partner is a SYNCED STANDBY. -/
def Chip.syncedStandby (c : Chip) : Bool := c.hasStandby && decide (c.pair.peerSync = 2)

/-- Why a handover is refused. [DEDUCED, notes/assumptions/90.md] -/
def Chip.handoverReason (c : Chip) : Nat := if c.paired && c.leads && c.syncedStandby then 0 else 5

/-- HANDOVER. -/
def execHandover (writer : Writer) (s : State) : Host.Outcome State Fault Refusal :=
  s.effect (fun c => c.command 0x3840 0 1 writer c.handoverReason (fun c => c.onPair (fun p => { p with handover := true })))

/-- HANDOVER_DRAINED: RELEASE, the heartbeat that carries leaving, and FENCED. [DEDUCED, notes/assumptions/90.md] -/
def Chip.handoverDrained (c : Chip) : Chip :=
  if c.pair.handover && !(c.cqi.cmds.any (fun x => x.isWrite && !x.dead)) then
    let c := (c.onPair (fun p => { p with leaving := true })).sendLease 6
    (c.fence).onPair (fun p => { p with leaving := true })
  else c

def execHandoverDrained (s : State) : Host.Outcome State Fault Refusal := s.effect (fun c => c.handoverDrained.pumpHost)

/-- Why FORCE is not sent: a unit in ROLE counts as FENCED (R436). [DEDUCED, notes/assumptions/90.md] -/
def Chip.forceReason (c : Chip) : Nat := if c.paired && c.pair.role = .fenced && !c.faults.safe then 0 else 5

/-- FORCE_TAKEOVER. -/
def execForceTakeover (writer : Writer) (s : State) : Host.Outcome State Fault Refusal :=
  s.effect (fun c => c.command 0x3841 0 1 writer c.forceReason (fun c => c.pursue 8))

/-- The pair's lap: laps since grants and replies, and a takeover refused for 64 laps (Table 10.2). -/
def Chip.pairLap (c : Chip) : Chip :=
  let c := c.onPair (fun p => { p with
    sinceGrant := p.sinceGrant + 1, sinceReply := p.sinceReply + 1, ringAge := p.ringAge + 1
    takeoverLaps := if p.pursue = 3 then p.takeoverLaps + 1 else 0 })
  -- the stream's rate over the lap, in MB/s
  let c := (c.setVal 0x3830 0 (c.pair.lapBytes * 1000 / max 1 c.lapNs)).onPair (fun p => { p with lapBytes := 0 })
  let c := if c.pair.role = .standby ∧ c.pair.pursue = 3 ∧ c.pair.silent ∧ 64 < c.pair.takeoverLaps then c.fence.pursue 2 else c
  (if c.pair.role = .standby ∧ c.partnerLost then c.askTakeover else c).leaseLap

end Sys2Proof.Machine
end

