-- ==== Sys2Proof/Machine/Mirror.lean ====
section
/-! DEFINITION. The mirror stream as the STANDBY takes it in (R74, R290, R292, Table 10.8), and the holder's watermark. -/

namespace Sys2Proof.Machine

/-! ### Reading record images -/

/-- A rebuild record's image (Table 6.3) laid over what is kept of the record. -/
def parseRebuild (old : RebuildRecord) (b : Bytes) : RebuildRecord :=
  let slot := fun (i : Nat) =>
    let o := 64 + 32 * i
    let index := leAt b o 2
    let base : RebuildSlot := match old.slots.find? (fun s => decide (s.index = index)) with
      | some s => s
      | none => default
    { base with
      index, state := leAt b (o + 2) 1, drain := (leAt b (o + 3) 1).testBit 0, start := leAt b (o + 8) 8, mark := leAt b (o + 16) 8
      base := leAt b (o + 24) 8 }
  let item := fun (i : Nat) =>
    let o := 320 + 16 * i
    ({ peerA := leAt b o 2, peerB := leAt b (o + 2) 2, mark := leAt b (o + 8) 8, strip := 0 } : PriorityItem)
  { old with
    generation := leAt b 0 8, checkpointStride := leAt b 8 8
    slots := (List.range (min 8 (leAt b 16 1))).map slot, items := (List.range (min 4 (leAt b 17 1))).map item }

/-- A fall-line record's image (Table 6.10) laid over what is kept of the record. -/
def parseFall (old : FallLine) (b : Bytes) : FallLine :=
  let bits := leAt b 8 8
  let codes := leAt b 3 1
  { old with
    state := leAt b 0 1
    old := { old.old with k := leAt b 1 1, stripCode := codes % 16, n := leAt b 4 2, zoneParity := bitsAt bits 0 2 }
    new := { old.new with k := leAt b 2 1, stripCode := codes / 16, n := leAt b 6 2, zoneParity := bitsAt bits 2 2
                          f := bits / 16, base := leAt b 24 8 }
    position := leAt b 16 8, qSwitch := leAt b 32 8, generation := leAt b 40 8, checkpointStride := leAt b 48 8 }

/-- A lost-stripe entry's image (Table 6.5). -/
def parseLost (b : Bytes) (lap : Nat) : LostStripe :=
  let bits := leAt b 1 3
  { piste := leAt b 0 1, cause := bits % 16, groomed := bits.testBit 4, newGeom := bits.testBit 5, columns := leAt b 4 4
    stripe := leAt b 8 8, first := leAt b 16 2, count := leAt b 18 2, deferred := leAt b 20 4, seq := leAt b 24 8
    sinceLap := lap, held := false, logSeq := 0 }

/-! ### Taking items in -/

/-- A mirrored block enters the cache in the state it has on the holder; newer data covers what was lost (R108). -/
def Chip.mirrorBlock (c : Chip) (p b state : Nat) (data : Bytes) : Chip :=
  let v : Version := { state := if state = 3 then .frozen else .dirty, data, acc := c.cqi.nextAcc - 1, dirtyLap := c.lap
                       entry := 0, lost := false }
  let l := c.versions p b
  if state = 3 then (c.setVersions p b (l ++ [v]))
  else (c.setVersions p b (applyVersion v l)).uncover p b

/-- Host blocks of an entry's data columns over its range. -/
def Chip.entryBlocks (c : Chip) (e : Entry) : List Nat :=
  let g := c.entryGeom e
  (((bitsOf 32 e.allMask).filter (fun col => decide (col < g.k))).map (fun col =>
    g.hostRange (areaOf e.stripe).2 col e.first e.count)).flatten

/-- The host blocks an entry stands for: those of its columns, or of its granules. -/
def Chip.mirroredBlocks (c : Chip) (e : Entry) : List Nat :=
  if e.kind = 4 ∨ e.kind = 5 ∨ e.kind = 6 then []
  else if c.groomedEntry e then
    let gb := (c.piste e.piste).gb
    (e.change.map (fun r => (List.range gb).map (fun j => r.granule * gb + j))).flatten
  else if (areaOf e.stripe).1 ≠ 0 then [] else c.entryBlocks e

/-- Blocks that an entry holds: FROZEN ones that came without an entry, else the newest DIRTY version. [DEDUCED, notes/assumptions/59.md] -/
def Chip.holdBlock (c : Chip) (p slot b : Nat) : Chip :=
  let l := c.versions p b
  if l.any (fun v => v.state = .frozen && decide (v.entry = 0)) then
    c.setVersions p b (l.map (fun v => if v.state = .frozen ∧ v.entry = 0 then { v with entry := slot + 1 } else v))
  else c.freezeBlock p slot b

/-- The blocks an entry stands for are FROZEN for it. -/
def Chip.freezeMirrored (c : Chip) (slot : Nat) : Chip :=
  let e := c.entry slot
  let l := (c.mirroredBlocks e).filter (fun b => (c.versions e.piste b).any (fun v => v.isDirty && decide (v.entry = 0)))
  (c.each l (fun c b => c.holdBlock e.piste slot b)).updEntry slot (fun e => { e with blocks := e.blocks ++ l })

/-- Map pages whose write-back has committed are clean, unless they have changed since (R127). [DEDUCED, notes/assumptions/59.md] -/
def Chip.cleanPages (c : Chip) (e : Entry) : Chip :=
  if (areaOf e.stripe).1 ≠ 1 then c
  else
    let g := (c.piste e.piste).geometry e.stripeId
    let pages := (((bitsOf 32 e.stripMask).filter (fun col => decide (col < g.k))).map (fun col =>
      g.hostRange (areaOf e.stripe).2 col e.first e.count)).flatten
    c.updPiste e.piste (fun x => { x with pages := x.pages.map (fun t =>
      if t.1 ∈ pages ∧ t.2.changeSeq ≤ e.openMirror then (t.1, { t.2 with dirty := false }) else t) })

/-- A sealed change of a journal entry (R290): COMMITTED seals are applied as the holder applies them. -/
def Chip.mirrorEntry (c : Chip) (slot seq : Nat) (image : Bytes) : Chip :=
  let old := c.entry slot
  let fresh := decide (old.state = .free) || decide (old.generation ≠ leAt image 16 8)
  let e := c.parseEntry (if fresh then { Entry.reset with openMirror := seq, inherited := true } else old) image
  let c := c.updPiste e.piste (fun x => { x with generation := max x.generation (e.generation + 1) })
  if e.state = .committed then
    if fresh then c
    else
      let c := (c.cleanPages old).commitSealed slot
      c.onJournal (fun j => { j with entries := j.entries.drop slot })
  else
    let c := c.setEntry slot e
    if fresh then c.freezeMirrored slot else c

/-- A mirrored record (Table 10.8). -/
def Chip.mirrorRecord (c : Chip) (seq : Nat) (r : MirrorRecord) : Chip :=
  match r with
  | .entryState slot image => c.mirrorEntry slot seq image
  | .changeRecord slot rows =>
    if (c.entry slot).state = .free then c
    else
      let c := c.updEntry slot (fun e => { e with change := rows.map (fun x =>
        { granule := x.1, oldEntry := x.2.1, newEntry := x.2.2.1, superseded := x.2.2.2 }) })
      c.freezeMirrored slot
  | .dirtyLog i member regions =>
    let rows := (regions.filter (fun r => decide (r < 2 ^ 63))).map (fun r => (r / 2 ^ 32, r % 2 ^ 32))
    let zones := (regions.filter (fun r => decide (2 ^ 63 ≤ r))).map (fun r => r - 2 ^ 63)
    let l := if member = 255 then DirtyLog.reset else { DirtyLog.reset with open_ := true, slot := member, rows, zones }
    let logs := c.logs ++ List.replicate (i + 1 - c.logs.length) DirtyLog.reset
    if i < 4 then { c with logs := setAt logs i l } else c
  | .lostRange p first count =>
    let keep := fun (y : LostRange) => !(decide (y.piste = p) && decide (y.first = first))
    c.onCache (fun k => { k with lostRanges := k.lostRanges.filter keep ++ (if count = 0 then [] else
      [{ piste := p, first, count, blocks := (List.range count).map (· + first), seq := c.nextSeq }]) })
  | .lostStripe image =>
    let l := parseLost image c.lap
    let keep := fun (y : LostStripe) => !(decide (y.piste = l.piste) && decide (y.stripe = l.stripe) && decide (y.newGeom = l.newGeom))
    c.onCache (fun k => { k with lostStripes := k.lostStripes.filter keep ++ (if l.count = 0 then [] else [l])
                                 lostSeq := max k.lostSeq l.seq })
  | .rebuildRecord p image =>
    c.updPiste p (fun x =>
      let r := parseRebuild x.rebuild image
      { x with rebuild := r, repl := r.slots.map (fun s => s.index) })
  | .fallLine p image => c.updPiste p (fun x => { x with fall := parseFall x.fall image })
  | .deferred number piste kind first count by_ q delivered posted =>
    let old : Deferred := match c.cqi.deferred.find? (fun d => decide (d.number = number)) with
      | some d => d
      | none => Deferred.mk number piste kind true false false false first count c.nextSeq 0 0 0xFFFFFFFF 0
    let d := { old with pending := !delivered && !old.closed, delivered, posted, carriedBy := by_, carriedQueue := q }
    c.onCqi (fun k => { k with deferred := k.deferred.filter (fun y => decide (y.number < number)) ++ [d] ++
                                 k.deferred.filter (fun y => decide (number < y.number))
                               nextDeferred := max k.nextDeferred (number + 1) })
  | .dictWrite index sub value =>
    match c.object index sub with
    | none => c
    | some o =>
      let w : Writer := { origin := .peer, route := .pairMirror, originId := (c.port 0).peer % 256 }
      let c := c.logChange index sub w 0 0 (c.first8 index sub) (leNat (value.take 8)) o.secret
      let c := (c.putObject o sub value).keepWrite o sub value
      if index = 0x3810 then c.judgeChanged else c
  | .acceptance high => c.onCqi (fun k => { k with nextAcc := high % (2 ^ 48 - 1) + 1 })

/-- An item of the stream or of its bulk part. [DEDUCED, notes/assumptions/59.md] -/
def Chip.mirrorTake (c : Chip) (seq : Nat) (i : BulkItem) : Chip :=
  match i with
  | .block p b state data => c.mirrorBlock p b state data
  | .mapPage p page data =>
    let g : MapPage :=
      { MapPage.reset with entries := pageEntries data, dirty := true, present := true, firstChangeLap := c.lap,
                           changeSeq := seq, lastUse := c.ownStride }
    c.updPiste p (fun x => { x with pages := x.pages.put page g })
  | .record r => c.mirrorRecord seq r
  | .bulkEnd => c.onPair (fun p => { p with bulkEnded := true })

/-- This unit takes a stream in (R290, R292). -/
def Chip.receiving (c : Chip) : Bool := c.pair.role = .standby && (c.pair.sync = 1 || c.pair.sync = 2)

/-- A numbered item: in order, or not at all. [DEDUCED, notes/assumptions/59.md] -/
def Chip.mirrorNumbered (c : Chip) (seq : Nat) (i : BulkItem) : Chip :=
  if c.receiving && decide (seq = c.pair.recvSeq + 1) then
    (c.mirrorTake seq i).onPair (fun p => { p with recvSeq := seq, toldSeq := max p.toldSeq seq })
  else c

/-- MIRROR_DATA. -/
def execMirrorData (seq piste hostBlock cacheState : Nat) (data : Bytes) (s : State) : Host.Outcome State Fault Refusal :=
  s.effect (fun c => c.mirrorNumbered seq (.block piste hostBlock cacheState data))

/-- MIRROR_RECORD. -/
def execMirrorRecord (seq : Nat) (record : MirrorRecord) (s : State) : Host.Outcome State Fault Refusal :=
  s.effect (fun c => c.mirrorNumbered seq (.record record))

/-- MIRROR_BULK: bulk items carry no number. -/
def execMirrorBulk (item : BulkItem) (s : State) : Host.Outcome State Fault Refusal :=
  s.effect (fun c => if c.receiving then c.mirrorTake c.pair.recvSeq item else c)

/-- STRIDE_END: the stride's stream has ended; the standby answers with its watermark (R21, R74). -/
def execStrideEnd (_stride lastSeq : Nat) (s : State) : Host.Outcome State Fault Refusal :=
  s.effect (fun c => if c.receiving then
      (c.onPair (fun p => { p with toldSeq := max p.toldSeq lastSeq })).emit (.mirrorAccept c.pair.recvSeq)
    else c)

/-- MIRROR_ACCEPT: the holder's watermark rises; what waited for it goes on (R72, R74, R94, R289). -/
def Chip.mirrorAccepted (c : Chip) (seq : Nat) : Chip :=
  if c.mirroring && decide (seq ≤ c.pair.mirrorSeq) then
    ((c.onPair (fun p => { p with mirrorAcc := max p.mirrorAcc seq })).ackMirrored.pumpEntries).flushHeld
  else c

def execMirrorAccept (seq : Nat) (s : State) : Host.Outcome State Fault Refusal := s.effect (fun c => (c.mirrorAccepted seq).pumpHost)

end Sys2Proof.Machine
end

