-- ==== Sys2Proof/Machine/Ring.lean ====
section
/-! DEFINITION. The ring (R300 to R318, R325, R326): links, link delays, the roster, membership and span, heartbeats, aliases and
the reset of one unit; and the formation of a pair over P (R274). -/

namespace Sys2Proof.Machine

/-- A record of class RING. [DEDUCED, notes/assumptions/19.md] -/
def Chip.ringRecord (c : Chip) (detail : Nat) (node : Option Nat := none) : Chip := c.record (0x600 + detail) node

/-- E and W are in use (R301). -/
def Chip.ringOn (c : Chip) : Bool := decide (c.val 0x3C00 = 1)

/-! ### Membership (R311 to R313) -/

/-- The nodes heard within 2 laps, and this unit, that no other node's ID collides with. -/
def Chip.candidates (c : Chip) : List Nat :=
  let heard := (c.ring.nodes.filter (fun n => n.2.known && decide (n.1 ≠ c.straps.nodeId))).map Prod.fst
  (insertAsc heard c.straps.nodeId).filter (fun n => decide (n ∉ c.ring.twice.map Prod.fst))

def Chip.nodeTicks (c : Chip) (n : Nat) : Nat := if n = c.straps.nodeId then c.clk.ticks else (c.node n).ticks
/-- [DEDUCED, notes/assumptions/65.md] -/
def Chip.nodeValid (c : Chip) (n : Nat) : Bool := if n = c.straps.nodeId then c.clk.locked else (c.node n).timeValid

/-- The node with the lowest ID and a valid time source that the ring's stride is taken from (R19, R312): of the ring this unit shares
with others; else, for a unit that joins, of those whose ROSTER says that they are members of a ring; else of all that are heard.
[DEDUCED, notes/assumptions/65.md] -/
def Chip.strideSource (c : Chip) (valid : List Nat) : Option Nat :=
  let me := c.straps.nodeId
  let shared := decide (me ∈ c.ring.members) && c.ring.members.any (fun n => decide (n ≠ me))
  match (if shared then valid.filter (fun n => decide (n ∈ c.ring.members)) else []) with
  | n :: _ => some n
  | [] => match valid.filter (fun n => decide (n ≠ me) && (decide ((c.node n).ringState = 2) || decide ((c.node n).ringState = 3))) with
    | n :: _ => some n
    | [] => valid.head?

/-- Candidates whose stride is that of the ring (R19, R312). [DEDUCED, notes/assumptions/65.md] -/
def Chip.eligible (c : Chip) : List Nat :=
  let cand := c.candidates
  let ref := c.strideSource (cand.filter c.nodeValid)
  match ref with
  | none => cand
  | some r => cand.filter (fun n => decide (c.nodeTicks n = c.nodeTicks r))

/-- The sum of the hop delays once around from a node, by E; `none` where a link is down. [DEDUCED, notes/assumptions/65.md] -/
def Chip.around (c : Chip) (n : Nat) : Option Nat :=
  if c.hopDelay n 1 = 0 then none else (c.pathDelay 1 31 (c.eastOf n) n).map (· + c.hopDelay n 1)

/-- A place in order of distance: nearer first, ties to E. -/
def insertNear (x : Nat × Nat × Nat) : List (Nat × Nat × Nat) → List (Nat × Nat × Nat)
  | [] => [x]
  | y :: r => if x.2.2 < y.2.2 ∨ (x.2.2 = y.2.2 ∧ x.2.1 < y.2.1) then x :: y :: r else y :: insertNear x r

/-- The eligible nodes other than the lowest, with the side and the delay they are reached by, nearest first. -/
def Chip.outward (c : Chip) (a : Nat) (l : List Nat) : List (Nat × Nat × Nat) :=
  (l.filter (fun n => decide (n ≠ a))).foldl (fun r n =>
    match c.pathDelay 1 31 a n, c.pathDelay 2 31 a n with
    | some e, some w => insertNear (if w < e then (n, 2, w) else (n, 1, e)) r
    | some e, none => insertNear (n, 1, e) r
    | none, some w => insertNear (n, 2, w) r
    | none, none => r) []

/-- Take nodes in while the span stays within the limit: members, and the farthest on either side (R313). [DEDUCED, notes/assumptions/65.md] -/
def growSpan (limit : Nat) : List Nat × Nat × Nat → List (Nat × Nat × Nat) → List Nat × Nat × Nat
  | m, [] => m
  | (l, e, w), (n, side, d) :: r =>
    let e2 := if side = 1 then max e d else e
    let w2 := if side = 2 then max w d else w
    if e2 + w2 ≤ limit then growSpan limit (insertAsc l n, e2, w2) r else (l, e, w)

/-- Members, whether the ring is CLOSED, and its span (R313). [DEDUCED, notes/assumptions/65.md] -/
def Chip.membership (c : Chip) : List Nat × Bool × Nat :=
  match c.eligible with
  | [] => ([], false, 0)
  | a :: r =>
    let limit := c.clk.ticks - 512
    let open_ := growSpan limit ([a], 0, 0) (c.outward a (a :: r))
    match c.around a with
    | some s => if s ≤ limit then (a :: r, true, s) else (open_.1, false, open_.2.1 + open_.2.2)
    | none => (open_.1, false, open_.2.1 + open_.2.2)

/-- Columns asked of units that can no longer be reached are unknown (R61). -/
def Chip.dropFarReads (c : Chip) : Chip :=
  c.each c.ring.reads (fun c t =>
    match c.gather t.2.1 with
    | none => c.onRing (fun r => { r with reads := r.reads.filter (fun y => decide (y.1 ≠ t.1)) })
    | some g =>
      match c.stripHome g.stripeId t.2.2.1 with
      | some s => if c.reachable s.node then c
        else Chip.gatherEnd ((c.onRing (fun r => { r with reads := r.reads.filter (fun y => decide (y.1 ≠ t.1)) })).gatherFail
          t.2.1 t.2.2.1 false true)
      | none => c)

/-- The ring's state, the sync state's entry and exit (Table 2.6), and unit_missing (Table 3.10, R317), from the roster. -/
def Chip.ringUpdate (c : Chip) : Chip :=
  let me := c.straps.nodeId
  let old := c.ring
  let m := if c.ringOn then c.membership else ([], false, 0)
  let known := c.ring.nodes.any (fun n => n.2.known && decide (n.1 ≠ me)) || decide (me ∈ c.ring.twice.map Prod.fst)
  let in_ := decide (me ∈ m.1) && known
  let members := if in_ then m.1 else if known then m.1.filter (fun n => decide (n ≠ me)) else []
  let rstate := if !c.ringOn then 0 else if !known then 1 else if in_ then (if m.2.1 then 2 else 3) else 4
  let refused := if known then ((c.ring.nodes.filter (fun n => n.2.known)).map Prod.fst).filter (fun n => decide (n ∉ members)) ++
    (if in_ then [] else [me]) else []
  let c := c.aside (fun c =>
    let c := c.onRing (fun r => { r with
      members, rstate, refused, stale := false, joined := r.joined && in_, span := if known then m.2.2 else 0
      rosterDue := r.rosterDue || decide (rstate ≠ old.rstate) })
    c.each (refused.filter (fun n => decide (n ∉ old.refused))) (fun c n =>
      c.ringRecord (if n ∈ old.members then 2 else 1) (some n)))
  let k := c.clk
  let joined : Clock := if k.sync = SyncState.free then { k with sync := .acquiring, good := 0, bad := 0, awaitLap := false } else k
  let left : Clock := { k with sync := .free, pacer := false, pacerNode := 255, correction := 0, awaitLap := false, holdStrides := 0 }
  let c := { c with clk := if in_ then joined else left }
  c.aside (fun c =>
    let c := { c with pistes := c.pistes.mapVal (fun _ x =>
      { x with unitMissing := x.spanning && x.list.any (fun e => !c.reachable e.2) }) }
    c.dropFarReads)

/-- A unit that is a LOCKED member has been one, until it leaves the ring (R326). -/
def Chip.noteLocked (c : Chip) : Chip := if c.lockedMember then c.onRing (fun r => { r with joined := true }) else c

/-- The ring's state is to be worked out again once the command's effect is done. [DEDUCED, notes/assumptions/12.md] -/
def Chip.ringChanged (c : Chip) : Chip := c.onRing (fun r => { r with stale := true })

/-- The ring's state worked out again, where the command's effect asks for it. [DEDUCED, notes/assumptions/12.md] -/
def Chip.ringSettle (c : Chip) : Chip := if c.ring.stale then c.ringUpdate else c

/-- The next state of a command that may change the ring's state, and with it the sync state. [DEDUCED, notes/assumptions/12.md] -/
def State.ringEffect (s : State) (f : Chip → Chip) : Host.Outcome State Fault Refusal :=
  s.clockEffect (fun c => (c.aside f).ringSettle)

/-! ### What is heard -/

/-- A node is heard (R311): its ID collides with this unit's, or with another node's, or it is entered in the roster. -/
def Chip.hearNode (c : Chip) (n serial : Nat) (f : Node → Node) : Chip :=
  let x := c.node n
  let clash := if n = c.straps.nodeId then decide (serial ≠ Config.unitSerial) else x.known && decide (x.serial ≠ serial)
  let c := if clash then c.onRing (fun r => { r with twice := r.twice.filter (fun t => decide (t.1 ≠ n)) ++ [(n, 0)] }) else c
  if n = c.straps.nodeId then c
  else c.setNode n { f x with serial, known := true, sinceLaps := 0 }

/-- HELLO: on a ring port it enters the roster; on every port it names the peer. -/
def Chip.hello (c : Chip) (port : Nat) (h : HelloMsg) : Chip :=
  if (c.port port).pstate < 2 then c
  else
    let c := c.updPort port (fun x => { x with peer := h.nodeId })
    if port = 0 ∨ !c.ringOn then c
    else (c.hearNode h.nodeId h.serial (fun x => { x with ticks := h.strideTicks, timeValid := h.timebaseLocked, pairId := h.pairId })).ringChanged

def execHello (port : Nat) (h : HelloMsg) (s : State) : Host.Outcome State Fault Refusal := s.ringEffect (fun c => c.hello port h)

/-- ROSTER: the sender's own entry (R311). [DEDUCED, notes/assumptions/65.md] -/
def Chip.roster (c : Chip) (src : Nat) (l : List RosterEntry) : Chip :=
  if !c.ringOn then c
  else match l.find? (fun e => decide (e.nodeId = src)) with
    | none => c
    | some e => (c.hearNode src e.serial (fun x => { x with
        ticks := e.strideTicks, timeValid := e.timeValid, delayE := e.delayE, delayW := e.delayW, ringState := e.ringState })).ringChanged

def execRoster (src : Nat) (entries : List RosterEntry) (s : State) : Host.Outcome State Fault Refusal :=
  s.ringEffect (fun c => c.roster src entries)

/-- R318: the claims after a heartbeat of node `src` with epoch `epoch` and the mask `aliases` of the numbers it answers for: one it
shows is its own unless another holds it with an epoch as high, one of its own it no longer shows is given back.
[DEDUCED, notes/assumptions/67.md] -/
def claimsShown (src aliases epoch : Nat) (claims : KMap (Nat × Nat)) : KMap (Nat × Nat) :=
  (List.range 32).foldl (fun (m : KMap (Nat × Nat)) i =>
    match m.find i with
    | some k => if k.1 = src then (if aliases.testBit i then m.put i (src, epoch) else m.drop i)
        else if aliases.testBit i ∧ k.2 < epoch then m.put i (src, epoch) else m
    | none => if aliases.testBit i then m.put i (src, epoch) else m) claims

/-- RING_HB (R317), which the pair uses too (R276). -/
def Chip.ringHeartbeat (c : Chip) (src : Nat) (h : RingHbMsg) : Chip :=
  if !c.ringOn ∨ h.nodeId ≠ src then c
  else
    let c := c.hearNode src h.serial (fun x => { x with
      role := h.role, sync := h.syncState, timeValid := h.timeValid, aliases := h.aliases, pairId := h.pairId, epoch := h.epoch
      partner := h.partnerNode, hbLaps := 0 })
    let c := if c.paired ∧ h.serial = c.pair.partnerSerial ∧ h.pairId = c.pair.pairId then c.onPair (fun p => { p with ringAge := 0 }) else c
    -- the claims its aliases show (R318)
    let c := c.onRing (fun r => { r with claims := claimsShown src h.aliases h.epoch r.claims })
    c.ringChanged

def execRingHb (src : Nat) (hb : RingHbMsg) (s : State) : Host.Outcome State Fault Refusal :=
  s.ringEffect (fun c => c.ringHeartbeat src hb)

/-- RING_MEMBER_LOST: no RING_HB for 2 laps (R317). -/
def Chip.memberLost (c : Chip) (n : Nat) : Chip :=
  if n ∈ c.ring.members ∧ n ≠ c.straps.nodeId ∧ 2 ≤ (c.node n).hbLaps then
    let c := (c.updNode n (fun x => { x with known := false })).bump 0x3C31
    (c.ringRecord 3 (some n)).ringChanged
  else c

def execRingMemberLost (node : Nat) (s : State) : Host.Outcome State Fault Refusal := s.ringEffect (fun c => c.memberLost node)

/-! ### What is sent -/

/-- This unit's HELLO (Table 11.6). -/
def Chip.helloBytes (c : Chip) : Bytes :=
  leBytes 1 c.straps.nodeId ++ leBytes 8 Config.unitSerial ++ leBytes 4 c.clk.ticks ++ leBytes 1 (flag c.clk.locked 0) ++
  leBytes 1 (c.val 0x1002) ++ leBytes 4 (leNat ((c.readObject 0x1005 0).getD [])) ++ leBytes 8 Config.lpddrBytes ++
  leBytes 1 (c.val 0x3800) ++ leBytes 8 c.pair.pairId ++ leBytes 8 c.judgeAddress

/-- This unit's roster (Table 11.6): its own entry first, 32 bytes each. -/
def Chip.rosterBytes (c : Chip) : Bytes :=
  let me := c.straps.nodeId
  let own := fit 32 (leBytes 1 me ++ leBytes 8 Config.unitSerial ++ leBytes 4 c.clk.ticks ++ leBytes 1 (flag c.clk.locked 0) ++
    leBytes 4 (c.hopDelay me 1) ++ leBytes 4 (c.hopDelay me 2) ++ leBytes 1 c.ring.rstate)
  let other := fun (n : Nat × Node) => fit 32 (leBytes 1 n.1 ++ leBytes 8 n.2.serial ++ leBytes 4 n.2.ticks ++
    leBytes 1 (flag n.2.timeValid 0) ++ leBytes 4 n.2.delayE ++ leBytes 4 n.2.delayW ++ leBytes 1 n.2.ringState)
  own ++ (((c.ring.nodes.filter (fun n => n.2.known && decide (n.1 ≠ me))).take 31).map other).flatten

/-- Broadcast ROSTER. -/
def Chip.sendRoster (c : Chip) : Chip :=
  (c.broadcast 5 2 c.rosterBytes).onRing (fun r => { r with rosterDue := false, lastRosterStride := c.ownStride })

/-- A change-triggered ROSTER, at most once every 64 strides (R311). -/
def Chip.rosterStride (c : Chip) : Chip :=
  if c.ringOn && c.ring.rosterDue && decide (c.ring.lastRosterStride + 64 ≤ c.ownStride)
  then c.sendRoster else c

/-- This unit's RING_HB (Table 11.9). -/
def Chip.ownRingHb (c : Chip) : RingHbMsg :=
  let partner := c.ring.nodes.find? (fun n => n.2.known && decide (n.2.serial = c.pair.partnerSerial) && c.pair.formed)
  { nodeId := c.straps.nodeId, role := c.pair.role.code, syncState := c.clk.sync.code, timeValid := c.clk.locked
    aliases := maskOf (c.ring.aliases.map Prod.fst), serial := Config.unitSerial, pairId := if c.paired then c.pair.pairId else 0
    epoch := c.pair.epoch, partnerNode := (partner.map Prod.fst).getD 0xFF, lap := c.lapNumber }

/-- Launch an echo on a ring port (R314): the time in units of 62.5 ps. -/
def Chip.sendEcho (c : Chip) (p : Nat) : Chip := c.emit (.echo p (c.clk.opNs * 16) none)

/-- The ring's duties at a lap boundary (R311, R314, R317): nodes not heard for 2 laps leave the roster. -/
def Chip.ringLap (c : Chip) : Chip :=
  let c := c.aside (fun c =>
    let c := c.onRing (fun r => { r with
      nodes := r.nodes.mapVal (fun _ n => { n with sinceLaps := min 0xFFFF (n.sinceLaps + 1), hbLaps := min 0xFFFF (n.hbLaps + 1),
                                                   known := n.known && decide (n.sinceLaps + 1 ≤ 2) })
      twice := (r.twice.map (fun t => (t.1, t.2 + 1))).filter (fun t => decide (t.2 ≤ 2)) })
    if (c.port 0).pstate = 2 ∧ c.val 0x3800 = 1 then c.sendLink 0 5 1 c.helloBytes else c)
  if !c.ringOn then c
  else c.ringUpdate.aside (fun c =>
    let c := c.each ([1, 2].filter (fun p => decide ((c.port p).pstate = 2))) (fun c p =>
      (c.sendLink p 5 1 c.helloBytes).sendEcho p)
    let c := c.sendRoster
    -- a unit that took over before it was on the ring claims its partner's node ID now (R318)
    let c := if c.leads && c.paired && c.pair.former.isSome then c.claimAlias else c
    if c.ring.rstate = 2 ∨ c.ring.rstate = 3 then c.emit (.ringHb c.ownRingHb) else c)

/-! ### Links (R301, R305, R314) -/

/-- Widths a port trains at (Table 11.1). -/
def portWidths (p : Nat) : List Nat := if p = 0 then [16, 8, 4] else [8, 4]

/-- The width a port runs at when so many of its lanes have trained: the next lower one of Table 11.1; 0, DOWN, below the lowest
(R300). -/
def portWidth (p trained : Nat) : Nat := ((portWidths p).find? (fun w => decide (w ≤ trained))).getD 0

/-- A port is to be trained: from the 150 ms step on (R301, R429), never in vault mode (R13); P not in the x4 arrangement (R14, R243). -/
def Chip.portOn (c : Chip) (p : Nat) : Bool :=
  c.clk.running && !c.onBackup && (if p = 0 then c.paired else decide (p ≤ 2) && c.ringOn)

/-- UTOFER_LINK_UP. [DEDUCED, notes/assumptions/61.md] -/
def Chip.linkUp (c : Chip) (p trained : Nat) : Chip :=
  let x := c.port p
  let lanes := portWidth p trained
  if !c.portOn p ∨ lanes = 0 ∨ x.pstate = 2 then c
  else if x.pstate = 3 then
    -- the retry buffer was kept: everything after ack_fsn goes out again
    (c.setPort p { x with pstate := 2, lanes, nakRun := 0, nakSent := false }).resend p
  else
    let c := c.setPort p { Port.reset with pstate := 2, lanes }
    let c := c.sendLink p 5 1 c.helloBytes
    if p = 0 then c else (forN 16 (fun c _ => c.sendEcho p) c).ringChanged

def execUtoferLinkUp (port lanes : Nat) (s : State) : Host.Outcome State Fault Refusal := s.ringEffect (fun c => c.linkUp port lanes)

/-- FLIT_RECEIVE. -/
def execFlitReceive (port : Nat) (raw : Bytes) (s : State) : Host.Outcome State Fault Refusal :=
  s.effect (fun c => c.flitReceive port raw)

/-- UTOFER_ACK_TIMEOUT: flits outstanding for 4 µs without any acknowledgement (R305). -/
def execUtoferAckTimeout (port : Nat) (s : State) : Host.Outcome State Fault Refusal :=
  s.effect (fun c => if (c.port port).pstate = 2 ∧ (c.port port).retry ≠ [] then c.enterRecovery port else c)

/-- A port goes DOWN: what it kept is discarded; P's loss silences the partner at once (R276, R305). -/
def Chip.portDown (c : Chip) (p : Nat) : Chip :=
  let c := (c.setPort p { Port.reset with downNs := c.clk.opNs }).bump 0x3C18 p
  let c := if c.portOn p then c.emit (.linkTrain p) else c
  if p = 0 then
    (if c.paired && c.pair.formed then (c.onPair (fun q => { q with silent := true })).silence else c)
  else (c.onRing (fun r => { r with rosterDue := true })).ringChanged

/-- UTOFER_RECOVERY_TIMEOUT: RECOVERY not left within 1 ms. -/
def execUtoferRecoveryTimeout (port : Nat) (s : State) : Host.Outcome State Fault Refusal :=
  s.ringEffect (fun c => if (c.port port).pstate = 3 then c.portDown port else c)

/-- ECHO_REQ: answered with t1 and the turnaround (R314). -/
def execEchoReq (port t1 t2 t3 : Nat) (s : State) : Host.Outcome State Fault Refusal :=
  s.effect (fun c => if port ≠ 0 ∧ (c.port port).pstate = 2 then c.emit (.echo port t1 (some (t3 - t2))) else c)

/-- The middle of 16 samples in order: the mean of the two middle ones. [DEDUCED, notes/assumptions/66.md] -/
def median16 (l : List Nat) : Nat :=
  let s := l.foldl (fun (r : List Nat) x => (r.filter (fun y => decide (y ≤ x))) ++ [x] ++ r.filter (fun y => decide (x < y))) []
  (atD s 7 0 + atD s 8 0) / 2

/-- ECHO_REPLY: the median of the link-up's 16 samples, then an eighth of the way to each later one (R314). [DEDUCED, notes/assumptions/66.md] -/
def Chip.echoReply (c : Chip) (p t1 turnaround t4 : Nat) : Chip :=
  if p = 0 ∨ (c.port p).pstate ≠ 2 then c
  else
    let x := c.port p
    let d := (t4 - t1 - turnaround) * 125 / 4
    let x := if x.samples.length < 16 then
        let l := x.samples ++ [d]
        { x with samples := l, delayPs := if l.length = 16 then median16 l else x.delayPs }
      else { x with delayPs := ((x.delayPs : Int) + ((d : Int) - (x.delayPs : Int)) / 8).toNat }
    let changed := decide (x.delayPs ≠ (c.port p).delayPs)
    let c := c.setPort p x
    if changed then (c.onRing (fun r => { r with rosterDue := true })).ringChanged else c

def execEchoReply (port t1 turnaround t4 : Nat) (s : State) : Host.Outcome State Fault Refusal :=
  s.ringEffect (fun c => c.echoReply port t1 turnaround t4)

/-! ### The pair's link (R274) -/

/-- The two units agree on all that a pair must agree on. -/
def Chip.pairAgrees (c : Chip) (h : HelloMsg) : Bool :=
  c.paired && decide (h.pairMode = 1) && decide (h.siliconRevision = c.val 0x1002) &&
    decide (h.firmwareVersion = leNat ((c.readObject 0x1005 0).getD [])) && decide (h.lpddrBytes = Config.lpddrBytes) &&
    decide (h.judgeAddress = c.judgeAddress) &&
    decide (c.pair.pairId = 0 ∨ h.pairId = 0 ∨ h.pairId = c.pair.pairId)

/-- The identity of a pair that forms: one that a unit holds, else the shelf's owner_id, else a unit's serial.
[DEDUCED, notes/assumptions/67.md] -/
def Chip.pairIdentity (c : Chip) (h : HelloMsg) : Nat :=
  if c.pair.pairId ≠ 0 then c.pair.pairId
  else if h.pairId ≠ 0 then h.pairId
  else match c.members.find? (fun m => decide (m.2.label.owner ≠ 0)) with
    | some m => m.2.label.owner
    | none => min Config.unitSerial h.serial

/-- P_LINK_UP. -/
def Chip.pLinkUp (c : Chip) (h : HelloMsg) (trained : Nat) : Chip :=
  let lanes := portWidth 0 trained
  if !c.portOn 0 ∨ lanes = 0 then c
  else
    let c := if (c.port 0).pstate = 2 then c.updPort 0 (fun x => { x with lanes }) else c.linkUp 0 lanes
    let c := c.updPort 0 (fun x => { x with peer := h.nodeId })
    let c := if lanes < 16 then c.pairRecord 9 else c
    if !c.paired then c
    else if c.pairAgrees h then
      let new := decide (c.pair.partnerSerial ≠ h.serial)
      let c := c.onPair (fun p => { p with formed := true, refused := false, partnerSerial := h.serial, pairId := c.pairIdentity h
                                           sinceHb := 0, silent := false })
      if new then c.discoverPartner else c
    else
      let c := (c.onPair (fun p => { p with formed := false, refused := true, peerSync := 0 })).pairRecord 8
      if c.leads then c.onPair (fun p => { p with role := .alone })
      else if c.pair.role = .fenced then c else c.fence

def execPLinkUp (peer : HelloMsg) (lanes : Nat) (s : State) : Host.Outcome State Fault Refusal :=
  s.ringEffect (fun c => c.pLinkUp peer lanes)

/-! ### Aliases (R318) -/

/-- ALIAS: of two claims on one node ID the one with the higher pair epoch stands. [DEDUCED, notes/assumptions/67.md] -/
def Chip.nodeAlias (c : Chip) (src claimed claimant epoch : Nat) (claim : Bool) : Chip :=
  if !c.ringOn ∨ src ≠ claimant ∨ claimant = c.straps.nodeId then c
  else if claim then
    let stands : Bool := match c.ring.claims.find claimed with
      | some k => decide (k.2 < epoch) || decide (k.1 = claimant)
      | none => true
    let mine : Bool := c.ring.aliases.any (fun a => decide (a.1 = claimed) && decide (epoch ≤ a.2))
    if !stands || mine then c
    else (c.onRing (fun r => { r with claims := r.claims.put claimed (claimant, epoch)
                                      aliases := r.aliases.filter (fun a => decide (a.1 ≠ claimed)) })).ringChanged
  else match c.ring.claims.find claimed with
    | some k => if k.1 = claimant then (c.onRing (fun r => { r with claims := r.claims.drop claimed })).ringChanged else c
    | none => c

def execNodeAlias (src claimed claimant epoch : Nat) (claim : Bool) (s : State) : Host.Outcome State Fault Refusal :=
  s.ringEffect (fun c => c.nodeAlias src claimed claimant epoch claim)

/-- STRIPE and COMMIT messages of this source are discarded (R318). -/
def Chip.sourceBarred (c : Chip) (src : Nat) : Bool :=
  src ≠ c.straps.nodeId &&
    ((match c.ring.claims.find src with | some k => decide (k.1 ≠ src) | none => false) ||
     c.ring.aliases.any (fun a => decide (a.1 = src)) || decide (1 < (c.node src).role))

/-- Take a STRIPE or COMMIT message, or discard and count it. -/
def Chip.fromSource (c : Chip) (src : Nat) (f : Chip → Chip) : Chip := if c.sourceBarred src then c.bump 0x3C26 else f c

/-- Why no UNIT_RESET is sent to a node. -/
def Chip.resetNodeReason (c : Chip) (node : Nat) : Nat := if c.lockedMember && decide (c.answering node ∈ c.ring.members) then 0 else 5

/-- RING_RESET_NODE (R325). -/
def execRingResetNode (node : Nat) (writer : Writer) (s : State) : Host.Outcome State Fault Refusal :=
  s.effect (fun c => c.command 0x3C40 0 node writer (c.resetNodeReason node)
    (fun c => c.emit (.unitReset (c.answering node) node c.newestLog)))

end Sys2Proof.Machine
end

