-- ==== Sys2Proof/Machine/Spanning.lean ====
section
/-! DEFINITION. Spanning stripes (R319 to R324): strip reads and writes served for a home unit, and the cross-unit commit. -/

namespace Sys2Proof.Machine

/-! ### Who takes part -/

/-- The unit that answers for a node ID (R318). -/
def Chip.unitOf (c : Chip) (n : Nat) : Nat :=
  if c.ownNode n then c.straps.nodeId else match c.ring.claims.find n with | some k => k.1 | none => n

/-- The participants of an entry's stripe: the units of its columns, and the home (R319). [DEDUCED, notes/assumptions/41.md] -/
def Chip.participants (c : Chip) (e : Entry) : List Nat :=
  ((e.memberSet.map (fun m => c.unitOf m.2.2)).foldl addNew [c.unitOf (c.piste e.piste).home])

/-- A unit is reachable and LOCKED. -/
def Chip.unitLocked (c : Chip) (n : Nat) : Bool :=
  if n = c.straps.nodeId then c.lockedMember else decide (n ∈ c.ring.members) && decide ((c.node n).sync = 2)

/-- The entry a stripe reference names. -/
def Chip.entryOfRef (c : Chip) (r : StripeRef) : Option (Nat × Entry) :=
  c.journal.entries.find? (fun t => decide (t.2.piste = r.piste) && decide (t.2.stripe = r.stripe) &&
    decide (t.2.generation = r.generation) && decide (t.2.state ≠ .free))

/-- The stripe reference of an entry. -/
def Chip.refOf (c : Chip) (e : Entry) : StripeRef :=
  { c.stripeRef e.stripeId e.durableMask e.generation with stripe := e.stripe, kind := e.kind, acked := e.acked, degraded := e.degraded }

def Chip.onRound (c : Chip) (slot : Nat) (f : CommitRound → CommitRound) : Chip :=
  c.updEntry slot (fun e => { e with round := f e.round })

/-! ### Strip reads and writes (R319, R320) -/

/-- The home unit of a spanning piste speaks of it: the record made at its PISTE_CHECK stands (R59). [DESIGN CHOICE,
notes/assumptions/99.md] -/
def Chip.homeHeard (c : Chip) (src p : Nat) : Chip :=
  let x := c.piste p
  if x.offer ∧ c.unitOf x.home = src then (c.updPiste p (fun x => { x with offer := false })).pisteChange p else c

/-- STRIP_READ: admitted against this unit's own member budgets, answered when it ends. -/
def Chip.stripRead (c : Chip) (src : Nat) (ref : StripeRef) (first count cls tag : Nat) : Chip :=
  if !c.joinedMember then c
  else
    let i : StripeId := ⟨ref.piste, false, (areaOf ref.stripe).1, (areaOf ref.stripe).2⟩
    let col := (bitsOf 32 ref.columnMask).headD 0
    let fail := fun (c : Chip) (reason : Nat) => c.emit (.stripe src 4 ref (leBytes 4 tag ++ leBytes 1 reason))
    let c := c.homeHeard src ref.piste
    if (c.piste ref.piste).state = .absent then fail c 1
    else match c.stripHome i col with
      | none => fail c 1
      | some s =>
        if !c.ownNode s.node then fail c 1
        else if (c.member s.slot).slot = .contained then fail c 3
        else if (c.known i col).isNone then fail c 1
        else
          let r := c.physical s first count
          c.issueRead s.slot cls s.zoned r.1 r.2 (.remoteStrip src tag ref first count) none 0

def execStripRead (src : Nat) (ref : StripeRef) (first count cls tag : Nat) (s : State) : Host.Outcome State Fault Refusal :=
  s.effect (fun c => c.fromSource src (fun c => c.stripRead src ref first count cls tag))

/-- Take the outstanding STRIP_READ of a tag off the list. -/
def Chip.endRead (c : Chip) (tag : Nat) (f : Chip → Nat → Nat → Chip) : Chip :=
  match c.ring.reads.find? (fun r => decide (r.1 = tag)) with
  | none => c
  | some r =>
    let c := c.onRing (fun k => { k with reads := k.reads.filter (fun y => decide (y.1 ≠ tag)) })
    match c.gather r.2.1 with
    | none => c
    | some g => f c g.id r.2.2.1

/-- STRIP_DATA: one that arrives behind its reconstruction is discarded (R143, R319). -/
def execStripData (src : Nat) (_ref : StripeRef) (tag : Nat) (blocks : List Bytes) (s : State) : Host.Outcome State Fault Refusal :=
  s.effect (fun c => c.fromSource src (fun c => c.endRead tag (fun c id col =>
    Chip.gatherEnd (c.gatherTake id col blocks))))

/-- STRIP_FAIL: the column is unknown, or its read has failed. -/
def execStripFail (src : Nat) (_ref : StripeRef) (tag reason : Nat) (s : State) : Host.Outcome State Fault Refusal :=
  s.effect (fun c => c.fromSource src (fun c => c.endRead tag (fun c id col =>
    Chip.gatherEnd (c.gatherFail id col (decide (reason = 2)) false))))

/-- Places for the strips of a groomed stripe on this unit's members (R118). [DEDUCED, notes/assumptions/41.md] -/
def Chip.placeStrips (c : Chip) (p q kind : Nat) (cols : List Nat) : Chip :=
  let x := c.piste p
  c.each cols (fun c col =>
    let e := atD (x.stripeIndices ⟨p, false, 0, q⟩) col 0
    (c.placeStrip p e (x.serial e q) (decide (kind = 4))).1)

/-- STRIP_WRITE: the participant opens its own entry, or keeps the one it has (R98, R320, R323). -/
def Chip.stripWrite (c : Chip) (src : Nat) (ref : StripeRef) (memberSet : Bytes) (parityCheck first count : Nat)
    (columns : List (List Bytes)) : Chip :=
  let c := c.homeHeard src ref.piste
  let x := c.piste ref.piste
  -- while this unit's extents are still being zeroed nothing is written over them (R64)
  if !c.joinedMember ∨ x.state = .absent ∨ x.state = .creating ∨ c.unitOf x.home ≠ src then c
  else
    let cols := bitsOf 32 ref.columnMask
    let set := parseMemberSet memberSet
    let data : KMap (List Bytes) := (List.range cols.length).foldl (fun m j => KMap.put m (atD cols j 0) (atD columns j [])) []
    let e : Entry :=
      { Entry.reset with
        state := .open_, piste := ref.piste, kind := ref.kind, acked := ref.acked, spanning := true, degraded := ref.degraded
        stripMask := ref.columnMask, stripe := ref.stripe, generation := ref.generation, stride := c.clk.stride, parityCheck
        first, count, memberSet := set, newGeom := c.inNewGeom ref.piste ref.kind ref.stripe, computed := true, columns := data
        touched := true, round := { CommitRound.reset with sinceLap := c.lap } }
    let kept := c.entryOfRef ref
    match (match kept with | some t => some t.1 | none => c.freeJournalSlot) with
    | none => c.bump 0x2444
    | some slot =>
      let old : Entry := match kept with | some t => t.2 | none => Entry.reset
      if old.state = .committed then c
      else
        -- an entry it keeps stands in its state, and writes its columns again (R93, R323)
        let again : Nat := match kept with | some _ => ref.columnMask | none => 0
        let c := c.setEntry slot { e with
          laneDurable := old.laneDurable, sealed_ := old.sealed_, openMirror := old.openMirror
          state := if old.state = .free then .open_ else old.state, durableMask := old.durableMask, again
          round := { CommitRound.reset with sinceLap := c.lap, rewrite := decide (again ≠ 0) } }
        let c := c.updPiste ref.piste (fun x => { x with generation := max x.generation (ref.generation + 1) })
        let c := if x.groomed ∧ (areaOf ref.stripe).1 = 0 then c.placeStrips ref.piste ref.stripe ref.kind cols else c
        c.pumpEntry slot

def execStripWrite (src : Nat) (ref : StripeRef) (memberSet : Bytes) (parityCheck first count : Nat) (columns : List (List Bytes))
    (s : State) : Host.Outcome State Fault Refusal :=
  s.effect (fun c => c.fromSource src (fun c => c.stripWrite src ref memberSet parityCheck first count columns))

/-! ### The commit (R321) -/

/-- Record a spanning entry COMMITTED; at the home its map changes are recorded with it (R122). -/
def Chip.commitSpanning (c : Chip) (slot counter : Nat) : Chip :=
  ((c.onRound slot (fun _ => CommitRound.reset)).recordCommit slot).bump counter

/-- The home broadcasts CALL with s = c + 2. -/
def Chip.sendCall (c : Chip) (slot : Nat) : Chip :=
  let e := c.entry slot
  let s := c.clk.stride + 2
  let c := c.onRound slot (fun r => { r with
    callStride := some s, reports := [], reported := false, lockedAt1 := false, recalling := false, states := [], retryLap := none })
  (c.emit (.commit 32 2 { c.refOf e with atStride := s })).bump 0x3C20

/-- CALL once the home's own entry is PARITY_DURABLE and every other participant has sent WRITTEN. -/
def Chip.tryCall (c : Chip) (slot : Nat) : Chip :=
  let e := c.entry slot
  let others := (c.participants e).filter (fun n => decide (n ≠ c.straps.nodeId))
  if e.spanning && c.isHome e && e.state = .parityDurable && e.sealed_ = .parityDurable && decide (e.again = 0) && !e.round.rewrite && e.round.callStride.isNone &&
      !e.round.recalling && e.round.retryLap.isNone && c.lockedMember && others.all (fun n => decide (n ∈ e.round.writtenFrom))
  then c.sendCall slot else c

/-- WRITTEN. -/
def Chip.written (c : Chip) (src : Nat) (ref : StripeRef) : Chip :=
  match c.entryOfRef ref with
  | none => c
  | some (slot, e) =>
    if !c.isHome e then c
    else
      let c := c.updEntry slot (fun e => { e with
        degraded := e.degraded || ref.degraded, round := { e.round with writtenFrom := addNew e.round.writtenFrom src } })
      c.tryCall slot

def execWritten (src : Nat) (ref : StripeRef) (s : State) : Host.Outcome State Fault Refusal :=
  s.effect (fun c => c.fromSource src (fun c => c.written src ref))

/-- CALL, at a participant. -/
def Chip.called (c : Chip) (src : Nat) (ref : StripeRef) : Chip :=
  match c.entryOfRef ref with
  | none => c
  | some (slot, e) =>
    if c.isHome e ∨ c.unitOf (c.piste e.piste).home ≠ src then c
    else c.onRound slot (fun r => { r with
      callStride := some ref.atStride, reports := [], reported := false, lockedAt1 := false, missedSent := false })

def execCall (src : Nat) (ref : StripeRef) (s : State) : Host.Outcome State Fault Refusal :=
  s.effect (fun c => c.fromSource src (fun c => c.called src ref))

/-- REPORT: a DURABLE report of the round in force. -/
def Chip.reported (c : Chip) (src : Nat) (ref : StripeRef) : Chip :=
  match c.entryOfRef ref with
  | none => c
  | some (slot, e) =>
    if ref.outcome = 1 ∧ e.round.callStride = some ref.atStride then
      c.onRound slot (fun r => { r with reports := addNew r.reports src })
    else c

def execReport (src : Nat) (ref : StripeRef) (s : State) : Host.Outcome State Fault Refusal :=
  s.effect (fun c => c.fromSource src (fun c => c.reported src ref))

/-- Send MISSED to the home (R322). -/
def Chip.sendMissed (c : Chip) (slot : Nat) : Chip :=
  let e := c.entry slot
  ((c.onRound slot (fun r => { r with missedSent := true, sinceLap := c.lap })).emit (.commit (c.piste e.piste).home 6 (c.refOf e))).bump
    0x3C22

/-- The answer to a RECALL, once no member write of the entry is outstanding (R323). -/
def Chip.answerRecall (c : Chip) (slot : Nat) : Chip :=
  let e := c.entry slot
  if e.round.recalling && !c.isHome e && e.issued.all (fun col => e.durableMask.testBit col && !e.again.testBit col) then
    let out := if e.state = .parityDurable ∨ e.state = .committed then 1 else 2
    (c.onRound slot (fun r => { r with recalling := false })).emit
      (.commit (c.piste e.piste).home 5 { c.refOf e with outcome := out })
  else c

/-- What a stride boundary is for one spanning entry: the report of s + 1, the commit of s + 2, the messages that are due. -/
def Chip.commitEntry (c : Chip) (slot : Nat) : Chip :=
  let e := c.entry slot
  let n := c.clk.stride
  let locked := c.lockedMember
  let c := c.answerRecall slot
  match e.round.callStride with
  | none =>
    if c.isHome e then c.tryCall slot
    else if e.inherited && !e.round.missedSent && decide (e.state ≠ .committed) && locked && c.reachable (c.piste e.piste).home
      then c.sendMissed slot
    else c
  | some s =>
    if n = s + 1 then
      let durable := e.state = .parityDurable && e.sealed_ = .parityDurable && locked
      let c := c.onRound slot (fun r => { r with
        lockedAt1 := locked, reported := true, reports := if durable then addNew r.reports c.straps.nodeId else r.reports })
      c.emit (.commit 32 3 { c.refOf e with outcome := if durable then 1 else 2, atStride := s })
    else if s + 1 < n ∨ n + 2 < s then
      if decide (n = s + 2) && e.round.lockedAt1 && locked && e.state = .parityDurable &&
          (c.participants e).all (fun u => decide (u ∈ e.round.reports)) then c.commitSpanning slot 0x3C21
      else
        let c := c.onRound slot (fun r => { r with callStride := none })
        if c.isHome e then c.onRound slot (fun r => { r with retryLap := some (c.lap + c.val 0x3C25) }) else c.sendMissed slot
    else c

/-- The cross-unit commit at a stride boundary (R321 to R323). -/
def Chip.commitStride (c : Chip) : Chip :=
  c.each ((c.journal.entries.filter (fun t => t.2.spanning && decide (t.2.state ≠ .committed))).map Prod.fst) Chip.commitEntry

/-- STRIP_READs whose deadline ends at this boundary (R140, R319). [DEDUCED, notes/assumptions/41.md] -/
def Chip.farDeadlines (c : Chip) : Chip :=
  let due := c.ring.reads.filter (fun r => decide (r.2.2.2 = some 1))
  let c := c.onRing (fun k => { k with reads := k.reads.map (fun r => (r.1, r.2.1, r.2.2.1, match r.2.2.2 with
    | some (d + 2) => some (d + 1)
    | _ => none)) })
  c.each due (fun c r => c.gatherLate r.2.1 r.2.2.1)

/-! ### Resolution (R322, R323) -/

/-- The home resolves an entry: RECALL, once every participant is reachable and LOCKED. -/
def Chip.resolveEntry (c : Chip) (slot : Nat) : Chip :=
  let e := c.entry slot
  if e.round.callStride.isSome || e.round.recalling then c
  else if !((c.participants e).all c.unitLocked) then c.onRound slot (fun r => { r with retryLap := some c.lap })
  else
    (c.onRound slot (fun r => { r with recalling := true, states := [], retryLap := none })).emit (.commit 32 4 (c.refOf e))

/-- The home treats its entry as OPEN, whose recorded state stands (R93): R104 for what is rewritten; what R132 abandons is sealed COMMITTED
and RESOLVED. -/
def Chip.treatOpen (c : Chip) (slot : Nat) : Chip :=
  let e := c.entry slot
  let ref := c.refOf e
  let c := c.updEntry slot (fun e => { e with round := { CommitRound.reset with sinceLap := c.lap } })
  let rewritten := decide (e.kind ≤ 2) || decide ((areaOf e.stripe).1 ≠ 0)
  if rewritten then c.replayRewrite slot (decide (e.kind ≤ 2))
  else if e.kind = 6 ∧ !(c.piste e.piste).groomed then c.replayReshape slot
  else ((c.replayDrop slot).bump 0x3C23).emit (.commit 32 7 ref)

/-- STATE, at the home. -/
def Chip.stateAnswer (c : Chip) (src : Nat) (ref : StripeRef) : Chip :=
  match c.entryOfRef ref with
  | none => c
  | some (slot, e) =>
    if !c.isHome e || !e.round.recalling then c
    else
      let states := e.round.states.put src ref.outcome
      let c := c.onRound slot (fun r => { r with states })
      let others := (c.participants e).filter (fun n => decide (n ≠ c.straps.nodeId))
      if !(others.all (fun n => (states.find n).isSome)) then c
      else if others.all (fun n => decide (states.find n = some 1)) && e.state = .parityDurable then
        (if c.lockedMember then c.sendCall slot
         else c.onRound slot (fun r => { r with recalling := false, retryLap := some c.lap }))   -- no new action in HOLDOVER (R39)
      else c.treatOpen slot

def execState (src : Nat) (ref : StripeRef) (s : State) : Host.Outcome State Fault Refusal :=
  s.effect (fun c => c.fromSource src (fun c => (c.stateAnswer src ref).pumpEntries))

/-- RECALL, at a participant. -/
def Chip.recalled (c : Chip) (src : Nat) (ref : StripeRef) : Chip :=
  match c.entryOfRef ref with
  | none => if c.ownNode (c.piste ref.piste).home then c else c.emit (.commit src 5 { ref with outcome := 3, atStride := 0 })
  | some (slot, e) =>
    if c.isHome e then c
    else (c.onRound slot (fun r => { r with recalling := true, callStride := none })).answerRecall slot

def execRecall (src : Nat) (ref : StripeRef) (s : State) : Host.Outcome State Fault Refusal :=
  s.effect (fun c => c.fromSource src (fun c => c.recalled src ref))

/-- MISSED, at the home (R322); a home that holds no entry of a generation its piste has not given out has nothing to resolve.
[DEDUCED, notes/assumptions/41.md] -/
def Chip.missedBy (c : Chip) (ref : StripeRef) : Chip :=
  let x := c.piste ref.piste
  if !c.ownNode x.home then c
  else match c.entryOfRef ref with
    | some (slot, e) => if e.state = .committed then c.emit (.commit 32 7 { ref with outcome := 0 }) else c.resolveEntry slot
    | none => if ref.generation < x.generation then c.emit (.commit 32 7 { ref with outcome := 0 }) else c

def execMissed (src : Nat) (ref : StripeRef) (s : State) : Host.Outcome State Fault Refusal :=
  s.effect (fun c => c.fromSource src (fun c => c.missedBy ref))

/-- RESOLVE, at a participant that still holds the entry. -/
def Chip.resolved (c : Chip) (src : Nat) (ref : StripeRef) : Chip :=
  match c.entryOfRef ref with
  | none => c
  | some (slot, e) =>
    if c.isHome e ∨ e.state = .committed ∨ c.unitOf (c.piste e.piste).home ≠ src then c else c.commitSpanning slot 0x3C23

def execResolve (src : Nat) (ref : StripeRef) (s : State) : Host.Outcome State Fault Refusal :=
  s.effect (fun c => c.fromSource src (fun c => c.resolved src ref))

/-- COMMIT_RETRY_EXPIRY: the home did not commit at s + 2, or holds the entry after a replay (R322, R323). -/
def Chip.retryExpiry (c : Chip) (piste stripe generation : Nat) : Chip :=
  match c.entryOfRef { c.stripeRef ⟨piste, false, 0, 0⟩ 0 generation with stripe } with
  | none => c
  | some (slot, e) =>
    match e.round.retryLap with
    | some l => if c.isHome e ∧ e.state ≠ .committed ∧ l ≤ c.lap then c.resolveEntry slot else c
    | none => c

def execCommitRetryExpiry (piste stripe generation : Nat) (s : State) : Host.Outcome State Fault Refusal :=
  s.effect (fun c => c.retryExpiry piste stripe generation)

/-- MISSED_REPEAT: PARITY_DURABLE for 64 laps without a CALL (R322). -/
def Chip.missedAgain (c : Chip) (piste stripe generation : Nat) : Chip :=
  match c.entryOfRef { c.stripeRef ⟨piste, false, 0, 0⟩ 0 generation with stripe } with
  | none => c
  | some (slot, e) =>
    if e.spanning ∧ !c.isHome e ∧ e.state = .parityDurable ∧ e.round.callStride.isNone ∧ e.round.sinceLap + 64 ≤ c.lap
    then c.sendMissed slot else c

def execMissedRepeat (piste stripe generation : Nat) (s : State) : Host.Outcome State Fault Refusal :=
  s.effect (fun c => c.missedAgain piste stripe generation)

end Sys2Proof.Machine
end

