-- ==== Sys2Proof/Machine/Restart.lean ====
section
/-! DEFINITION. The restart that COLD, RESET_N, UNIT and RING resets share (R428 to R433, R439, R441, Table 16.4): what each part of
the chip keeps, and the boot ROM's steps up to 150 ms. -/

namespace Sys2Proof.Machine

/-! ### What each part keeps (Table 16.4) -/

/-- A member after a restart: its redundancy state as the directory has it (R460); one that was resyncing or contained waits for
its drive as one that reappears within grace. [DEDUCED, notes/assumptions/78.md] -/
def Member.restarted (m : Member) (now cycles : Nat) : Member :=
  let contained := decide (m.slot = .contained) && (m.prevSlot = .inUse || m.prevSlot = .removalPending || m.prevSlot = .quiescing) &&
    decide (m.mstate = .inService)
  let back := contained || decide (m.mstate = .resyncing)
  { Member.reset with
    mstate := if back then .failed else m.mstate
    cause := if contained then 2 else m.cause
    failNs := if contained then some now else m.failNs
    failCycles := if contained then cycles else m.failCycles
    graceOver := if back then false else m.graceOver
    report := none
    figures := m.figures.or m.report
    label := m.label
    recorded := m.recorded
    replaces := m.replaces
    zones := m.zones.mapVal (fun _ z => { z with working := false }) }

/-- A slot's place in the power-up order: seated and powered slots train again, seated ones without power wait for a group. -/
def Member.seated (m : Member) (present powered disabled : Bool) (now : Nat) : Member :=
  if disabled then { m with slot := .disabled, presence := present, rawPresence := present }
  else if !present then { m with report := m.figures }
  else if powered then
    { m with slot := .powering, presence := true, rawPresence := true, powerEnable := true, powerSent := true, powerGood := true, timerNs := now }
  else { m with slot := .debounce, presence := true, rawPresence := true, waitPower := true }

/-- A piste after a restart: the rebuild record and the fall line as the directory's copies carry them (R152, R174, R460); what
LPDDR6 held of its map is gone where it was not retained, and its stripe generations then begin again at 0: Table 16.4 does not name them.
[DEDUCED, notes/assumptions/78.md; DESIGN CHOICE, notes/assumptions/103.md] -/
def Piste.restarted (x : Piste) (retained : Bool) : Piste :=
  let r := x.rebuildSaved
  let rec_ := { r with
    sinceCheckpoint := 0, issued := false
    slots := r.slots.map (fun t =>
      -- relocation entries and zone records: as LPDDR6 kept them, else as their area holds them (R158)
      let live := (x.slotOf t.index).getD t
      { t with
        copyMark := t.copySaved, copyDurable := t.copySaved, issued := false, strip := 0, area := live.area
        unwritten := if retained then live.unwritten else []
        reloc := if retained then live.reloc else areaEntries live.area
        recs := if retained then live.recs else areaRecords live.area }) }
  let x := { x with
    handle := 0, copyFrom := [], copyData := [], parityDue := [], newName := none, unitMissing := false, lowLaps := 0, lapHigh := false, fellBack := false, throughUntilLane := false
    laneNamed := false, lastHostWriteLap := 0, readBlocks := 0, writeBlocks := 0, rebuiltBytes := 0
    rebuild := rec_, rebuildSaved := rec_, repl := rec_.slots.map (fun t => t.index)
    rebuildDurable := rec_, fall := { x.fall with position := x.fall.saved, durable := x.fall.saved, movedStride := 0, finish := 0 }
    suspended := false, victim := none, forced := [], copyQueue := [], partial_ := []
    pages := if retained then x.pages.mapVal (fun _ g => { g with reserved := false, firstChangeLap := 0 }) else [] }
  if retained then x else { x with liveCount := [], held := [], generation := 0, committedGen := [], allowance := 0 }

/-- A piste as a copy of the directory has it: what the directory says, over what LPDDR6 holds of it (R68). -/
def DirPiste.over (d : DirPiste) (x : Piste) : Piste :=
  { x with
    state := d.state, groomed := d.groomed, uid := d.uid, name := d.name, granuleCode := d.granuleCode, geom := d.geom, seed := d.seed
    capacity := d.capacity, list := d.list, home := d.home, spanning := d.spanning, offer := d.offer, mapBase := d.mapBase
    mapGeom := d.mapGeom, serialBase := d.serialBase, serialBaseOld := d.serialBaseOld, rebuildSaved := d.rebuild, fall := d.fall }

/-- A member as a copy of the directory has it (R460). -/
def DirMember.over (d : DirMember) (m : Member) : Member :=
  { m with mstate := d.mstate, cause := d.cause, failNs := d.failNs, failCycles := d.failCycles }

/-- The valid copy of the directory with the highest generation, on a member or in the vault (R68); `none` where there is none. -/
def Chip.directoryFound (c : Chip) : Option (Nat × DirImage) :=
  let held := (c.dir.copies.filter (fun g => !g.2.isEmpty)).map Prod.fst
  let onMembers := c.dir.images.filter (fun g => decide (g.1 ∈ held))
  let inVault := ((c.power.images.filter (fun v => decide (v.2.status = 2) && decide (v.2.dirGen ≠ 0))).map (fun v => (v.2.dirGen, v.2.directory)))
  (onMembers ++ inVault).foldl (fun (a : Option (Nat × DirImage)) g => match a with
    | none => some g
    | some y => if y.1 < g.1 then some g else some y) none

/-- The directory a start uses (R68), with the pistes and members it describes; without a copy, what the unit holds. [DESIGN CHOICE,
notes/assumptions/89.md] -/
def Chip.startDirectory (c : Chip) : Chip :=
  match c.directoryFound with
  | none => { c with pistes := c.pistes.mapVal (fun _ x => { x with fall := { x.fall with saved := x.fall.durable }, rebuildSaved := x.rebuildDurable }) }
  | some (g, d) => { c with
      dir := { generation := g, durable := g, copies := c.dir.copies.filter (fun e => decide (e.1 = g))
               images := [(g, d)] }
      pistes := d.pistes.map (fun p => (p.1, p.2.over (c.piste p.1)))
      members := c.members.mapVal (fun s m => match d.members.find s with | some x => x.over m | none => m) }

/-- The journal as LPDDR6 retained it: entries stand as last sealed; one never sealed is no entry (R93, R103). -/
def Entry.retained (e : Entry) : Entry :=
  { e with state := e.sealed_, computed := false, columns := [], issued := [], through := [], oldCols := [], round := CommitRound.reset
           touched := false, inherited := false }

/-- Entries that a retained journal holds. -/
def Journal.survivors (j : Journal) : KMap Entry :=
  (j.entries.filter (fun t => decide (t.2.sealed_ ≠ .free) && decide (t.2.sealed_ ≠ .committed))).map (fun t => (t.1, t.2.retained))

/-- A block's versions with the entries that survive: FROZEN versions of others are DIRTY again, write-through data goes. The hold
time counts anew, since laps do. [DEDUCED, notes/assumptions/14.md] -/
def keptVersions (live : List Nat) (l : List Version) : List Version :=
  (l.filter (fun v => !(v.state = .through && decide (v.entry = 0 ∨ v.entry - 1 ∉ live)))).map (fun v =>
    let v := { v with dirtyLap := 0 }
    if v.entry ≠ 0 ∧ v.entry - 1 ∉ live then { v with entry := 0, state := if v.state = .frozen then .dirty else v.state } else v)

/-- The cache as LPDDR6 retained it. -/
def Cache.restarted (k : Cache) (live : List Nat) : Cache :=
  { Cache.reset with
    blocks := (k.blocks.map (fun b => (b.1, keptVersions live b.2))).filter (fun b => !b.2.isEmpty)
    lostRanges := k.lostRanges, lostStripes := k.lostStripes.map (fun l => { l with sinceLap := 0 }), lostSeq := k.lostSeq }

/-- A dirty-region log as its copies on the members hold it (R149, R460). -/
def DirtyLog.restarted (l : DirtyLog) : DirtyLog :=
  { l with rows := l.durRows, zones := l.durZones, pendRows := [], pendZones := [], writesOut := 0, pos := 0, issued := false }

/-- The number deferred errors resume at without retained LPDDR6: the last checkpoint plus 1,024 (R207). -/
def resumedDeferred (next : Nat) : Nat := if next ≤ 1 then 1 else (next - 2) / 1024 * 1024 + 1 + 1024

/-- The queue interface after a restart (R197, R205, R207). [DEDUCED, notes/assumptions/78.md] -/
def Cqi.restarted (k : Cqi) (retained : Bool) : Cqi :=
  if retained then
    { Cqi.reset with nextAcc := k.nextAcc, accepted := k.accepted, eventSeq := k.eventSeq, eventLog := k.eventLog, errorLog := k.errorLog
                     deferred := k.deferred, nextDeferred := k.nextDeferred, lastSummary := k.lastSummary
                     handles := k.handles.mapVal (fun _ h => { Handle.reset with generation := h.generation }) }
  else { Cqi.reset with nextDeferred := resumedDeferred k.nextDeferred }

/-- The host port: trained again; the pin of PERST_N is the host's. -/
def HostPort.restarted (h : HostPort) (now : Nat) : HostPort :=
  { HostPort.reset with perst := h.perst, releaseNs := if h.perst then none else some now, subsystem := h.subsystem }

/-- Counters that count since cold power-on (Table 2.7, Table 9.15, Table 14.8, Table 15.11): another reset leaves them. -/
def sinceCold : List Nat := [0x1220, 0x3451, 0x4801, 0x5000]

/-- An object whose value survives a restart without being a setting: a persistent one that is only read, and, but for COLD, a count
since cold power-on. -/
def keptObject (cold : Bool) (key : Nat) : Bool :=
  !cold && decide (key / 256 ∈ sinceCold) ||
  match findObj (key / 256) with
  | some o => o.persistent && decide (o.access < 2)
  | none => false

/-- Writes not yet committed go to both flashes (R335, R439); a rights mask is kept under 2^32 + its index. -/
def Dict.commit (d : Dict) : Dict :=
  { d with flash := (d.uncommitted.filter (fun w => decide (w.1 < 2 ^ 32))).foldl (fun m w => m.put w.1 w.2.1) d.flash
           flashRights := (d.uncommitted.filter (fun w => decide (2 ^ 32 ≤ w.1))).foldl (fun m w => m.put (w.1 - 2 ^ 32) (leNat w.2.1)) d.flashRights
           commitSeq := maxOf (d.commitSeq :: d.uncommitted.map (fun w => w.2.2)), uncommitted := [] }

/-- An object kept as bytes. -/
def byteObject (key : Nat) : Bool :=
  match findObj (key / 256) with
  | some o => decide (o.ty = 12) || decide (o.ty = 13)
  | none => false

/-- The dictionary with the settings the flashes hold, once the writes held in LPDDR6 or in a vault image are committed; other
objects have their defaults (R335). -/
def Dict.restarted (d : Dict) (retained : Bool) (held : List (Nat × Bytes × Nat)) : Dict :=
  let d := { d with uncommitted := held ++ (if retained then d.uncommitted else []) }.commit
  { d with
    values := (d.flash.filter (fun w => !byteObject w.1)).foldl (fun m w => m.put w.1 (leNat w.2)) (d.values.filter (fun w => keptObject (!retained) w.1))
    octets := (d.flash.filter (fun w => byteObject w.1)).foldl (fun m w => m.put w.1 w.2) (d.octets.filter (fun w => keptObject (!retained) w.1))
    rights := d.flashRights, refused := 0, log := if retained then d.log else [] }

/-- The recorder (R422, R424): numbers resume above every one that can have been given. [DEDUCED, notes/assumptions/8.md] -/
def Recorder.restarted (k : Recorder) (kind : Nat) : Recorder :=
  let seq := (k.saved / 2 ^ 40 + 1) * 2 ^ 40
  { k with
    seq, waiting := [], thisStride := 0, lapCount := [], suppressed := [], suppressedLap := [], storedLap := [], flushDue := false
    lastFlushLap := 0, flushOut := [], flushBad := []
    circ := if kind = 0 then [] else k.circ
    permanent := if kind ≤ 1 then [] else k.permanent }

/-- The supply and the pack: the pins released, figures and images kept (R374, R376, R384). [DEDUCED, notes/assumptions/78.md] -/
def Power.restarted (p : Power) (i : StartInputs) (kind : Nat) (now : Nat) : Power :=
  { Power.reset with
    vinNow := p.vinNow, vinMin := p.vinMin, packState := p.packState, packUv := i.packMv * 1000, tempDc := i.tempDc
    q := p.q, k := p.k, lastRest := p.lastRest, lastRestCycles := p.lastRestCycles, lastRestMs := p.lastRestMs
    restPointNs := p.restPointNs, restNs := now, learn := p.learn, learnBefore := p.learnBefore
    startRest := if kind ≤ 1 then some now else none
    images := p.images
    wroteMs := p.wroteMs }

/-- The memory's faults: the soft-fuse map takes effect, retired pages stay retired (R397, R398, R400). -/
def Mem.restarted (m : Mem) (kept : Bool) : Mem :=
  { Mem.reset with softFuse := m.softFuse, retired := m.retired, poisoned := if kept then m.poisoned else []
                   scrub := if kept then m.scrub else Scrub.reset }

/-- The start machine at time zero; `barred` tells that retained LPDDR6 is no replay source: after the safe state (R419), or after a
vault that was completed (R368). [DEDUCED, notes/assumptions/78.md] -/
def Start.restarted (k : Start) (kind : Nat) (i : StartInputs) (barred : Bool) : Start :=
  { Start.reset with
    powered := true, retained := decide (kind ≠ 0) && !barred, presence := i.presence, kind, images := k.images
    written := k.written, running := k.running, secVersion := k.secVersion, raiseTo := k.raiseTo, lanesFound := k.lanesFound
    lostMemory := decide (kind = 0), inputs := i }

/-! ### The boot ROM -/

/-- An image is accepted (R432). -/
def Chip.imageOk (c : Chip) (f : FlashImage) : Bool :=
  f.present && f.signatureOk && decide (c.start.secVersion ≤ f.securityVersion) && decide (f.length ≤ 2 ^ 24)

/-- The flash the boot ROM prefers (R431). -/
def Chip.preferredFlash (c : Chip) : Nat :=
  if c.val 0x5411 = 1 then 0 else if c.val 0x5411 = 2 then 1 else if c.straps.bootSel then 1 else 0

/-- The flash a start runs from; none where neither holds an accepted image. -/
def Chip.bootFlash (c : Chip) : Option Nat :=
  let f := c.preferredFlash
  let ok := fun (n : Nat) => c.imageOk (c.start.images.getD n FlashImage.empty)
  if ok f then some f else if ok (1 - f) then some (1 - f) else none

/-- Slots in the order in which power is given: the vault slots first, then ascending (R265). -/
def Chip.powerSequence (c : Chip) : List Nat :=
  c.vaultSlots ++ (List.range c.slots).filter (fun s => decide (s ∉ c.vaultSlots))

/-- The slots take their places, and the image is chosen: without one the unit stays in NO_IMAGE (R433). -/
def Chip.boot (c : Chip) (i : StartInputs) : Chip :=
  let off := fun (s : Nat) => decide (c.val 0x3444 s = 0)
  match c.bootFlash with
  | none =>
    let c := c.onStart (fun k => { k with phase := 6 })
    c.onCqi (fun k => { k with unitState := 3 })
  | some f =>
    let other := decide (f ≠ c.preferredFlash)
    let c := c.each (List.range c.slots) (fun c s => c.updMember s (fun m =>
      m.seated (decide (s ∈ i.presence)) (decide (s ∈ i.powered)) (off s) c.clk.opNs))
    let wait := c.powerSequence.filter (fun s => (c.member s).waitPower)
    let image := c.start.images.getD f FlashImage.empty
    let c := c.onStart (fun k => { k with
      running := f, powerOrder := wait, nextGroupNs := c.clk.opNs + 100000000, raiseTo := max k.secVersion image.securityVersion })
    if other then c.record 0xB10 else c

/-! ### Scrub ends (R403, R404) -/

/-- LPDDR6 lines of a range that are not on retired pages. -/
def Chip.scrubLines (c : Chip) (s : Scrub) : Nat :=
  if s.target = 1 then s.length / 8
  else
    let hi := s.first + s.length
    s.length / 64 - sumOf c.mem.retired (fun p => (min hi (p + 4096) - max s.first p) / 64)

/-- The scrub ends: its summary, its state and its record. [DEDUCED, notes/assumptions/85.md] -/
def Chip.scrubOver (c : Chip) (reason : Nat) : Chip :=
  let s := c.mem.scrub
  if s.state ≠ 1 then c
  else
    let d := c.drawn
    let n := if reason = 0 then c.scrubLines s else min (c.scrubLines s) (Config.scrubRead d.1)
    (d.2.onMem (fun m => { m with scrub := { s with state := 2, read := n, endReason := reason, endStride := c.clk.stride } })).record 0x801

/-! ### The restart -/

/-- The pair after a restart: what the labels and the journal say of it; a STALE copy keeps its mark and its epoch (R293); the role by the
start rules. [DEDUCED, notes/assumptions/78.md] -/
def Pair.restarted (p : Pair) (paired retained : Bool) : Pair :=
  { Pair.reset with pairId := p.pairId, epoch := if retained || p.sync = 3 then p.epoch else 0, role := if paired then .fenced else .alone
                    sync := if paired && (decide (p.sync = 3) || retained && decide (p.role = .standby)) then 3 else 0, judges := [] }

/-- What the unit finds where no row reports it: what it last knew. -/
def Chip.inputsNow (c : Chip) : StartInputs :=
  { strapMemberX4 := c.straps.memberX4, strapNodeId := c.straps.nodeId, strapBootSel := c.straps.bootSel
    presence := (c.members.filter (fun m => m.2.rawPresence)).map Prod.fst
    powered := (c.members.filter (fun m => m.2.powerEnable && m.2.powerGood)).map Prod.fst
    packMv := c.power.packUv / 1000, tempDc := c.power.tempDc, selfCheckOk := true, referenceOk := true, railsOk := true, sparesUsed := 0
    spareExhausted := [] }

/-- The time of a restart: a cold power-on counts a cycle and resumes the operating time saved last (R422). -/
def Clock.restarted (k : Clock) (kind savedMs : Nat) : Clock :=
  let now := if kind = 0 then savedMs * 1000000 else k.opNs
  { Clock.reset with opNs := now, cycles := if kind = 0 then k.cycles + 1 else k.cycles, startNs := now, locked := true
                     missed := if kind = 0 then 0 else k.missed }

/-- The straps as a start reads them (R445, Table 16.4). -/
def Straps.restarted (t : Straps) (kind : Nat) (i : StartInputs) : Straps :=
  if kind = 0 then { memberX4 := i.strapMemberX4, nodeId := i.strapNodeId % 32, bootSel := i.strapBootSel }
  else { t with bootSel := i.strapBootSel }

/-- The x4 arrangement is in force (R242): chosen at a cold start by arrangement_select and the strap, kept until the next. -/
def Chip.chosenX4 (c : Chip) (kind : Nat) (i : StartInputs) (select : Nat) : Bool :=
  if kind = 0 then decide (select = 2) || (decide (select = 0) && i.strapMemberX4) else decide (c.slots = 24)

/-- Every part as the reset leaves it, before anything has run. -/
def Chip.clear (c : Chip) (kind : Nat) (i : StartInputs) : Chip :=
  let c := c.startDirectory
  let retained := decide (kind ≠ 0)
  let clk := c.clk.restarted kind c.recorder.savedMs
  let entries := if retained then c.journal.survivors else []
  let straps := c.straps.restarted kind i
  let held := ((c.power.images.filter (fun v => decide (v.2.status = 2))).map (fun v => v.2.settings)).flatten
  let dict := c.dict.restarted retained held
  let x4 := c.chosenX4 kind i (dict.values.getD (objKey 0x3401 0) 0)
  let dict := if x4 then { dict with values := dict.values.put (objKey 0x3400 0) 1 } else dict
  let pairMode := decide (dict.values.getD (objKey 0x3800 0) 0 = 1) && !x4
  let pair := c.pair.restarted pairMode retained
  let cache := if retained then c.cache.restarted (entries.map Prod.fst) else Cache.reset
  let newest := maxOf (c.start.lanesFound.map (fun l => l.lap))
  { straps, clk, sched := Scheduler.reset, gathers := [], dict, pair, cache, out := c.out, draws := c.draws, dir := c.dir
    members := c.members.mapVal (fun _ m => m.restarted clk.opNs clk.cycles)
    pistes := c.pistes.mapVal (fun _ x => x.restarted retained)
    journal := { Journal.reset with
      entries, sealSeq := if retained then c.journal.sealSeq else 0
      lastOwn := if c.start.lanesFound.isEmpty then none else some newest
      lastBlock := match c.start.lanesFound.find? (fun l => decide (l.lap = newest)) with | some l => l.block | none => 0 }
    logs := c.logs.map DirtyLog.restarted
    cqi := c.cqi.restarted retained
    host := c.host.restarted clk.opNs
    ring := Ring.reset
    adp := Adp.reset
    power := c.power.restarted i kind clk.opNs
    mem := c.mem.restarted retained
    faults := { Faults.reset with selfCheck := false, afterSafe := c.faults.safe, safeCause := c.faults.safeCause }
    recorder := c.recorder.restarted kind
    start := c.start.restarted kind i (c.faults.safe || decide (c.power.supply = .down) && c.power.images.any (fun v => decide (v.2.status = 2))) }

/-- The state of a member that the rebuild records of its pistes bear out (R460): one in no E is FAILED again, a drain that E does not show
has not begun, a member REBUILT has every slot DONE, and one in copy-back has a slot in COPYBACK. [DEDUCED, notes/assumptions/53.md] -/
def Chip.settled (c : Chip) (slot : Nat) (m : Member) : MemberState :=
  let slots := ((c.holders slot).map (fun pe => ((c.piste pe.1).rebuild.slots.filter (fun r => decide (r.index = pe.2))))).flatten
  let done := slots.all (fun r => decide (r.state = 3))
  if (c.holders slot).isEmpty then m.mstate
  else match m.mstate with
  | .rebuilding => if slots.isEmpty then .failed else .rebuilding
  | .draining => if slots.any (fun r => r.drain) then .draining else .inService
  | .rebuilt => if slots.isEmpty then .failed else if done then .rebuilt else .rebuilding
  | .copyback => if slots.any (fun r => decide (r.state = 4)) then .copyback else if slots.isEmpty then .inService else if done then .rebuilt else .rebuilding
  | s => s

def Chip.settleMembers (c : Chip) : Chip :=
  c.each (c.members.keys) (fun c s => c.updMember s (fun m =>
    let t := c.settled s m
    { m with mstate := t, graceOver := m.graceOver && !(decide (t = .failed) && decide (m.mstate ≠ .failed)) }))

/-- The reset counts and the start marker; then the boot ROM (R422, R439). [DEDUCED, notes/assumptions/78.md] -/
def Chip.restart (c : Chip) (kind : Nat) (i : StartInputs) : Chip :=
  let saved := c.recorder.saved
  ((if kind = 0 then c else c.aside (fun c =>
      (c.endCommands.applyWhole.applyThrough (c.journal.survivors.map Prod.fst)).scrubOver 2)).clear kind i).aside (fun c =>
  let c := if kind = 0 then c.onHost (fun h => { h with subsystem := c.val 0x1850 }) else c
  let c := (c.onCache (fun k => { k with mapLimit := some (c.val 0x2800) })).onSched (fun s => { s with spare := c.val 0x2840 })
  let c := (c.setVal 0x5401 0 kind).bump 0x5402 kind
  let c := if kind ≤ 1 then c.bump 0x5006 else c
  let marker := { c.newRecord 0x001 none [] with snaps := [(0x5002 * 256, saved)] }
  let c := (c.storeRecord marker).settleMembers
  let c := if c.host.perst then c else c.emit .hostTrain
  (c.record (0xB00 + kind)).boot i)

/-! ### The unit's own reset (R439) -/

/-- The UNIT and RING resets: RELEASE, the commands end, the flush and the settings go out, LPDDR6 is kept, and the unit starts
again. -/
def Chip.unitRestart (c : Chip) (kind : Nat) : Chip :=
  let c := c.aside (fun c =>
    let c := if c.leads ∧ c.paired ∧ c.pair.leaseNs.isSome then c.sendLease 6 else c
    let c := c.endCommands
    let c := c.flushByVault c.vaultUp
    let c := if c.dict.uncommitted.isEmpty then c else c.emit (.flashWrite 6)
    c.onDict Dict.commit)
  c.restart kind c.inputsNow

end Sys2Proof.Machine
end

