-- ==== Sys2Proof/Machine/Vault.lean ====
section
/-! DEFINITION. The vault image: what it holds and how it lies on the drives (R365, R366, R396, Table 13.4). -/

namespace Sys2Proof.Machine

/-! ### Sections (R365) -/

/-- Blocks of a chunk. -/
def chunkBlocks : Nat := 256

/-- The first block of a region. -/
def regionBase (r : Nat) : Nat := if r = 0 then 262144 else 34865152

/-- Bytes as whole blocks. -/
def asBlocks (b : Bytes) : List Bytes := (List.range (ceilDiv b.length 4096)).map (fun i => slice b (4096 * i) 4096)

/-- Blocks as whole chunks. -/
def asChunks (l : List Bytes) : List (List Bytes) :=
  (List.range (ceilDiv l.length chunkBlocks)).map (fun i =>
    let x := (l.drop (chunkBlocks * i)).take chunkBlocks
    x ++ List.replicate (chunkBlocks - x.length) zeroBlock)

/-- The journal section: every slot, 32 to a block, and the seal header with its number and CRC-32C (R99). -/
def VaultImage.journalBlocks (v : VaultImage) : List Bytes :=
  (List.range 2048).map (fun i =>
    let here := v.journal.filter (fun t => decide (t.1 / 32 = i))
    if here.isEmpty then zeroBlock
    else here.foldl (fun b t => patch b (t.1 % 32 * 128) (t.2.bytes t.1)) zeroBlock) ++
  [fit 4096 (leBytes 8 v.sealSeq ++ leBytes 4 (crc32c (leBytes 8 v.sealSeq)))]

/-- A record with its 16-byte descriptor: kind and length. [DESIGN CHOICE, notes/assumptions/63.md] -/
def imageRecord (kind : Nat) (b : Bytes) : Bytes := leBytes 8 kind ++ leBytes 8 b.length ++ b

/-- The records section. [DESIGN CHOICE, notes/assumptions/63.md] -/
def VaultImage.recordBytes (v : VaultImage) : Bytes :=
  (v.rebuilds.map (fun r => imageRecord 1 (leBytes 1 r.1 ++ r.2.1.bytes) ++ imageRecord 2 (leBytes 1 r.1 ++ r.2.2.bytes))).flatten ++
  (v.logs.map (fun l => imageRecord 3 (leBytes 1 l.slot ++ (l.regions.map (leBytes 8)).flatten))).flatten ++
  (v.lostRanges.map (fun r => imageRecord 4 (leBytes 1 r.piste ++ leBytes 8 r.first ++ leBytes 8 r.count))).flatten ++
  (v.lostStripes.map (fun l => imageRecord 5 l.bytes)).flatten ++
  (v.journal.map (fun t => if t.2.change.isEmpty then [] else imageRecord 6 (leBytes 2 t.1 ++
    (t.2.change.map (fun x => leBytes 8 x.granule ++ leBytes 8 x.oldEntry ++ leBytes 8 x.newEntry ++
      leBytes 1 (if x.superseded then 1 else 0))).flatten))).flatten ++
  (v.deferred.map (fun d => imageRecord 7 (leBytes 4 d.number ++ leBytes 1 d.piste ++ leBytes 1 d.kind ++
    leBytes 1 ((if d.pending then 1 else 0) + (if d.delivered then 2 else 0) + (if d.posted then 4 else 0) + (if d.closed then 8 else 0)) ++
    leBytes 8 d.first ++ leBytes 8 d.count ++ leBytes 6 d.carriedBy ++ leBytes 2 d.carriedQueue))).flatten ++
  imageRecord 8 (leBytes 4 v.nextDeferred ++ leBytes 6 v.nextAcc ++ leBytes 6 v.eventSeq ++ leBytes 8 v.recSeq) ++
  imageRecord 9 (leBytes 4 v.epoch) ++ imageRecord 10 v.estimator ++
  (if v.lostSlots.isEmpty then [] else imageRecord 11 ((v.lostSlots.map (fun l => leBytes 2 l.1)).flatten))

/-- The settings section. -/
def VaultImage.settingBytes (v : VaultImage) : Bytes :=
  (v.settings.map (fun w => leBytes 8 w.1 ++ leBytes 8 w.2.2 ++ leBytes 8 w.2.1.length ++ w.2.1)).flatten

/-- A data block of the cache section with its descriptor's fields: piste, state, space, relocation slot, number. -/
structure ImageBlock where
  piste : Nat
  state : Nat
  space : Nat
  reloc : Nat
  number : Nat
  data : Bytes
deriving DecidableEq, Repr, Inhabited

def ImageBlock.descriptor (b : ImageBlock) : Bytes :=
  leBytes 1 b.piste ++ leBytes 1 b.state ++ leBytes 1 b.space ++ leBytes 1 b.reloc ++ leBytes 8 b.number ++ leBytes 4 (crc32c b.data)

/-- The data blocks: every DIRTY and FROZEN block, dirty map pages, and a block of zeros for each LOST one (R365, R396). -/
def VaultImage.cacheBlocks (v : VaultImage) : List ImageBlock :=
  (v.blocks.map (fun b => b.2.reverse.map (fun w =>
    ({ piste := b.1 / 2 ^ 64, state := if w.state = .frozen then 3 else 2
       space := if w.lost ∧ (b.1 / 2 ^ 64, b.1 % 2 ^ 64) ∈ v.lostBlocks then 3 else 0
       reloc := 0, number := b.1 % 2 ^ 64, data := fit 4096 w.out } : ImageBlock)))).flatten ++
  (v.pages.map (fun p => p.2.map (fun g => ({ piste := p.1, state := 2, space := 1, reloc := 0, number := g.1, data := g.2.bytes } : ImageBlock)))).flatten ++
  v.relocPages.map (fun g => ({ piste := g.1, state := 2, space := 2, reloc := g.2.1, number := g.2.2.1, data := g.2.2.2 } : ImageBlock))

/-- A chunk of the cache section: one descriptor block and 255 data blocks. -/
def cacheChunk (l : List ImageBlock) : List Bytes :=
  fit 4096 ((l.map ImageBlock.descriptor).flatten) :: (l.map (fun b => b.data)) ++ List.replicate (255 - l.length) zeroBlock

/-- The sections, as chunks: journal, records, settings, cache. -/
def VaultImage.sections (v : VaultImage) : List (List (List Bytes)) :=
  let l := v.cacheBlocks
  [asChunks v.journalBlocks, asChunks (asBlocks v.recordBytes), asChunks (asBlocks v.settingBytes),
   (List.range (ceilDiv l.length 255)).map (fun i => cacheChunk ((l.drop (255 * i)).take 255))]

/-- The estimator's state that an image carries (R374, R375). -/
def Chip.estimatorBytes (c : Chip) : Bytes :=
  let p := c.power
  leBytes 4 (Config.toReport (p.q * 1000)) ++ leBytes 2 (Config.toReport (p.k * 1000)) ++ leBytes 2 (Config.toReport (p.zc * 1000)) ++
    leBytes 2 (Config.toReport (p.zv * 1000)) ++ leBytes 1 p.learn ++ leBytes 1 (if p.mismatch then 1 else 0) ++
    leBytes 4 p.lastRestCycles ++ leBytes 6 p.lastRestMs

/-- First chunk and count of each section. -/
def sectionTable (l : List (List (List Bytes))) : List (Nat × Nat) :=
  (l.foldl (fun (a : List (Nat × Nat) × Nat) s => (a.1 ++ [(a.2, s.length)], a.2 + s.length)) ([], 0)).1

/-- The vault header (Table 13.4). -/
def VaultImage.header (v : VaultImage) (region : Nat) (table : List (Nat × Nat)) (crc : Nat) : Bytes :=
  let flags := (if region = 1 then 1 else 0) + (if v.striped then 2 else 0)
  sealRecord 106 (fit 4096 (leBytes 8 0x48965641554C5401 ++ leBytes 2 1 ++ leBytes 1 v.status ++ leBytes 1 flags ++ leBytes 8 v.serial ++
    leBytes 8 v.pairId ++ leBytes 4 v.epoch ++ leBytes 8 v.sealSeq ++ stampBytes v.cycles v.ms ++ leBytes 8 v.bytes ++
    leBytes 4 v.durationMs ++ leBytes 4 0 ++ (table.map (fun t => leBytes 4 t.1 ++ leBytes 4 t.2)).flatten ++ leBytes 8 crc))

/-- Where chunk `n` goes: the drive and its block (R365). -/
def VaultImage.place (v : VaultImage) (region n : Nat) : Nat × Nat :=
  match v.drives with
  | [a, b] => (if n % 2 = 0 then a else b, regionBase region + 1 + n / 2 * chunkBlocks)
  | l => (l.headD 0, regionBase region + 1 + n * chunkBlocks)

/-! ### Taking the image -/

/-- What the chip holds that a vault saves, as the header of a vault that begins says (R364 to R366). [DEDUCED, notes/assumptions/87.md] -/
def Chip.imageNow (c : Chip) (drives : List Nat) : VaultImage :=
  let start := c.power.vaultNs.getD c.clk.opNs
  let entries := c.journal.survivors.map (fun t => (t.1, { t.2 with state := t.2.sealed_ }))
  let blocks := (c.cache.blocks.map (fun b => (b.1, (keptVersions (entries.map Prod.fst) b.2).filter (fun w =>
    w.isDirty)))).filter (fun b => !b.2.isEmpty)
  { status := 1, striped := decide (drives.length = 2), serial := Config.unitSerial, pairId := if c.paired then c.pair.pairId else 0
    epoch := c.pair.epoch, sealSeq := c.journal.sealSeq, cycles := c.clk.cycles, ms := start / 1000000, bytes := 0, durationMs := 0
    journal := entries.filter (fun t => !(c.power.lostSlots.any (fun l => decide (l.1 = t.1)))), blocks
    pages := (c.pistes.map (fun p => (p.1, p.2.pages.filter (fun g => g.2.dirty)))).filter (fun p => !p.2.isEmpty)
    relocPages := (c.pistes.map (fun p => (p.2.rebuild.slots.zipIdx.map (fun r => r.1.unwritten.map (fun t =>
      (p.1, r.2, (if t.1 % 2 = 0 then t.1 / 2 else ceilDiv (c.zoneFigures p.2 r.1.index).2.2 256 + t.1 / 2), r.1.page t.1)))).flatten)).flatten
    rebuilds := c.livePistes.map (fun p => (p.1, p.2.rebuild, p.2.fall)), logs := c.logs, lostRanges := c.cache.lostRanges
    lostStripes := c.cache.lostStripes, deferred := c.cqi.deferred, nextDeferred := c.cqi.nextDeferred, nextAcc := c.cqi.nextAcc
    eventSeq := c.cqi.eventSeq, recSeq := c.recorder.seq, lostSlots := c.power.lostSlots, lostBlocks := c.power.vaultLost
    settings := c.dict.uncommitted, estimator := c.estimatorBytes, drives, dirGen := c.dir.generation, directory := c.directoryNow }

/-- Write an image's headers. [DEDUCED, notes/assumptions/87.md] -/
def Chip.writeHeaders (c : Chip) (region : Nat) (v : VaultImage) (table : List (Nat × Nat)) (crc : Nat) (fua : Bool) : Chip :=
  c.each v.drives (fun c s => c.vaultWrite s (regionBase region) [v.header region table crc] fua (2 ^ 33))

/-- The image begins: headers with WRITING, then every chunk in order. [DEDUCED, notes/assumptions/76.md] -/
def Chip.beginImage (c : Chip) : Chip :=
  let r := c.power.vaultRegion
  let v := c.imageNow c.power.vaultDrives
  let parts := v.sections
  let chunks := parts.flatten
  let v := { v with bytes := chunks.length * 1048576 }
  let c := c.setImage r v
  let c := c.writeHeaders r v (sectionTable parts) 0 false
  (chunks.foldl (fun (a : Chip × Nat) x =>
    let t := v.place r a.2
    (a.1.vaultWrite t.1 t.2 x false a.2, a.2 + 1)) (c, 0)).1

/-- The headers after the last chunk: COMPLETE, with the CRC-64 over every chunk (R366). -/
def Chip.finishImage (c : Chip) (durationMs : Nat) : Chip :=
  let r := c.power.vaultRegion
  let v := { c.image r with status := 2, durationMs }
  let parts := v.sections
  (c.setImage r v).writeHeaders r v (sectionTable parts) (crc64 (parts.flatten.flatten.flatten)) true

end Sys2Proof.Machine
end

