-- ==== Sys2Proof/Machine/Power.lean ====
section
/-! DEFINITION. The input rail and its supply states (R358 to R363), the vault and the watch (R295, R296, R364 to R369), and the end of
a vault test (R383). -/

namespace Sys2Proof.Machine

/-! ### Brace (R361) -/

/-- A stay in BRACE ends: its lowest VIN is kept, and its record posted. -/
def Chip.endBrace (c : Chip) : Chip :=
  if c.power.supply = .brace then
    (c.setVal 0x4407 0 c.power.braceMin).record 0x70A none (leBytes 2 c.power.braceMin ++ leBytes 4 c.power.braceLaps)
  else c

/-- VIN_WARN: the warn level is reached. -/
def Chip.vinWarn (c : Chip) (mv : Nat) : Chip :=
  if !c.clk.running ∨ c.power.supply ≠ .normal ∨ c.val 0x4400 < mv then c
  else
    let c := c.onPower (fun p => { p with supply := .brace, vinNow := mv, goodLaps := 0, braceLaps := 0, braceMin := mv })
    ((((c.bump 0x4406).stirPause).chargerLap).ltrCheck).supplyRecord 9

def execVinWarn (mv : Nat) (s : State) : Host.Outcome State Fault Refusal := s.effect (fun c => c.vinWarn mv)

/-- BRACE_EXIT: 4 complete laps with every sample at or above warn + 200 mV; EXPOSED ends in the same way (R363). -/
def Chip.braceExit (c : Chip) : Chip :=
  if c.braced ∧ 4 ≤ c.power.goodLaps then
    ((c.endBrace.onPower (fun p => { p with supply := .normal })).chargerLap).ltrCheck
  else c

def execBraceExit (s : State) : Host.Outcome State Fault Refusal := s.effect Chip.braceExit

/-- What a lap's samples of VIN_SENSE say. -/
def Chip.vinLap (c : Chip) (minMv meanMv : Nat) : Chip :=
  c.onPower (fun p => { p with
    vinNow := meanMv, vinMin := minMv, goodLaps := if c.val 0x4400 + 200 ≤ minMv then p.goodLaps + 1 else 0
    braceLaps := p.braceLaps + 1, braceMin := min p.braceMin minMv })

/-! ### The vault's figures (R367) -/

/-- Energy taken from the cells in a time, in mJ. -/
def Chip.vaultEnergy (c : Chip) (ms : Nat) : Nat := Config.toReport (ratio (c.packPb * (ms : Rat)) (packEta c.pack))

/-- The four figures, and their write to both flashes. -/
def Chip.vaultFigures (c : Chip) (result bytes ms : Nat) : Chip :=
  let c := (((c.setVal 0x4442 0 result).setVal 0x4443 0 bytes).setVal 0x4444 0 ms).setVal 0x4445 0 (c.vaultEnergy ms)
  (c.onPower (fun p => { p with figStored := c.lap })).emit (.flashWrite 5)

/-- Milliseconds since the vault began. -/
def Chip.vaultMs (c : Chip) : Nat := (c.clk.opNs - c.power.vaultNs.getD c.clk.opNs) / 1000000

/-- Bytes of the image on the drives so far: only the drives tell. -/
def Chip.vaultSoFar (c : Chip) : Nat × Chip :=
  if c.power.vaultStep < 4 then (0, c) else
    let d := c.drawn
    (Config.vaultWritten d.1, d.2)

/-! ### Messages to the partner (R353) -/

/-- This unit vaults as the holder of a pair. -/
def Chip.vaultHolder (c : Chip) : Bool := c.paired && decide (c.power.vaultRegion = 0) && decide (c.pair.partnerSerial ≠ 0)

def Chip.vaultHead (c : Chip) : Bytes := leBytes 8 c.pair.pairId ++ leBytes 4 c.pair.epoch ++ leBytes 1 c.power.vaultRegion

/-- VAULT_HB, once per lap; one that still waits for its answer is not overtaken. -/
def Chip.vaultLap (c : Chip) : Chip :=
  if c.power.vaultStep = 0 then c
  else
    let w := c.vaultSoFar
    let c := w.2
    let c := if c.vaultHolder ∧ c.adp.toPartner.outstanding.isNone ∧ !c.power.safeVault then
        c.request false 0x21 (c.vaultHead ++ leBytes 3 0 ++ leBytes 8 w.1 ++ leBytes 8 c.power.vaultDirty)
      else c
    if c.power.figStored + 1024 ≤ c.lap then c.vaultFigures 2 w.1 c.vaultMs else c

/-- VAULT_END. [DEDUCED, notes/assumptions/68.md] -/
def Chip.sendVaultEnd (c : Chip) (result bytes : Nat) : Chip :=
  if c.vaultHolder ∧ !c.power.safeVault then
    c.request false 0x22 (c.vaultHead ++ leBytes 1 result ++ leBytes 3 0 ++ leBytes 8 (c.image c.power.vaultRegion).sealSeq ++ leBytes 8 bytes)
  else c

/-! ### The vault (R364) -/

/-- The unit has nothing more to write on backup. [DEDUCED, notes/assumptions/76.md] -/
def Chip.enterDown (c : Chip) : Chip :=
  c.onPower (fun p => { p with supply := .down, vaultStep := 0 })

/-- A vault has ended: on backup the unit goes down; a safe-state vault leaves its result (R418). [DEDUCED, notes/assumptions/77.md] -/
def Chip.vaultOver (c : Chip) (result : Nat) : Chip :=
  let c := if c.power.safeVault then (c.setVal 0x4C33 0 result).onPower (fun p => { p with safeVault := false, vaultStep := 0 }) else c
  if c.power.supply = .vault then c.enterDown else c

/-- A vault that cannot go on is FAILED: its header stays WRITING. [DEDUCED, notes/assumptions/77.md] -/
def Chip.vaultFails (c : Chip) : Chip :=
  let w := c.vaultSoFar
  let c := w.2.vaultFigures 2 w.1 w.2.vaultMs
  ((c.sendVaultEnd 1 w.1).supplyRecord 12).vaultOver 2

/-- A vault begins: counted, its result FAILED until it ends, the commands ended, the button's windows dropped.
[DEDUCED, notes/assumptions/76.md] -/
def Chip.startVault (c : Chip) (region : Nat) (safe : Bool) : Chip :=
  let drives := c.vaultUp
  let c := ((c.scrubOver 2).bump 0x4441).dropWindows
  let c := if safe then c else c.endCommands.applyWhole
  let c := c.onPower (fun p => { p with
    supply := if safe then p.supply else .vault, safeVault := safe, vaultNs := some c.clk.opNs, vaultStep := 1
    vaultDirty := c.dirtyBytes, vaultRegion := region, vaultDrives := drives, recovered := false, test := none, vaultLost := [] })
  let c := (c.vaultFigures 2 0 0).supplyRecord 11
  let c := if !safe ∧ c.leads ∧ c.pair.formed then c.onPair (fun p => { p with vaultStart := true }) else c
  if drives.isEmpty then c.vaultFails else c

/-- The lanes of the host, the ring, P and every non-vault member port go down; their commands are abandoned.
[DEDUCED, notes/assumptions/76.md] -/
def Chip.lanesDown (c : Chip) : Chip :=
  let c := c.onHost (fun h => { h with ready := false, reads := [], toRead := [], quarantine := [], speed := 0, width := 0, flit := false })
  let c := c.onRing (fun r => { r with ports := r.ports.mapVal (fun _ p => { p with pstate := 0, lanes := 0 }) })
  let c := { c with gathers := [] }
  { c with members := c.members.mapVal (fun s m => if s ∈ c.vaultSlots then m else
      { m with linkUp := false, linkSpeed := 0, linkWidth := 0, outstanding := [], queues := List.replicate 8 [] }) }

/-- The chip is held in reset: its links are down, its clock stands, and the outputs to the power path are low (R449).
[DEDUCED, notes/assumptions/80.md] -/
def Chip.heldInReset (c : Chip) (powered : Bool) : Chip :=
  let c := c.aside (fun c =>
    let c := c.lanesDown
    let c := c.onAdp (fun a => { a with astate := 0 })
    let c := c.onPower (fun p => { p with holdup := false, chgEn := false, packSw := false, vaultStep := 0, resetHeld := false })
    let c := c.onStart (fun k => { k with due := .none, powered })
    { c with members := c.members.mapVal (fun _ m => { m with linkUp := false, outstanding := [], queues := List.replicate 8 [] }) })
  { c with clk := { c.clk with running := false } }

/-- What the command leads to (R439, R449); after a loss of power a cold power-on follows (R368, R447). [DEDUCED, notes/assumptions/80.md] -/
def Chip.resetSettle (c : Chip) : Chip :=
  match c.start.due with
  | .none => c
  | .restart kind i => c.restart kind i
  | .unit kind => c.unitRestart kind
  | .held => c.heldInReset c.start.powered
  | .lost => c.heldInReset false

/-- Ask for what the command leads to. -/
def Chip.leadsTo (c : Chip) (d : AfterEffect) : Chip := c.onStart (fun k => { k with due := d })

/-- The next state of a command that may reset the unit or hold it in reset. [DEDUCED, notes/assumptions/12.md] -/
def State.resetEffect (s : State) (f : Chip → Chip) : Host.Outcome State Fault Refusal :=
  s.clockEffect (fun c => ((c.aside f).ringSettle).resetSettle)

/-- What DOWN leads to: the RESET_N held off (R440), the unit reset, or the loss of power. [DEDUCED, notes/assumptions/76.md] -/
def Chip.settleDown (c : Chip) : Chip :=
  let p := c.power
  let safe := decide (c.val 0x4401 < p.vinNow)
  if !safe ∧ !p.recovered then c.leadsTo .lost
  else if p.resetHeld then
    let c := c.record 0xB11
    c.leadsTo (if c.start.resetN then .held else .restart 1 c.inputsNow)
  else if p.recovered then c.leadsTo (.unit 2)
  else c

/-- The vault's steps at a boundary (Table 13.3). -/
def Chip.vaultStride (c : Chip) : Chip :=
  let p := c.power
  let t := p.vaultNs.getD c.clk.opNs
  if p.supply = .down then c.settleDown
  else if p.vaultStep = 1 then
    if p.supply = .vault then
      let c := if c.leads ∧ c.paired ∧ c.pair.leaseNs.isSome then (c.sendLease 6).onPair (fun p => { p with leaseNs := none, pursue := 0 }) else c
      (c.stopEngines).onPower (fun p => { p with vaultStep := 2 })
    else (c.onPower (fun p => { p with vaultStep := 4 })).beginImage
  else if p.vaultStep = 2 ∧ t + 1000000 ≤ c.clk.opNs then c.lanesDown.onPower (fun p => { p with vaultStep := 3 })
  else if p.vaultStep = 3 ∧ t + 2000000 ≤ c.clk.opNs then (c.onPower (fun p => { p with vaultStep := 4 })).beginImage
  else c

/-! ### The switch level (R362, R363, R295, R296) -/

/-- How long a STANDBY watches, in ns: 1.25 x dirty / rate_v + t_fixed + 1 s (R296). -/
def Chip.watchLimit (c : Chip) : Nat :=
  let dirty := match c.pair.lastHb with | some h => h.dirtyBytes | none => 0
  ceilDiv (5 * dirty * 1000) (4 * max 1 c.rateV) + c.val 0x2418 * 1000000 + 1000000000

/-- The unit's own data is at hand: replay has taken its source. [DEDUCED, notes/assumptions/75.md] -/
def Chip.hasData (c : Chip) : Bool := decide (c.start.phase = 5) || c.start.replayed

/-- On backup, by role. [DEDUCED, notes/assumptions/75.md] -/
def Chip.toBackup (c : Chip) : Chip :=
  if c.power.safeVault then (c.lanesDown.stopEngines).onPower (fun p => { p with supply := .vault })
  else if c.leads ∧ c.hasData then c.startVault 0 false
  else if c.pair.role = .standby then
    match c.pair.lastHb with
    | some h =>
      if h.vaultStart then
        let c := c.onPair (fun p => { p with watchNs := some c.clk.opNs, watchHbNs := c.clk.opNs, watchLimitNs := c.watchLimit, pursue := 0, lastOp := 0 })
        (c.dropWindows.lanesDown.stopEngines).onPower (fun p => { p with supply := .watch, recovered := false })
      else (c.onPair (fun p => { p with leaving := true, pursue := 0, lastOp := 0 })).enterDown
    | none => (c.onPair (fun p => { p with leaving := true, pursue := 0, lastOp := 0 })).enterDown
  else c.enterDown

/-- VIN_SWITCH: the switch level is reached. Before the 150 ms step it causes no vault (R442). -/
def Chip.vinSwitch (c : Chip) (mv : Nat) : Chip :=
  if !c.clk.running ∨ c.onBackup ∨ c.val 0x4401 < mv then c
  else
    let c := c.onPower (fun p => { p with vinNow := mv, goodLaps := 0, braceMin := if c.braced then min p.braceMin mv else mv })
    if c.power.packState = 1 then
      let c := c.endBrace.stirPause
      -- a test stops: a real vault overwrites its region
      let c := c.onPower (fun p => { p with holdup := true, chgEn := false, charger := 5, test := none, recovered := false
                                            restNs := c.clk.opNs })
      c.toBackup
    else if c.power.supply = .exposed then c
    else
      (((c.endBrace.onPower (fun p => { p with supply := .exposed })).stirPause).chargerLap.ltrCheck).supplyRecord 13

def execVinSwitch (mv : Nat) (s : State) : Host.Outcome State Fault Refusal := s.effect (fun c => c.vinSwitch mv)

/-- VIN_RESET: an exposed unit is held in reset (R363). -/
def Chip.vinReset (c : Chip) (mv : Nat) : Chip :=
  if c.power.supply = .exposed ∧ !c.power.holdup ∧ mv ≤ c.val 0x4402 then
    (c.onPower (fun p => { p with vinReset := true, vinNow := mv })).leadsTo .held
  else c

def execVinReset (mv : Nat) (s : State) : Host.Outcome State Fault Refusal := s.resetEffect (fun c => c.vinReset mv)

/-- VIN_RESET_RELEASE: the unit starts as after RESET_N. -/
def execVinResetRelease (s : State) : Host.Outcome State Fault Refusal :=
  s.resetEffect (fun c => if c.power.vinReset then c.leadsTo (.restart 1 c.inputsNow) else c)

/-! ### Ends of a vault -/

/-- VAULT_COMPLETE: the last chunk is durable. -/
def Chip.vaultComplete (c : Chip) (durationMs : Nat) : Chip :=
  if c.power.vaultStep ≠ 4 then c
  else
    let drives := c.power.vaultDrives
    let c := (c.finishImage durationMs).flushByVault drives
    let bytes := (c.image c.power.vaultRegion).bytes
    let c := c.vaultFigures 1 bytes durationMs
    let c := if c.power.supply = .vault then c.each drives (fun c s => c.emit (.memberCommand s
        { id := 0, cls := 0, op := .shutdown, bytes := 0, deadline := none, admitted := c.clk.opNs, aborted := none, readSeq := 0
          purpose := .none }))
      else c
    ((c.onPower (fun p => { p with wroteMs := durationMs })).sendVaultEnd 0 bytes).vaultOver 1

def execVaultComplete (durationMs : Nat) (s : State) : Host.Outcome State Fault Refusal := s.effect (fun c => c.vaultComplete durationMs)

/-- VAULT_CUTOFF: BKP_VSENSE at v_cut for 16 samples. -/
def Chip.vaultCutoff (c : Chip) : Chip :=
  if c.power.supply = .vault ∧ c.power.vaultStep ≠ 0 then (c.onPower (fun p => { p with packState := 4 })).vaultFails else c

def execVaultCutoff (s : State) : Host.Outcome State Fault Refusal := s.effect Chip.vaultCutoff

/-- VAULT_DRIVE_LOST: the image is no longer whole. -/
def Chip.vaultDriveLost (c : Chip) (drive : Nat) : Chip :=
  if c.power.vaultStep ≠ 0 ∧ drive ∈ c.power.vaultDrives then c.vaultFails else c

def execVaultDriveLost (drive : Nat) (s : State) : Host.Outcome State Fault Refusal := s.effect (fun c => c.vaultDriveLost drive)

/-- VAULT_INPUT_RECOVERED: noted during a vault or a watch; in DOWN the unit resets (R368). -/
def Chip.inputRecovered (c : Chip) : Chip :=
  let p := c.power
  if p.supply = .down then (c.onPower (fun p => { p with recovered := true })).settleDown
  else if (p.supply = .vault ∨ p.supply = .watch) ∧ 4 ≤ p.goodLaps then c.onPower (fun p => { p with recovered := true })
  else c

def execVaultInputRecovered (s : State) : Host.Outcome State Fault Refusal := s.resetEffect Chip.inputRecovered

/-! ### The watch (R296) -/

/-- A STANDBY in watch vaults its own copy to region 1. -/
def Chip.watchVaults (c : Chip) : Chip := (c.onPair (fun p => { p with watchNs := none })).startVault 1 false

/-- WATCH_HB_LOSS: no VAULT_HB for 8 laps. -/
def Chip.watchHbLoss (c : Chip) : Chip :=
  if c.power.supply = .watch ∧ c.pair.watchHbNs + 8 * c.lapNs ≤ c.clk.opNs then c.watchVaults else c

def execWatchHbLoss (s : State) : Host.Outcome State Fault Refusal := s.effect Chip.watchHbLoss

/-- WATCH_DEADLINE: no vault-end notice in time. -/
def Chip.watchDeadline (c : Chip) : Chip :=
  match c.pair.watchNs with
  | some t => if c.power.supply = .watch ∧ t + c.pair.watchLimitNs ≤ c.clk.opNs then c.watchVaults else c
  | none => c

def execWatchDeadline (s : State) : Host.Outcome State Fault Refusal := s.effect Chip.watchDeadline

/-- VAULT_HB: the holder is at work. -/
def execVaultHb (frame : AdpFrame) (s : State) : Host.Outcome State Fault Refusal :=
  s.effect (fun c => c.inSession frame (fun c =>
    let c := if leAt frame.body 0 8 = c.pair.pairId ∧ c.power.supply = .watch then c.onPair (fun p => { p with watchHbNs := c.clk.opNs }) else c
    c.answerFrame frame 0 []))

/-- The image a partner has written, as this unit's synced copy tells it (R290, R297). [DEDUCED, notes/assumptions/76.md] -/
def Chip.partnerImage (c : Chip) (region epoch sealed bytes : Nat) : Chip :=
  c.setImage region { c.imageNow c.vaultUp with status := 2, serial := c.pair.partnerSerial, epoch, sealSeq := sealed, bytes }

/-- VAULT_END: the watch ends; a failed vault is made good to region 1. -/
def Chip.vaultEnded (c : Chip) (b : Bytes) : Chip :=
  if c.power.supply ≠ .watch ∨ leAt b 0 8 ≠ c.pair.pairId then c
  else if leAt b 13 1 = 0 then
    (((c.partnerImage (leAt b 12 1) (leAt b 8 4) (leAt b 17 8) (leAt b 25 8)).onPair (fun p => { p with watchNs := none }))).enterDown
  else c.watchVaults

def execVaultEnd (frame : AdpFrame) (s : State) : Host.Outcome State Fault Refusal :=
  s.effect (fun c => c.inSession frame (fun c => (c.vaultEnded frame.body).answerFrame frame 0 []))

/-! ### VAULT_TEST (R383) -/

/-- VAULT_TEST_END: the rate is kept; the hold-up stage, where it ran, gives the resistance factor. [DEDUCED, notes/assumptions/49.md] -/
def Chip.vaultTestEnd (c : Chip) (rate mib ms : Nat) (sag : Option Nat) : Chip :=
  match c.power.test with
  | none => c
  | some slot =>
    let d := c.pack
    let vm := (c.power.packUv : Rat) / 1000000
    let ran := c.power.holdup
    let k : Rat := match sag with
      | some uv => ratio ((uv : Rat) / 1000000) (ratio c.packPb (packEta d * vm) * packRs d c.power.tempDc)
      | none => 0
    let weak : Bool := match sag with | some uv => decide (c.power.packUv - uv < (packCutMv d + 300) * 1000) | none => false
    let drives := c.vaultSlots.filter c.vaultDriveUp
    let detail := leBytes 4 rate ++ leBytes 4 mib ++ leBytes 4 ms ++
      leBytes 2 (if ran ∧ sag.isSome then Config.toReport (k * 1000) else 0) ++
      leBytes 1 (if !ran ∨ sag.isNone then 0 else if weak then 2 else 1) ++
      leBytes 1 ((if c.vaultSlots.headD 0 ∈ drives then 1 else 0) + (if (c.vaultSlots.getD 1 0) ∈ drives then 2 else 0))
    let c := (c.setVal 0x2417 0 rate).onPower (fun p => { p with test := none, holdup := false })
    let c := if ran ∧ weak then (c.onPower (fun p => { p with k })).keepLearned.supplyRecord 14 else c
    if (c.handle slot).cancelling then c.endHandle slot 3 0x0108 detail else c.endHandle slot 1 0 detail

def execVaultTestEnd (rateMbs writtenMib durationMs : Nat) (sagUv : Option Nat) (s : State) : Host.Outcome State Fault Refusal :=
  s.effect (fun c => c.vaultTestEnd rateMbs writtenMib durationMs sagUv)

end Sys2Proof.Machine
end

