-- ==== Sys2Proof/Machine/Mem.lean ====
section
/-! DEFINITION. Memory integrity: corrected errors with their buckets, hard faults and retired pages (R391 to R393, R397 to R401),
uncorrectable errors and their outcomes by content (R394 to R396, R106 to R108, R461), the narrow-write buffer (R389, R390) and
scrubbing (R402 to R404). -/

namespace Sys2Proof.Machine

/-! ### Regions -/

/-- A region of LPDDR6 (Table 14.2). -/
def isLpddr (region : Nat) : Bool := decide (region < 48)

def Chip.updRegion (c : Chip) (r : Nat) (f : Region → Region) : Chip :=
  c.onMem (fun m => { m with regions := m.regions.upd r Region.reset f })

/-- A vault runs: no page is retired, and no mirror is at hand (R396, R405). -/
def Chip.vaulting (c : Chip) : Bool := c.onBackup || decide (c.power.vaultStep ≠ 0)

/-! ### Retiring pages (R400, R401) -/

/-- The page of an LPDDR6 address. -/
def pageOf (address : Nat) : Nat := address / 4096 * 4096

/-- Retire a page; with the spare pool used up, the fault is sent and nothing is retired. -/
def Chip.retirePage (c : Chip) (region page : Nat) : Chip :=
  if page ∈ c.mem.retired then c
  else if c.vaulting then c.onMem (fun m => { m with postponed := addNew m.postponed page })
  else if 4096 ≤ c.mem.retired.length then c.faultAndClear region 0x14 (some page)
  else (c.onMem (fun m => { m with
      retired := m.retired ++ [page], history := m.history.filter (fun h => decide (h.1 ≠ page))
      scrub := if m.scrub.state = 1 then { m.scrub with retired := m.scrub.retired + 1 } else m.scrub })).emit (.flashWrite 7)

/-- Retirements that a vault postponed. [DESIGN CHOICE, notes/assumptions/83.md] -/
def Chip.retirePostponed (c : Chip) : Chip :=
  if c.vaulting then c
  else (c.onMem (fun m => { m with postponed := [] })).each c.mem.postponed (fun c p => c.retirePage 0 p)

/-- A corrected error on a page: its distinct laps within the window; the history keeps the 256 newest pages. -/
def Chip.pageCorrected (c : Chip) (region page : Nat) : Chip :=
  let old := match c.mem.history.find? (fun h => decide (h.1 = page)) with | some h => h.2 | none => []
  let laps := addNew (old.filter (fun l => decide (c.lap < l + c.val 0x4824))) c.lap
  let c := c.onMem (fun m => { m with history := ((page, laps) :: m.history.filter (fun h => decide (h.1 ≠ page))).take 256 })
  if c.val 0x4823 ≤ laps.length then c.retirePage region page else c

/-! ### Hard faults in SRAM (R398, R399) -/

/-- An SRAM address taken apart: the row is the word, the column the bit. [DESIGN CHOICE, notes/assumptions/83.md] -/
def hardEntry (hard : List (Nat × Nat × Nat)) (region address bit : Nat) : Nat × Nat × Nat :=
  if hard.any (fun h => decide (h.1 = region) && decide (h.2.2 = bit) && decide (h.2.1 ≠ address)) then (region, bit, 1)
  else (region, address, 0)

/-- Record a hard fault: a soft-fuse entry where the map has room, and the stride-buffer slice withdrawn.
[DESIGN CHOICE, notes/assumptions/83.md] -/
def Chip.hardFault (c : Chip) (region address bit : Nat) : Chip :=
  let e := hardEntry c.mem.hard region address bit
  let new := decide (e ∉ c.mem.softFuse) && decide (c.mem.softFuse.length < 256)
  let slice := (region - 48) * 8388608 + address / 4096 * 4096
  let drop := decide (48 ≤ region) && decide (region < 56) && decide (slice ∉ c.mem.withdrawn) && decide (c.mem.withdrawn.length < 256)
  let c := c.onMem (fun m => { m with
    hard := m.hard ++ [(region, address, bit)]
    softFuse := if new then m.softFuse ++ [e] else m.softFuse
    pendingFuses := if new then m.pendingFuses + 1 else m.pendingFuses
    withdrawn := if drop then m.withdrawn ++ [slice] else m.withdrawn })
  (if new then c.emit (.flashWrite 8) else c).record 0x802 (some region)

/-! ### Corrected errors (R392, R393) -/

/-- The bucket of a region fills; past its threshold an armed region reports. -/
def Chip.fillBucket (c : Chip) (region address : Nat) : Chip :=
  let r := c.region region
  let n := min 255 (r.bucket + 1)
  let past := r.armed && decide (c.val 0x4811 region < n)
  let c := c.updRegion region (fun r => { r with bucket := n, armed := r.armed && !past })
  if past then ((c.faultTake region 0x10 (some address) false).bump 0x4815 region).selfClear region else c

/-- The third duty of a lap (Table 2.5): every bucket leaks, and a region whose bucket has fallen far enough is armed again. -/
def Chip.leakBuckets (c : Chip) : Chip :=
  c.onMem (fun m => { m with regions := m.regions.mapVal (fun i r =>
    let n := r.bucket - c.val 0x4812 i
    { r with bucket := n, armed := r.armed || decide (n ≤ c.val 0x4811 i / 2) }) })

/-- An address of an LPDDR6 or SRAM range under a running scrub. [DEDUCED, notes/assumptions/85.md] -/
def Scrub.covers (s : Scrub) (region address : Nat) : Bool :=
  decide (s.state = 1) && (if s.target = 0 then isLpddr region else decide (s.region = region)) && decide (s.first ≤ address) &&
    decide (address < s.first + s.length)

/-- The poison bit of a line (R388): set by a partial write over old bytes that are uncorrectable, ended by a write that covers the
line. [DESIGN CHOICE, notes/assumptions/84.md] -/
def Chip.setPoison (c : Chip) (region address : Nat) (on : Bool) : Chip :=
  if !isLpddr region then c
  else
    let line := address / 64 * 64
    c.onMem (fun m => { m with poisoned := if on then addNew m.poisoned line else m.poisoned.filter (fun l => decide (l ≠ line)) })

/-- A line has poison set. -/
def Chip.poisoned (c : Chip) (region address : Nat) : Bool := isLpddr region && decide (address / 64 * 64 ∈ c.mem.poisoned)

/-- MEMORY_CORRECTED. A poisoned line is never correctable (R388): one that is corrected has been covered by a write since. -/
def Chip.memoryCorrected (c : Chip) (region address bit : Nat) : Chip :=
  if 64 ≤ region then c
  else
    let c := c.setPoison region address false
    let c := (c.bump (if isLpddr region then 0x4801 else 0x4803)).bump 0x4813 region
    let c := c.onMem (fun m => { m with scrub := if m.scrub.covers region address then { m.scrub with corrected := m.scrub.corrected + 1 } else m.scrub })
    if isLpddr region then (c.fillBucket region address).pageCorrected region (pageOf address)
    else if (region, address, bit) ∈ c.mem.hard then c
    else if (region, address, bit) ∈ c.mem.corrected then c.hardFault region address bit
    else (c.onMem (fun m => { m with corrected := m.corrected ++ [(region, address, bit)] })).fillBucket region address

def execMemoryCorrected (region address bit : Nat) (s : State) : Host.Outcome State Fault Refusal :=
  s.effect (fun c => c.memoryCorrected region address bit)

/-! ### A vault image under way (R396) -/

/-- Change the image being written: the chunks that differ are written again. [DEDUCED, notes/assumptions/87.md] -/
def Chip.reviseImage (c : Chip) (f : VaultImage → VaultImage) : Chip :=
  if c.power.vaultStep ≠ 4 then c
  else
    let r := c.power.vaultRegion
    let old := c.image r
    let was := old.sections.flatten
    let new := f old
    let now := new.sections.flatten
    let c := c.setImage r { new with bytes := now.length * 1048576 }
    (now.foldl (fun (a : Chip × Nat) x =>
      let t := new.place r a.2
      (if was[a.2]? = some x then a.1 else a.1.vaultWrite t.1 t.2 x false a.2, a.2 + 1)) (c, 0)).1

/-! ### Outcomes by content (Table 14.3) -/

/-- A partner from which a copy can be read over P (R107): the holder's from its STANDBY, a STANDBY's from the holder.
[DEDUCED, notes/assumptions/82.md] -/
def Chip.copyAtHand (c : Chip) : Bool :=
  !c.vaulting && (c.hasStandby || (c.pair.role = .standby && c.pair.formed && !c.pair.silent))

/-- Mark a version of a block lost: its data is gone. -/
def Chip.markLost (c : Chip) (p b : Nat) (v : Version) : Chip :=
  c.setVersions p b ((c.versions p b).map (fun w => if w = v then { w with lost := true } else w))

/-- The data column and the block within the strip where an entry writes a host block. -/
def Chip.entryPlace (c : Chip) (e : Entry) (b : Nat) : Option (Nat × Nat) :=
  let x := c.piste e.piste
  if c.groomedEntry e then
    let gb := max 1 x.gb
    match e.change.find? (fun r => decide (r.granule = b / gb)) with
    | some r => some (x.columnOn (mapMember r.newEntry) e.stripeId.stripe, mapOffset r.newEntry % max 1 x.geom.b + b % gb)
    | none => none
  else
    let l := (x.geometry e.stripeId).locate b
    some (l.2.1, l.2.2)

/-- An entry carries zeros in the place of a lost block (R461): before it has computed, in what it freezes; afterwards P and Q are
made again from every data column, and once their parity_check is sealed the block's column, P and Q are written again; it advances no
further until they are. [DEDUCED, notes/assumptions/82.md] -/
def Chip.remakeEntry (c : Chip) (slot b : Nat) : Chip :=
  let e := c.entry slot
  match c.entryPlace e b with
  | none => c
  | some (col, off) =>
    let k := (c.entryGeom e).k
    let e := { e with overlay := e.overlay.put (col * 2 ^ 16 + off) zeroBlock }
    if e.state = .committed ∨ e.state = .free then c
    else if !e.computed then c.setEntry slot e
    else
      let again := [col, k, k + 1].filter (fun i => e.allMask.testBit i)
      let mine := fun (m : MCmd) => again.any (fun i => decide (m.purpose = .entryWrite slot i))
      let c := { c with members := c.members.mapVal (fun _ m => { m with
        queues := m.queues.map (fun (q : List MCmd) => q.filter (fun x => !mine x))
        outstanding := m.outstanding.map (fun x => if mine x then { x with purpose := .none } else x) }) }
      let whole := fun (i : Nat) => (List.range e.count).all (fun j => (e.overlay.find (i * 2 ^ 16 + (e.first + j))).isSome)
      let ask := (List.range k).filter (fun i => !whole i && (e.oldCols.find i).isNone)
      let c := c.setEntry slot { e with
        computed := false, delta := false, columns := [], touched := true, remade := true
        issued := e.issued.filter (fun i => decide (i ∉ again))
        again := maskOf ((bitsOf 32 e.again).foldl addNew (again.filter (fun i => e.stripMask.testBit i)))
        round := { e.round with sentWritten := false, rewrite := e.spanning } }
      if ask.isEmpty then c.entryWork slot else c.startGather (.entry slot) e.stripeId e.first e.count ask 4

/-- A DIRTY or FROZEN block with no copy to repair it (R108, R396, R461). [DEDUCED, notes/assumptions/82.md] -/
def Chip.dirtyLost (c : Chip) (p b : Nat) (v : Version) : Chip :=
  let c := c.markLost p b v
  if c.vaulting then
    let c := c.onPower (fun w => { w with vaultLost := if (p, b) ∈ w.vaultLost then w.vaultLost else w.vaultLost ++ [(p, b)] })
    c.reviseImage (fun i => { i with
      lostBlocks := c.power.vaultLost
      blocks := i.blocks.map (fun t => if t.1 = blockKey p b then (t.1, t.2.map (fun w => if w.acc = v.acc then { w with lost := true } else w)) else t) })
  else
    let c := c.reportLost p b
    if v.entry = 0 then c else c.remakeEntry (v.entry - 1) b

/-- The host buffers that hold a part of a transfer. -/
def spanPart : List (Nat × Nat × Bool) → Nat → Nat → List (Nat × Nat)
  | [], _, _ => []
  | s :: r, off, len =>
    if len = 0 then []
    else if s.2.1 ≤ off then spanPart r (off - s.2.1) len
    else
      let n := min len (s.2.1 - off)
      (s.1 + off, n) :: spanPart r 0 (len - n)

/-- A THROUGH block is fetched again from host memory; zeros need no fetch. -/
def Chip.throughAgain (c : Chip) (b : Nat) (v : Version) : Chip :=
  match c.cqi.cmds.find? (fun x => decide (x.acc = v.acc)) with
  | none => c
  | some x =>
    if x.opcode ≠ 2 then c
    else
      let off := (b - x.first) * 4096
      ((spanPart x.spans off 4096).foldl (fun (a : Chip × Nat) t => (a.1.wantRead (.refetch x.acc a.2) t.1 t.2, a.2 + t.2)) (c, off)).1.pumpReads

/-- A version of a cache block (R106 to R108): the newest, or the FROZEN one that stands under it. [DEDUCED, notes/assumptions/82.md] -/
def Chip.blockError (c : Chip) (p b : Nat) (frozen : Bool) : Chip :=
  let l := c.versions p b
  match (if frozen then l.find? (fun v => decide (v.state = .frozen)) else l.head?) with
  | none => c
  | some v =>
    if v.lost then c
    else if v.state = .clean then (c.setVersions p b (l.filter (fun w => decide (w ≠ v)))).bump 0x2480
    else if v.state = .through then c.throughAgain b v
    else if c.copyAtHand then c.bump 0x2481
    else c.dirtyLost p b v

/-- A map page: a clean one is read again; a dirty one comes from the partner, or its granules are lost. -/
def Chip.pageError (c : Chip) (p page : Nat) : Chip :=
  let m := (c.piste p).pages.getD page MapPage.reset
  let forget := fun (c : Chip) => c.updPiste p (fun x => { x with pages := x.pages.drop page })
  if !m.present then c
  else if !m.dirty then forget c
  else if c.copyAtHand then c
  else
    let c := (forget c).losePage p page
    c.reviseImage (fun i => { i with
      pages := i.pages.map (fun t => if t.1 = p then (t.1, t.2.drop page) else t), lostRanges := c.cache.lostRanges, deferred := c.cqi.deferred
      nextDeferred := c.cqi.nextDeferred })

/-- A relocation page: a clean one is read again; a dirty one comes from the partner, or reverts to what its area holds, and the granules
of the strips it maps are lost, with one deferred error. [DEDUCED, notes/assumptions/82.md] -/
def Chip.relocationError (c : Chip) (p e page : Nat) : Chip :=
  let x := c.piste p
  match x.slotOf e with
  | none => c
  | some r =>
    let zr := ceilDiv (c.zoneFigures x e).2.2 256
    let gone := r.reloc.filter (fun t => decide ((page - zr) * 512 ≤ t.1) && decide (t.1 < (page - zr + 1) * 512))
    let key := 2 * (page - zr) + 1
    if gone.isEmpty ∨ page < zr ∨ c.copyAtHand ∨ !r.unwritten.any (fun t => decide (t.1 = key)) then c
    else
      let gb := max 1 x.gb
      let maps := fun (g : Nat) =>
        let v := x.mapOf g
        let t := zoneStrips ((c.zonesOf x e).getD (mapZone v) Zone.reset).parityMode (c.zoneFigures x e).1 x.geom.b
        mapped v && decide (mapMember v = e) && (KMap.find gone (relocIndex (mapZone v) (mapOffset v) (max 1 x.geom.b) t)).isSome
      let lost := (x.held.vals.flatten).filter maps
      let c := c.updPiste p (fun x => { x with rebuild := { x.rebuild with slots := x.rebuild.slots.map (fun s =>
        if s.index = e then { s with
          unwritten := s.unwritten.filter (fun t => decide (t.1 ≠ key))
          reloc := (areaEntries (s.area.filter (fun t => decide (t.1 = key)))).foldl (fun m t => KMap.put m t.1 t.2)
            (s.reloc.filter (fun t => (KMap.find gone t.1).isNone)) } else s) } })
      match lost with
      | [] => c.deferError p 2 0 0 0xFFFFFFFF
      | g :: rest => (c.each rest (fun c h => c.addLostRange p (h * gb) gb)).reportLostRange p (g * gb) gb

/-- A journal slot: the other copy, then the partner; else the slot is lost with the unit's safe state (R394, R418). -/
def Chip.slotError (c : Chip) (slot : Nat) (other : Bool) : Chip × Bool :=
  if other ∨ c.copyAtHand then (c, false)
  else
    let e := c.entry slot
    (if e.state = .free then c
     else c.onPower (fun w => { w with lostSlots := if w.lostSlots.any (fun l => decide (l.1 = slot)) then w.lostSlots
                                                    else w.lostSlots ++ [(slot, e.piste, e.generation)] }), true)

/-- The companion index is treated as released: the zones it covers are groomed first (R115). [DEDUCED, notes/assumptions/82.md] -/
def Chip.companionError (c : Chip) : Chip :=
  c.each (c.livePistes.filter (fun p => p.2.groomed)) (fun c p =>
    let c := c.each p.2.companion (fun c g =>
      let z := g.1 / 2 ^ 20
      c.updMember (z / 2 ^ 24) (fun m => { m with zones := m.zones.upd (z % 2 ^ 24) Zone.reset (fun r => { r with repaired := true }) }))
    c.updPiste p.1 (fun x => { x with companion := [] }))

/-- A step that failed runs again from its inputs; the re-run is no overrun. -/
def Chip.stepAgain (c : Chip) (e : Nat) : Chip :=
  match (c.engine e).running with
  | [] => c
  | x :: r =>
    let g := c.engine e
    c.onSched (fun s => { s with
      engines := s.engines.put e { g with running := r, loaded := if s.frozen then x :: g.loaded else g.loaded
                                          overrunIds := g.overrunIds.filter (fun i => decide (i ≠ x.id)) }
      requests := if s.frozen then s.requests else x :: s.requests })

/-- A record of the recorder's buffer is dropped. -/
def Chip.recordError (c : Chip) (seq : Nat) : Chip :=
  if c.recorder.circ.any (fun r => decide (r.seq = seq)) then
    (c.onRec (fun k => { k with
      circ := k.circ.filter (fun r => decide (r.seq ≠ seq)), permanent := k.permanent.filter (fun r => decide (r.seq ≠ seq)) })).bump 0x5005
  else c

/-- The outcome of an uncorrectable error, and whether it is the safe state. [DESIGN CHOICE, notes/assumptions/84.md] -/
def Chip.memoryOutcome (c : Chip) : MemoryContent → Chip × Bool
  | .cacheBlock p b => (c.blockError p b false, false)
  | .frozenBlock p b => (c.blockError p b true, false)
  | .mapPage p page => (c.pageError p page, false)
  | .relocationPage p e page => (c.relocationError p e page, false)
  | .journalSlot slot other => c.slotError slot other
  | .vaultRecords other => (c, !other && !c.copyAtHand)
  | .zoneFigures p => (c.startCensus p, false)
  | .zoneRecord _ _ => (c, false)
  | .companionIndex => (c.companionError, false)
  | .strideBuffer => (c, false)
  | .engineLocal e => (c.stepAgain e, false)
  | .coreCode => (c, false)
  | .coreData => (c, true)
  | .recorderBuffer n => (c.recordError n, false)
  | .dictShadow => (c, false)
  | .other => (c, false)

/-! ### Uncorrectable errors (R394, R395) -/

/-- An uncorrectable error: its fault, its outcome, the halt of the channel in 1208 mode, the page retired. -/
def Chip.memoryUncorrectable (c : Chip) (region address : Nat) (content : MemoryContent) (channel : Option DmaChannel) : Chip :=
  if 64 ≤ region then c
  else
    let c := (c.bump (if isLpddr region then 0x4802 else 0x4804)).bump 0x4814 region
    let c := c.onMem (fun m => { m with scrub := if m.scrub.covers region address then
        { m.scrub with uncorrectable := m.scrub.uncorrectable + 1, firstUe := some (m.scrub.firstUe.getD address) } else m.scrub })
    let c := c.faultTake region 0x11 (some address) false
    let c := match channel with
      | some d => if c.val 0x4800 = 1 ∧ d ∉ c.mem.halted then
          (c.faultTake (dmaSource d) 0x12 (some address) false).onMem (fun m => { m with halted := m.halted ++ [d] }) else c
      | none => c
    let o := c.memoryOutcome content
    let c := if o.2 then o.1 else o.1.selfClear region
    if isLpddr region then c.retirePage region (pageOf address) else c

def execMemoryUncorrectable (region address : Nat) (content : MemoryContent) (channel : Option DmaChannel) (s : State) :
    Host.Outcome State Fault Refusal :=
  s.effect (fun c => c.memoryUncorrectable region address content channel)

/-- MERGE_ENTRY_TIMEOUT: the read-modify-write; what stood under uncorrectable old bytes takes its outcome (R389, R390).
[DESIGN CHOICE, notes/assumptions/84.md] -/
def execMergeEntryTimeout (entry region address : Nat) (oldCorrectable : Bool) (content : MemoryContent) (s : State) :
    Host.Outcome State Fault Refusal :=
  s.effect (fun c =>
    if 64 ≤ entry then c
    else if oldCorrectable then (c.bump 0x4805).setPoison region address false
    else ((c.bump 0x4805).memoryUncorrectable region address content none).setPoison region address true)

/-- The transfers that waited for the host's channel resume in order: READ data that stood ready, then reads of host memory. -/
def Chip.hostResumes (c : Chip) : Chip :=
  (c.each (c.cqi.cmds.filter (fun x => !x.dead && x.stage = .moving)) Chip.deliverRead).pumpReads

/-- DMA_HALT_RESTART: the fault is cleared, and the channel resumes with what waits for it; a member's commands are admitted from the
next boundary on (R395). -/
def Chip.channelRestarts (c : Chip) (d : DmaChannel) : Chip :=
  if c.halted d then
    let c := (c.onMem (fun m => { m with halted := m.halted.filter (fun x => decide (x ≠ d)) })).selfClear (dmaSource d)
    if d = .host then c.hostResumes else c
  else c

def execDmaHaltRestart (channel : DmaChannel) (s : State) : Host.Outcome State Fault Refusal :=
  s.effect (fun c => c.channelRestarts channel)

/-! ### Scrubbing (R402 to R404) -/

/-- Bytes of an SRAM region (Table 0.5, Table 14.2). [DESIGN CHOICE, notes/assumptions/83.md] -/
def sramRegionBytes (region : Nat) : Nat :=
  if region < 56 then 8388608 else if region < 60 then 3145728 else if region < 62 then 8388608 else 2097152

/-- The reason a scrub descriptor is refused for. -/
def Chip.scrubReason (c : Chip) (b : Bytes) : Nat :=
  let target := leAt b 0 1
  let region := leAt b 1 1
  let first := leAt b 8 8
  let length := leAt b 16 8
  let unit := if target = 0 then 64 else 8
  let size := if target = 0 then Config.lpddrBytes else sramRegionBytes region
  let bad := decide (b.length ≠ 24) || decide (1 < target) || (decide (target = 1) && !(decide (48 ≤ region) && decide (region ≤ 63))) ||
    decide (first % unit ≠ 0) || decide (length % unit ≠ 0) || decide (length = 0) || decide (size < first + length)
  if bad then 4 else if c.mem.scrub.state = 1 then 5 else 0

/-- The scrub that a descriptor asks for. -/
def Chip.scrubBegin (c : Chip) (b : Bytes) : Chip :=
  c.onMem (fun m => { m with scrub := { Scrub.reset with
    state := 1, target := leAt b 0 1, region := leAt b 1 1, repair := (leAt b 2 1).testBit 0, first := leAt b 8 8, length := leAt b 16 8
    startStride := c.clk.stride } })

/-- SCRUB_START. -/
def execScrubStart (descriptor : Bytes) (writer : Writer) (s : State) : Host.Outcome State Fault Refusal :=
  s.effect (fun c => c.command 0x4840 0 (leNat (descriptor.take 8)) writer (c.scrubReason descriptor) (fun c => c.scrubBegin descriptor))

/-- A running scrub is told to end. [DEDUCED, notes/assumptions/85.md] -/
def Chip.scrubStop (c : Chip) : Chip := c.onMem (fun m => { m with scrub := { m.scrub with cancel := decide (m.scrub.state = 1) } })

/-- SCRUB_CANCEL: the scrub ends at its next line. -/
def execScrubCancel (writer : Writer) (s : State) : Host.Outcome State Fault Refusal :=
  s.effect (fun c => c.command 0x4843 0 1 writer 0 Chip.scrubStop)

/-- SCRUB_END: cancelled, or complete. -/
def execScrubEnd (s : State) : Host.Outcome State Fault Refusal :=
  s.effect (fun c => c.scrubOver (if c.mem.scrub.cancel then 1 else 0))

/-- PATROL_SCRUB: the patrol reads on; past the last line a pass is complete. -/
def Chip.patrol (c : Chip) (lines : Nat) : Chip :=
  let last := Config.lpddrBytes
  let at_ := c.mem.patrol + 64 * lines
  if c.val 0x4848 = 0 then c
  else if at_ < last then c.onMem (fun m => { m with patrol := at_ })
  else (c.onMem (fun m => { m with patrol := at_ - last })).bump 0x4849

def execPatrolScrub (lines : Nat) (s : State) : Host.Outcome State Fault Refusal := s.effect (fun c => c.patrol lines)

end Sys2Proof.Machine
end

