-- ==== Sys2Proof/Machine/Faults.lean ====
section
/-! DEFINITION. The fault collector (R407 to R416) and the safe state (R417 to R419). -/

namespace Sys2Proof.Machine

/-! ### The supervisor pair (R416) -/

/-- The supervisor pair stops for good: a safe-state vault under way goes no further (R418). [DEDUCED, notes/assumptions/77.md] -/
def Chip.stopSupervisor (c : Chip) : Chip :=
  let c := c.onFaults (fun f => { f with stopped := true })
  if !c.power.safeVault then c
  else if c.power.vaultStep = 4 then c.vaultFails
  else c.vaultOver 3

/-- A direct message acts on the supervisor pair. -/
def Chip.directActs (c : Chip) (kind : Nat) : Chip :=
  if kind = 0x30 ∧ c.faults.lockstep = 0 then (c.onFaults (fun f => { f with lockstep := 1 })).bump 0x4C35
  else (if kind = 0x30 then c.onFaults (fun f => { f with lockstep := f.lockstep + 1 }) else c).stopSupervisor

/-! ### Entry (R417, R418) -/

/-- The cause as safe_cause holds it. -/
def Chip.causeBytes (c : Chip) (message occurrence reason : Nat) : Bytes :=
  fit 32 (leBytes 8 message ++ leBytes 4 occurrence ++ leBytes 1 reason ++ leBytes 3 0 ++ stampBytes c.clk.cycles c.nowMs)

/-- SAFE_NOTICE. -/
def Chip.safeNotice (c : Chip) (message : Nat) : Bytes :=
  leBytes 8 Config.unitSerial ++ leBytes 8 c.pair.pairId ++ leBytes 4 c.pair.epoch ++ leBytes 4 0 ++ leBytes 8 message ++
    stampBytes c.clk.cycles c.nowMs

/-- Every accepted, uncompleted command ends with 0x0301; writes change no block (R75). -/
def Chip.endAllSafe (c : Chip) : Chip :=
  c.each (c.cqi.cmds.filter (fun x => !x.dead)) (fun c x => if x.isWrite then c.failWrite x 0x0301 else c.endCmd x 0x0301)

/-- A safe-state vault is required: data of its own, and no SYNCED STANDBY within reach (R418). -/
def Chip.safeVaultDue (c : Chip) (wasStandby synced : Bool) : Bool :=
  !wasStandby && !synced && (decide (0 < c.dirtyBytes) || !c.journal.survivors.isEmpty)

/-- The safe-state vault, where it is required; a power vault that runs is the image already. -/
def Chip.safeVault (c : Chip) (wasStandby synced : Bool) : Chip :=
  if c.onBackup ∨ !c.safeVaultDue wasStandby synced then c.setVal 0x4C33 0 0
  else if c.faults.stopped then c.setVal 0x4C33 0 3
  else c.startVault 0 true

/-- The safe state is entered (Table 15.5). [DEDUCED, notes/assumptions/86.md] -/
def Chip.enterSafe (c : Chip) (message occurrence reason : Nat) : Chip :=
  if c.faults.safe then c
  else
    let standby := decide (c.pair.role = .standby)
    let synced := c.syncedStandby
    let held := c.leads && c.paired && c.pair.leaseNs.isSome
    let cause := c.causeBytes message occurrence reason
    let c := (c.onFaults (fun f => { f with safe := true, safeCause := cause })).bump 0x4C32 |>.bump 0x1853
    -- RELEASE and SAFE_NOTICE, ahead of every other frame
    let c := if held then c.sendLease 6 else c
    let notice := c.safeNotice message
    let c := if c.paired ∧ c.pair.partnerSerial ≠ 0 then c.requestFirst false 0x23 notice else c
    let c := if c.paired ∧ c.judgeAddress ≠ 0 then c.requestFirst true 0x23 notice else c
    let c := c.endAllSafe.loseRole.dropAliases.stopEngines
    let c := if standby then c.onPair (fun p => { p with sync := 3 }) else c
    -- completions of outstanding reads are discarded, and no other command is admitted
    let c := { c with gathers := [], members := c.members.mapVal (fun _ m => { m with
        queues := m.queues.map (fun (q : List MCmd) => q.filter (fun k => k.purpose.inSafe))
        outstanding := m.outstanding.map (fun (k : MCmd) => if k.op.writes then k else { k with purpose := .none }) }) }
    let c := c.onPower (fun p => { p with test := none })
    let c := (c.setUnitState 3).pairRecord 10
    let c := c.heartbeatStride
    let c := c.onRec (fun k => { k with flushDue := true })
    c.safeVault standby synced

/-! ### Messages (R409, R416) -/

/-- A message arrives at the collector. [DEDUCED, notes/assumptions/86.md] -/
def Chip.faultArrives (c : Chip) (source kind : Nat) (address : Option Nat) (forced : Bool) : Chip :=
  if !kindOf source kind then c
  else if directKind kind then
    let safe := c.faults.safe
    let held := c.faults.pending
    let c := c.faultTake source kind address forced
    let occ := c.faults.occurrences
    let msg := faultMsg source kind address forced false true
    -- no timer: a fault that was pending at the source stays as it was
    let c := c.onFaults (fun f => { f with
      pending := held
      history := f.history.map (fun h => if h.occurrence = occ then { h with message := msg, disposition := if safe then 7 else 5 } else h) })
    (c.directActs kind).enterSafe msg occ 2
  else c.faultTake source kind address forced

/-- FAULT_MESSAGE. -/
def execFaultMessage (source kind : Nat) (address : Option Nat) (s : State) : Host.Outcome State Fault Refusal :=
  s.effect (fun c => (c.faultArrives source kind address false).pumpHost)

/-- Timers count a stride: from the first boundary after the message arrived (R410). [DEDUCED, notes/assumptions/86.md] -/
def Chip.tickFaults (c : Chip) : Chip :=
  c.onFaults (fun f => { f with pending := f.pending.mapVal (fun _ p =>
    if p.started then { p with left := p.left - 1 } else { p with started := true }) })

/-- FAULT_TIMER_EXPIRY: every fault whose timer has run out escalates; the cause is the one with the lowest source (Table 15.6).
[DEDUCED, notes/assumptions/86.md] -/
def Chip.timerExpiry (c : Chip) (source : Nat) : Chip :=
  let due := c.faults.pending.filter (fun p => p.2.started && decide (p.2.left = 0))
  match due, due.any (fun p => decide (p.1 = source)) with
  | first :: _, true =>
    let c := c.each due (fun c p => (c.endFault p.1 5).bump 0x4C03)
    c.enterSafe first.2.message first.2.occurrence 1
  | _, _ => c

def execFaultTimerExpiry (source : Nat) (s : State) : Host.Outcome State Fault Refusal := s.effect (fun c => (c.timerExpiry source).pumpHost)

/-! ### Clears and forced messages (R411, R413) -/

/-- HOST and NET may clear a kind (Table 15.3). -/
def clearable (kind : Nat) : Bool := kind = 0x01 || kind = 0x02

/-- The disposition that a clear leaves. -/
def clearedBy : Origin → Nat
  | .self => 1 | .host => 2 | .net => 3 | .service => 4 | .peer => 1

/-- The reason a clear is refused for. -/
def Chip.clearReason (c : Chip) (v : Nat) (w : Writer) : Nat :=
  match c.faults.pending.find (v % 1024) with
  | none => 5
  | some p =>
    if (w.origin = .host ∨ w.origin = .net) ∧ !p.forced ∧ !clearable p.kind then 3
    else if v / 65536 % 65536 ≠ p.occurrence % 65536 ∨ (p.started ∧ p.left = 0) then 5
    else 0

/-- FAULT_CLEAR. -/
def execFaultClear (value : Nat) (writer : Writer) (s : State) : Host.Outcome State Fault Refusal :=
  s.effect (fun c => c.command 0x4C11 0 value writer (c.clearReason value writer) (fun c => c.endFault (value % 1024) (clearedBy writer.origin)))

/-- FAULT_FORCE. -/
def execFaultForce (source kind : Nat) (writer : Writer) (s : State) : Host.Outcome State Fault Refusal :=
  s.effect (fun c => (c.command (0x4C40 + source / 256) (source % 256) kind writer (if kindOf source kind then 0 else 4)
    (fun c => c.faultArrives source kind none true)).pumpHost)

/-! ### A partner in the safe state (R284, R353) -/

/-- What the announcement leads to: a STANDBY asks to take over, a holder asks for SOLE. -/
def Chip.partnerSafe (c : Chip) (b : Bytes) : Chip :=
  if c.paired ∧ leAt b 8 8 = c.pair.pairId ∧ leAt b 0 8 = c.pair.partnerSerial ∧ !c.faults.safe then
    if c.pair.role = .standby then c.askTakeover else if c.leads then c.askSole else c
  else c

/-- SAFE_NOTICE: a judge records it. -/
def execSafeNotice (frame : AdpFrame) (s : State) : Host.Outcome State Fault Refusal :=
  s.effect (fun c => c.inSession frame (fun c =>
    ((c.partnerSafe frame.body).when (c.val 0x3850 = 1) (fun c => c.pairRecord 11)).answerFrame frame 0 []))

end Sys2Proof.Machine
end

