-- ==== Sys2Proof/Machine/Start.lean ====
section
/-! DEFINITION. Power-up and resets (R428 to R443, R447): the schedule's steps, the choice of the replay source, replay and its end,
the resets of the unit, and the images of the boot flashes. -/

namespace Sys2Proof.Machine

/-! ### COLD and RESET_N -/

/-- COLD_POWER_ON: every rail is within its limits (R428, R447); without the 25 MHz reference the chip stays in reset (R450). -/
def Chip.coldPowerOn (c : Chip) (i : StartInputs) : Chip :=
  if c.start.powered ∨ !i.railsOk ∨ !i.referenceOk then c else c.leadsTo (.restart 0 i)

def execColdPowerOn (inputs : StartInputs) (s : State) : Host.Outcome State Fault Refusal := s.resetEffect (fun c => c.coldPowerOn inputs)

/-- RESET_N_ASSERT: shorter than 10 µs it is not recognised; during a vault or a watch it is held off (R440). -/
def Chip.resetNAssert (c : Chip) (us : Nat) : Chip :=
  if us < 10 ∨ !c.start.powered then c
  else
    let c := c.onStart (fun k => { k with resetN := true })
    if c.power.supply = .vault ∨ c.power.supply = .watch then c.onPower (fun p => { p with resetHeld := true }) else c.leadsTo .held

def execResetNAssert (us : Nat) (s : State) : Host.Outcome State Fault Refusal := s.resetEffect (fun c => c.resetNAssert us)

/-- RESET_N_RELEASE: time zero of a start with LPDDR6 retained; one still held off acts when the vault ends.
[DEDUCED, notes/assumptions/80.md] -/
def Chip.resetNRelease (c : Chip) (i : StartInputs) : Chip :=
  if !c.start.resetN then c
  else
    let c := c.onStart (fun k => { k with resetN := false })
    if c.power.resetHeld ∨ !c.start.powered then c else c.leadsTo (.restart 1 i)

def execResetNRelease (inputs : StartInputs) (s : State) : Host.Outcome State Fault Refusal :=
  s.resetEffect (fun c => c.resetNRelease inputs)

/-- RAIL_FAULT: the unit is reset as COLD at once; time zero comes with the rails' return (R447). -/
def execRailFault (s : State) : Host.Outcome State Fault Refusal :=
  s.resetEffect (fun c => if c.start.powered then c.leadsTo .lost else c)

/-! ### The 150 ms step (Table 16.1) -/

/-- The stride clock starts at stride 0, at the selected length (R18). [DESIGN CHOICE, notes/assumptions/13.md] -/
def Chip.startClock (c : Chip) : Chip :=
  { c with clk := { c.clk with opNs := max c.clk.opNs (c.clk.startNs + 150000000), running := true, ticks := 2048 * 2 ^ c.val 0x1200, stride := 0 } }

/-- Slots that had kept their power train again (R265). [DEDUCED, notes/assumptions/80.md] -/
def Chip.trainSlots (c : Chip) : Chip :=
  { c with members := c.members.mapVal (fun _ m =>
      if m.slot = .powering ∧ m.powerGood then { m with slot := .training, timerNs := c.clk.opNs } else m) }

/-- The spares in use, and a fault for every map entry whose macro has none left (R397). -/
def Chip.reportSpares (c : Chip) : Chip :=
  (c.setVal 0x4830 0 c.start.inputs.sparesUsed).each c.start.inputs.spareExhausted (fun c x =>
    (c.bump 0x4834).faultAndClear x.1 0x13 (some x.2))

/-- Supply monitoring begins: the pack is as it reads, SHIP and EXHAUSTED as they were kept (Table 13.5, R381). -/
def Chip.startPack (c : Chip) : Chip :=
  let p := c.power
  let v := if p.packState = 2 ∨ p.packState = 4 then p.packState else c.packReading (c.start.inputs.packMv * 1000) c.start.inputs.tempDc
  (c.onPower (fun p => { p with packState := v, first := true })).onCache (fun k => { k with gateClosed := decide (v ≠ 1) })

/-- ADP begins: the PHY is set up and the sessions are opened (R344, R348, R353). -/
def Chip.startAdp (c : Chip) : Chip :=
  if c.val 0x4000 = 0 then c
  else
    let c := c.programPhy none
    if c.paired then (c.discoverPartner.openSession false).openSession true else c

/-- Utofer training begins on the ports in use (R301). -/
def Chip.startLinks (c : Chip) : Chip :=
  c.each ((List.range 3).filter c.portOn) (fun c p => (c.updPort p (fun x => { x with pstate := 1 })).emit (.linkTrain p))

/-- FIRMWARE_START: LOADING is passed through at once, and the unit waits for its members. [DEDUCED, notes/assumptions/80.md] -/
def Chip.firmwareStart (c : Chip) : Chip :=
  if !c.start.powered ∨ c.start.phase ≠ 0 ∨ c.clk.running ∨ c.start.resetN ∨ c.power.vinReset then c
  else
    c.startClock.aside (fun c =>
      let c := c.onStart (fun k => { k with phase := 2 })
      let c := c.onFaults (fun f => { f with selfCheck := c.start.inputs.selfCheckOk })
      let c := if c.val 0x3800 = 1 ∧ !c.paired then c.pairRecord 12 else c
      c.trainSlots.reportSpares.startPack.startAdp.startLinks)

def execFirmwareStart (s : State) : Host.Outcome State Fault Refusal := s.clockEffect Chip.firmwareStart

/-! ### MEMBERS and ROLE (R435, R436) -/

/-- A slot seated at time zero has reached an end; on a unit that takes no outcomes its drive waits in READY (R267).
[DEDUCED, notes/assumptions/79.md] -/
def Chip.slotReached (c : Chip) (slot : Nat) : Bool :=
  let t := (c.member slot).slot
  t = .inUse || t = .unusable || t = .powerFault || t = .held || (!c.leads && t = .ready)

/-- The unit may leave MEMBERS. -/
def Chip.membersOver (c : Chip) : Bool :=
  c.chooseSource = .retained || c.start.presence.all c.slotReached || c.elapsedMs c.clk.startNs (c.val 0x5406)

/-- What LPDDR6 retained is not used: nothing of it remains (R103, R419). [DEDUCED, notes/assumptions/79.md] -/
def Chip.dropRetained (c : Chip) : Chip :=
  let c := c.onStart (fun k => { k with retained := false })
  let c := c.onJournal (fun j => { j with entries := [], sealSeq := 0 })
  let c := c.onCache (fun k => { k with blocks := [], lostRanges := [], lostStripes := [] })
  { c with pistes := c.pistes.mapVal (fun _ x => x.restarted false) }

/-- The seal number of the candidate source. [DEDUCED, notes/assumptions/79.md] -/
def Chip.candidateSeal (c : Chip) : Nat :=
  match c.chooseSource with
  | .vault => (match c.validImage with | some v => v.2.sealSeq | none => 0)
  | .lane => (match c.bestLane with | some l => l.sealSeq | none => 0)
  | _ => c.journal.sealSeq

/-- MEMBER_WAIT_END: the candidate source is chosen; in PAIR mode the unit waits in ROLE for its partner's word or a grant.
[DEDUCED, notes/assumptions/79.md] -/
def Chip.memberWaitEnd (c : Chip) : Chip :=
  if c.start.phase ≠ 2 ∨ !c.membersOver then c
  else
    let c := if c.chooseSource = .retained then c else c.dropRetained
    if !c.paired then c.onStart (fun k => { k with phase := 4 })
    else
      let seal_ := c.candidateSeal
      let c := c.onJournal (fun j => { j with sealSeq := max j.sealSeq seal_ })
      let epochs := (c.power.images.filter (fun v => decide (v.2.status = 2))).map (fun v => v.2.epoch)
      let c := (c.onPair (fun p => { p with epoch := maxOf (p.epoch :: epochs) })).onStart (fun k => { k with phase := 3 })
      match c.pair.lastHb with
      | some h =>
        if c.pair.formed ∧ !c.pair.silent ∧ h.role ≤ 1 ∧ !h.leaving then c.beStandby h.epoch else c.pursue 2
      | none => c.pursue 2

def execMemberWaitEnd (s : State) : Host.Outcome State Fault Refusal := s.effect Chip.memberWaitEnd

/-! ### Replay (R103, R104, R419) -/

/-- A recorded member that has not come up by now is failed: it is gone (R145). [DEDUCED, notes/assumptions/78.md] -/
def Chip.missingMembers (c : Chip) : Chip :=
  c.each ((c.members.filter (fun m => m.2.recorded.isSome && !m.2.slot.serving && decide (m.2.mstate ≠ .failed))).map Prod.fst) (fun c s =>
    c.failMember s 1)

/-- The entries of the newest lane that an image with lost slots does not hold (R419). -/
def Chip.lostSlotEntries (c : Chip) (v : VaultImage) : List (Nat × Entry) :=
  match c.bestLane with
  | none => []
  | some l => l.entries.filter (fun t => decide (t.2.state ≠ .free) && !(v.journal.any (fun y =>
      decide (y.2.piste = t.2.piste) && decide (y.2.stripe = t.2.stripe) && decide (y.2.generation = t.2.generation))))

/-- Replay takes such an entry into a free slot, as for a LANE source. -/
def Chip.replayLaneEntry (c : Chip) (e : Entry) : Chip :=
  match c.freeJournalSlot with
  | none => c
  | some slot => (c.setEntry slot e.fromLane).replayEntry slot false

/-- After a safe-state image with lost slots: their entries from the lane, and one error for each piste that had one. -/
def Chip.replayLostSlots (c : Chip) (v : VaultImage) : Chip :=
  if v.lostSlots.isEmpty then c
  else
    let l := c.lostSlotEntries v
    let c := c.each (byGeneration l) (fun c s => match KMap.find l s with | some e => c.replayLaneEntry e | none => c)
    c.each (v.lostSlots.foldl (fun (r : List Nat) x => addNew r x.2.1) []) (fun c p =>
      if (c.piste p).state = .absent then c else c.deferError p 3 0 (c.piste p).capacity 0xFFFFFFFF)

/-- JOURNAL_REPLAY at a start. -/
def Chip.journalReplay (c : Chip) : Chip :=
  if c.start.phase ≠ 4 ∨ c.start.replayed then c
  else
    let c := c.takeOutcomes.missingMembers
    let source := c.chooseSource
    let c := if source = .retained then c else c.dropRetained
    let image := if source = .vault then c.validImage else none
    let c := c.replayFrom source
    let c := match image with | some v => c.replayLostSlots v.2 | none => c
    c.onStart (fun k => { k with replayed := true })

def execJournalReplay (s : State) : Host.Outcome State Fault Refusal := s.effect (fun c => c.journalReplay.pumpHost)

/-- Every valid image is CONSUMED, its headers rewritten (R369). [DEDUCED, notes/assumptions/77.md] -/
def Chip.consumeImages (c : Chip) : Chip :=
  c.each (c.power.images.filter (fun v => decide (v.2.status = 2))) (fun c v =>
    let w := { v.2 with status := 4 }
    let parts := v.2.sections
    (c.setImage v.1 w).writeHeaders v.1 w (sectionTable parts) (crc64 (parts.flatten.flatten.flatten)) true)

/-- REPLAY_DONE: the start reaches DONE; unit_state follows the role (R100, R212, R437). -/
def Chip.replayDone (c : Chip) : Chip :=
  if c.start.phase ≠ 4 ∨ !c.start.replayed ∨ !c.replayOver then c
  else
    let c := c.consumeImages.setLaneOffset.startDone
    let c := (c.onJournal (fun j => { j with lanesAllowed := true })).onPair (fun p => { p with serving := true })
    (c.setUnitState (if c.faults.safe then 3 else if c.leads then 1 else 2)).takeOutcomes

def execReplayDone (s : State) : Host.Outcome State Fault Refusal := s.effect (fun c => c.replayDone.pumpHost)

/-! ### UNIT and RING (R325, R439) -/

/-- Why a write of unit_reset is refused. -/
def Chip.unitResetReason (c : Chip) (value : Nat) : Nat :=
  if value ≠ 0x52540001 then 4 else if c.power.supply = .vault ∨ c.power.supply = .watch then 5 else 0

/-- UNIT_RESET. -/
def execUnitReset (value : Nat) (writer : Writer) (s : State) : Host.Outcome State Fault Refusal :=
  s.resetEffect (fun c => c.command 0x5430 0 value writer (c.unitResetReason value) (fun c => c.leadsTo (.unit 2)))

/-- UNIT_RESET_MSG: the message reaches this unit, which logs it and, where it accepts such resets, performs the ring's reset. -/
def Chip.unitResetMsg (c : Chip) (src target : Nat) : Chip :=
  if !c.ringOn ∨ !c.ownNode target then c
  else
    let w : Writer := { origin := .peer, route := .ring, originId := src }
    if c.val 0x3C41 = 1 then (c.logChange 0x5430 0 w 0 0 0 0x52540001 false).leadsTo (.unit 3)
    else c.logChange 0x5430 0 w 5 0 0 0x52540001 false

def execUnitResetMsg (src target _logSeq : Nat) (s : State) : Host.Outcome State Fault Refusal :=
  s.resetEffect (fun c => c.unitResetMsg src target)

/-! ### Images of the boot flashes (R432, R443) -/

/-- Why a chunk is refused. -/
def chunkReason (b : Bytes) : Nat := if b.length ≠ 4096 ∨ leAt b 0 8 % 4088 ≠ 0 then 4 else 0

/-- 4,088 image bytes at an offset, for the flash that does not run. -/
def Chip.takeChunk (c : Chip) (b : Bytes) : Chip := c.onStart (fun k => { k with written := k.written.put (leAt b 0 8) (b.drop 8) })

/-- IMAGE_CHUNK. -/
def execImageChunk (payload : Bytes) (writer : Writer) (s : State) : Host.Outcome State Fault Refusal :=
  s.effect (fun c => c.command 0x5420 0 (leAt payload 0 8) writer (chunkReason payload) (fun c => c.takeChunk payload))

/-- A commit makes the written flash preferred. [DEDUCED, notes/assumptions/71.md] -/
def Chip.commitImage (c : Chip) (found : FlashImage) : Chip :=
  let n := 1 - c.start.running
  let c := c.onStart (fun k => { k with images := k.images.put n found, written := [] })
  match c.object 0x5411 0 with
  | some o => c.applyObject o 0 (leBytes 1 (n + 1)) selfWriter
  | none => c

/-- IMAGE_COMMIT: refused with `check` where the written image fails R432. -/
def execImageCommit (found : FlashImage) (writer : Writer) (s : State) : Host.Outcome State Fault Refusal :=
  s.effect (fun c => c.command 0x5421 0 1 writer (if c.imageOk found then 0 else 6) (fun c => c.commitImage found))

end Sys2Proof.Machine
end

