-- ==== Sys2Proof/Machine/Dictionary.lean ====
section
/-! DEFINITION. The dictionary's routes (R221 to R225, R331 to R339): every write that has no row of its own, by the window, the
mailbox, DICT_WRITE and the rest; command objects by index; what a change of a value does at once. -/

namespace Sys2Proof.Machine

/-! ### rights_set and adp_key (R338, R339, R347) -/

/-- Why rights_set is refused. -/
def Chip.rightsReason (c : Chip) (v : Nat) : Nat :=
  let index := v % 65536
  match objectDirectory.find? (fun o => decide (o.index = index)) with
  | none => 4
  | some o => if index = 0x1120 ∨ index = 0x1122 ∨ index = 0x4020 then 4 else if !c.served index then 4 else if o.access < 2 then 2 else 0

/-- The mask of one index is replaced; its SELF bit stays. [DEDUCED, notes/assumptions/70.md] -/
def Chip.setRights (c : Chip) (v : Nat) : Chip :=
  let index := v % 65536
  match objectDirectory.find? (fun o => decide (o.index = index)) with
  | none => c
  | some o =>
    let mask := v / 65536 % 32
    let mask := mask - (if mask.testBit 3 then 8 else 0) + (if (c.rightsOf o).testBit 3 then 8 else 0)
    c.onDict (fun d => { d with
      rights := d.rights.put index mask, uncommitted := d.uncommitted ++ [(2 ^ 32 + index, leBytes 1 mask, c.newestLog)] })

/-- RIGHTS_SET. -/
def execRightsSet (value : Nat) (writer : Writer) (s : State) : Host.Outcome State Fault Refusal :=
  s.effect (fun c => c.command 0x1120 0 value writer (c.rightsReason value) (fun c => c.setRights value))

/-- Why a key is refused. -/
def keyReason (key : Bytes) : Nat := if key.length = 32 then 0 else 4

/-- A key is loaded; 32 zero bytes empty the slot. With a first key the sessions are opened. -/
def Chip.setKey (c : Chip) (slot : Nat) (key : Bytes) : Chip :=
  let c := c.onDict (fun d => { d with keys := if key.all (· == 0) then d.keys.drop slot else d.keys.put slot key })
  if c.adp.astate = 1 ∨ c.adp.astate = 2 then
    let c := c.adpReady
    if c.paired then (c.keepSession false).keepSession true else c
  else c

/-- ADP_KEY_WRITE. -/
def execAdpKeyWrite (slot : Nat) (key : Bytes) (writer : Writer) (s : State) : Host.Outcome State Fault Refusal :=
  s.effect (fun c => c.command 0x4020 slot 0 writer (keyReason key) (fun c => c.setKey slot key))

/-! ### What a change does at once -/

/-- Close a ring port or P without training it again. -/
def Chip.closePort (c : Chip) (p : Nat) : Chip := c.setPort p { Port.reset with downNs := c.clk.opNs }

/-- Train a port. -/
def Chip.openPort (c : Chip) (p : Nat) : Chip :=
  if c.portOn p ∧ (c.port p).pstate = 0 then (c.updPort p (fun x => { x with pstate := 1 })).emit (.linkTrain p) else c

/-- ring_enable (R301, R311). -/
def Chip.ringHook (c : Chip) : Chip :=
  (if c.ringOn then (c.openPort 1).openPort 2 else (c.closePort 1).closePort 2).ringChanged

/-- pair_mode (R272): in SINGLE mode a unit is ALONE; in PAIR mode it leads only by a grant. [DEDUCED, notes/assumptions/72.md] -/
def Chip.pairModeHook (c : Chip) (old : Nat) : Chip :=
  if c.val 0x3800 = old then c
  else if c.val 0x3800 = 0 then
    let led := c.leads
    let c := (c.closePort 0).onPair (fun p => { p with formed := false, peerSync := 0, leaseNs := none, pursue := 0, writeStop := false })
    if led then c.onPair (fun p => { p with role := .alone, soleDue := false })
    else if c.start.phase = 5 then c.takeover true else c.onPair (fun p => { p with role := .alone })
  else if !c.paired then c.pairRecord 12
  else
    let c := (c.loseRole.dropAliases.openPort 0).setUnitState (if c.faults.safe then 3 else 2)
    ((c.keepSession false).keepSession true).pursue 2

/-- adp_enable (R343). [DEDUCED, notes/assumptions/72.md] -/
def Chip.adpHook (c : Chip) : Chip :=
  if !c.clk.running then c
  else if c.val 0x4000 = 0 then c.onAdp (fun a => { a with astate := 0 })
  else if c.adp.astate = 0 then c.startAdp
  else c

/-- A slot of judge_accept_pair is freed: the record of its pair ends (R356). -/
def Chip.judgeSlotHook (c : Chip) (slot old : Nat) : Chip :=
  if c.val 0x4040 slot = 0 then c.onPair (fun p => { p with judges := p.judges.filter (fun r => decide (r.pairId ≠ old)) }) else c

/-- What the new value of an object does at once. -/
def Chip.objectHook (c : Chip) (index sub old : Nat) : Chip :=
  let phy := decide (0x4010 ≤ index) && decide (index ≤ 0x4015) || decide (index = 0x3850) || decide (index = 0x4040)
  let c := if index = 0x4040 then c.judgeSlotHook sub old else c
  if index = 0x2420 then c.cacheModeHook sub old
  else if index = 0x3444 then c.slotEnableHook sub old
  else if index = 0x3800 then c.pairModeHook old
  else if index = 0x3810 then c.judgeChanged
  else if index = 0x3C00 then c.ringHook
  else if index = 0x4000 then c.adpHook
  else if phy ∧ c.adp.astate ≠ 0 then c.programPhy none
  else c

/-! ### Command objects by index (Table 12.3, WO) -/

/-- A command that is a write of 1. -/
def one (v reason : Nat) (act : Chip → Chip) : Nat × (Chip → Chip) := (if v = 1 then reason else 4, act)

/-- The owning chapter's answer to a command of the right length: its refusal reason, and the action.
[DESIGN CHOICE, notes/assumptions/54.md; DEDUCED, notes/assumptions/92.md] -/
def Chip.commandTake (c : Chip) (index sub : Nat) (b : Bytes) (w : Writer) : Nat × (Chip → Chip) :=
  let v := leNat b
  if index = 0x1120 then (c.rightsReason v, fun c => c.setRights v)
  else if index = 0x3020 then (c.runReason sub v, fun c => c.runAct sub v)
  else if index = 0x3432 then
    let found := Config.releaseFound c.draws
    one v (if c.releasable sub found found then 0 else 5) (fun c => c.release sub)
  else if index = 0x3840 then one v c.handoverReason (fun c => c.onPair (fun p => { p with handover := true }))
  else if index = 0x3841 then one v c.forceReason (fun c => c.pursue 8)
  else if index = 0x3C40 then (c.resetNodeReason v, fun c => c.emit (.unitReset (c.answering v) v c.newestLog))
  else if index = 0x4020 then (keyReason b, fun c => c.setKey sub b)
  else if index = 0x4431 then one v 0 Chip.newPack
  else if index = 0x4432 then (c.shipReason v, Chip.shipAct)
  else if index = 0x4840 then (c.scrubReason b, fun c => c.scrubBegin b)
  else if index = 0x4843 then one v 0 Chip.scrubStop
  else if index = 0x4C11 then (c.clearReason v w, fun c => c.endFault (v % 1024) (clearedBy w.origin))
  else if 0x4C40 ≤ index ∧ index ≤ 0x4C43 then
    let source := (index - 0x4C40) * 256 + sub
    (if kindOf source v then 0 else 4, fun c => c.faultArrives source v none true)
  else if index = 0x5040 then one v 0 Chip.flushRecorder
  else if index = 0x5420 then (chunkReason b, fun c => c.takeChunk b)
  else if index = 0x5421 then
    let found := Config.imageFound c.draws
    one v (if c.imageOk found then 0 else 6) (fun c => c.commitImage found)
  else if index = 0x5430 then (c.unitResetReason v, fun c => c.leadsTo (.unit 2))
  else (5, id)

/-! ### A write (R333) -/

/-- What a write came to: its refusal reason, 0 where it was applied or accepted, and the action still to follow. -/
structure Taken where
  reason : Nat
  chip : Chip
  act : Chip → Chip

/-- A write to a command object. -/
def Chip.takeCommand (c : Chip) (o : Obj) (sub : Nat) (b : Bytes) (new : Nat) (w : Writer) : Taken :=
  let t := c.commandTake o.index sub b w
  let c := if o.index = 0x3432 ∨ o.index = 0x5421 then c.drawn.2 else c
  let r := c.commandReason o.index sub w (if b.length = o.len then t.1 else 4)
  { reason := r, chip := c.logChange o.index sub w r 0 0 new o.secret, act := if r = 0 then t.2 else id }

/-- A write to an RW or RWS object, or one refused for its access. -/
def Chip.takeValue (c : Chip) (o : Obj) (sub : Nat) (b : Bytes) (new : Nat) (w : Writer) : Taken :=
  let r := c.writeReason o.index sub b w
  if r ≠ 0 then { reason := r, chip := c.logChange o.index sub w r 0 (c.first8 o.index sub) new o.secret, act := id }
  else { reason := 0, chip := (c.applyObject o sub b w).objectHook o.index sub (c.val o.index sub), act := id }

/-- A write reaches the dictionary: checked in the order of Table 12.4, logged, and applied in one step. `b` is empty where the
route's own rules are broken; `new` is the value as the log shows it. [DEDUCED, notes/assumptions/92.md; DEDUCED, notes/assumptions/94.md] -/
def Chip.dictTake (c : Chip) (index sub : Nat) (b : Bytes) (new : Nat) (w : Writer) : Taken :=
  let h := homeOf index sub
  match c.object h.1 h.2 with
  | none => { reason := 1, chip := c.logChange index sub w 1 0 0 new false, act := id }
  | some o =>
    if !c.served h.1 then { reason := 1, chip := c.logChange index sub w 1 0 0 new false, act := id }
    else if o.access = 4 then c.takeCommand o h.2 b new w else c.takeValue o h.2 b new w

/-- A write that no one waits for. [DEDUCED, notes/assumptions/92.md] -/
def Chip.dictDo (c : Chip) (index sub : Nat) (b : Bytes) (w : Writer) : Chip :=
  let t := c.dictTake index sub b (leNat (b.take 8)) w
  t.act t.chip

/-- DICT_WRITE_OTHER. -/
def execDictWriteOther (index sub : Nat) (value : Bytes) (writer : Writer) (s : State) : Host.Outcome State Fault Refusal :=
  s.resetEffect (fun c => (c.dictDo index sub value writer).pumpHost)

/-! ### Pair-wide writes (R336) -/

/-- A pair-wide write is the holder's to check: this unit is the other one of a formed pair.
[DEDUCED, notes/assumptions/70.md; DEDUCED, notes/assumptions/94.md] -/
def Chip.passesOn (c : Chip) (index sub : Nat) : Bool :=
  c.paired && c.pair.formed && !c.leads && (match c.object index sub with | some o => o.pairWide | none => false)

/-- Pass a write to the holder; its writer waits. [DEDUCED, notes/assumptions/70.md] -/
def Chip.passOn (c : Chip) (index sub : Nat) (b : Bytes) (w : Writer) (cid : Nat) (frame : Option AdpFrame) : Chip :=
  let c := c.onAdp (fun a => { a with pairWait := a.pairWait ++ [{ index, sub, value := b, writer := w, cid, frame }] })
  c.request false 0x12 (leBytes 1 (originCode w.origin) ++ leBytes 1 0 ++ leBytes 6 w.originId ++ leBytes 2 index ++ leBytes 1 sub ++
    leBytes 1 0 ++ leBytes 2 b.length ++ leBytes 2 0 ++ b)

/-! ### The window (R221, R223) -/

/-- A requester's identity by the window and the mailbox. -/
def hostId (requester : Nat) : Nat := requester % 65536 + 0xFFFF0000

/-- The value of a window write; empty where it breaks R223. -/
def windowValue (o : Obj) (offset size value : Nat) : Bytes :=
  if offset % 8 = 0 ∧ (size = 8 ∨ (size = 4 ∧ o.len ≤ 4)) ∧ o.len ≤ 8 ∧ value < 256 ^ o.len then leBytes o.len value else []

/-- WINDOW_WRITE. -/
def Chip.windowWrite (c : Chip) (offset size value requester : Nat) : Chip :=
  if offset < 0x1000000 ∨ 0x4000000 ≤ offset then c
  else
    let index := 0x1000 + (offset - 0x1000000) / 0x800
    let sub := offset % 0x800 / 8
    let w : Writer := { origin := .host, route := .window, originId := hostId requester }
    let b : Bytes := match c.object index sub with | some o => windowValue o offset size value | none => []
    if c.passesOn index sub && !b.isEmpty then c.passOn index sub b w 0 none
    else
      let t := c.dictTake index sub b (value % 2 ^ 64) w
      t.act (if t.reason = 0 then t.chip else t.chip.bump 0x1840)

def execWindowWrite (offset size value requester : Nat) (s : State) : Host.Outcome State Fault Refusal :=
  s.resetEffect (fun c => (c.barWrite (fun c => c.windowWrite offset size value requester)).pumpHost)

/-! ### The mailbox (R224, R225) -/

/-- The header of an operation that may start. [DEDUCED, notes/assumptions/45.md] -/
def Mailbox.ok (m : Mailbox) : Bool := decide (1 ≤ m.length) && decide (m.length ≤ 4096) && (if m.op = 1 then m.offset % 8 = 0 else m.offset = 0)

/-- The mailbox's buffer from its start. -/
def Mailbox.bytes (m : Mailbox) (n : Nat) : Bytes := (List.range n).map (fun i => m.buffer.getD i 0)

/-- An operation ends. [DEDUCED, notes/assumptions/45.md] -/
def Chip.mailboxEnd (c : Chip) (status reason objectLength returned changes logSeq : Nat) : Chip :=
  c.onHost (fun h => { h with mailbox := { h.mailbox with status, reason, objectLength, returned, changes, logSeq } })

/-- MAILBOX_READ: one value of an object is copied. [DEDUCED, notes/assumptions/45.md] -/
def Chip.mailboxRead (c : Chip) : Chip :=
  let m := c.host.mailbox
  if m.op ≠ 1 then c
  else if m.status = 1 then c.bump 0x1841
  else match (if c.served m.index then c.readObject m.index m.sub else none) with
    | none => c.mailboxEnd 3 0 0 0 0 0
    | some b =>
      let n := c.dict.changes.getD (objKey m.index m.sub) 0
      if !m.ok ∨ b.length < m.offset then c.mailboxEnd 5 0 b.length 0 n 0
      else
        let l := (b.drop m.offset).take m.length
        let c := c.onHost (fun h => { h with mailbox := { h.mailbox with
          buffer := (List.range l.length).foldl (fun k i => k.store i (byteAt l i) 0) h.mailbox.buffer } })
        c.mailboxEnd 2 0 b.length l.length n 0

def execMailboxRead (s : State) : Host.Outcome State Fault Refusal := s.effect (fun c => c.barWrite Chip.mailboxRead)

/-- MAILBOX_WRITE: the buffer is a dictionary write; it must cover the whole object. [DEDUCED, notes/assumptions/45.md] -/
def Chip.mailboxWrite (c : Chip) (requester : Nat) : Chip :=
  let m := c.host.mailbox
  let w : Writer := { origin := .host, route := .mailbox, originId := hostId requester }
  if m.op ≠ 2 then c
  else if m.status = 1 then c.bump 0x1841
  else
    let len : Nat := match c.object m.index m.sub with | some o => o.len | none => 0
    if !m.ok then c.mailboxEnd 5 0 len 0 0 0
    else
      let b := m.bytes m.length
      if c.passesOn m.index m.sub then (c.mailboxEnd 1 0 len 0 0 0).passOn m.index m.sub b w 0 none
      else
        let t := c.dictTake m.index m.sub b (leNat (b.take 8)) w
        let status := if t.reason = 0 then 2 else if t.reason = 1 then 3 else if t.reason = 4 ∧ m.length ≠ len then 5 else 4
        let n := t.chip.dict.changes.getD (objKey m.index m.sub) 0
        t.act (t.chip.mailboxEnd status (if status = 4 then t.reason else 0) len 0 n t.chip.newestLog)

def execMailboxWrite (requester : Nat) (s : State) : Host.Outcome State Fault Refusal :=
  s.resetEffect (fun c => (c.barWrite (fun c => c.mailboxWrite requester)).pumpHost)

/-! ### DICT_WRITE (R193) -/

/-- The result of a refused DICT_WRITE. [DESIGN CHOICE, notes/assumptions/34.md] -/
def refusedResult (s : Sub) (reason : Nat) : Nat := reason * 65536 + (if reason = 4 then (if s.mode = 0 then 32 else 64) else 24)

/-- The value of a DICT_WRITE; empty where arg1 holds more than the object. -/
def Sub.value (s : Sub) (o : Obj) (host : Bytes) : Bytes :=
  if s.mode ≠ 0 then host else if s.arg1 < 256 ^ o.len then leBytes o.len s.arg1 else []

def Chip.dictWrite (c : Chip) (cid : Nat) : Chip :=
  c.admin 0x12 cid (fun c f s =>
    let index := s.arg0 % 65536
    let sub := s.arg0 / 65536 % 256
    let w : Writer := { origin := .host, route := .queue, originId := c.cqi.lastRequester }
    let b : Bytes := match c.object index sub with | some o => s.value o f.host | none => []
    if c.adp.pairWait.any (fun p => decide (p.writer.route = .queue) && decide (p.cid = cid)) then c
    else if c.passesOn index sub && !b.isEmpty then c.passOn index sub b w cid none
    else
      let t := c.dictTake index sub b (if s.mode = 0 then s.arg1 else leNat (b.take 8)) w
      t.act (if t.reason = 0 then t.chip.finishHead f s 0 0 [] else t.chip.refuseHead s 0x0102 (refusedResult s t.reason)))

/-- DICT_WRITE. -/
def execDictWrite (cid : Nat) (s : State) : Host.Outcome State Fault Refusal := s.resetEffect (fun c => (c.dictWrite cid).pumpHost)

/-! ### The outcome of a write that was passed on -/

/-- The reply to a write by ADP (Table 12.10). -/
def writeReply (reason logSeq : Nat) : Nat × Bytes :=
  if reason = 0 then (0, leBytes 8 logSeq)
  else if reason = 1 then (2, [])
  else (3, leBytes 1 reason ++ leBytes 7 0 ++ leBytes 8 logSeq)

/-- The oldest writer that waits learns the holder's outcome by its own route. [DEDUCED, notes/assumptions/68.md] -/
def Chip.pairOutcome (c : Chip) (reason logSeq : Nat) : Chip :=
  match c.adp.pairWait with
  | [] => c
  | p :: rest =>
    let c := c.onAdp (fun a => { a with pairWait := rest })
    match p.writer.route, p.frame with
    | .window, _ => if reason = 0 then c else c.bump 0x1840
    | .mailbox, _ =>
      if c.host.mailbox.status ≠ 1 then c
      else
        let m := c.host.mailbox
        let status := if reason = 0 then 2 else if reason = 1 then 3 else if reason = 4 ∧ m.length ≠ m.objectLength then 5 else 4
        c.mailboxEnd status (if status = 4 then reason else 0) m.objectLength 0 (c.dict.changes.getD (objKey p.index p.sub) 0) logSeq
    | .queue, _ =>
      (match c.headOf 0 with
       | none => c
       | some f =>
         let s := parseSub f.bytes
         if s.opcode ≠ 0x12 ∨ s.cid ≠ p.cid then c
         else if reason = 0 then c.finishHead f s 0 0 []
         else c.refuseHead s 0x0102 (refusedResult s reason))
    | _, some f => c.answerFrame f (writeReply reason logSeq).1 (writeReply reason logSeq).2
    | _, none => c

end Sys2Proof.Machine
end

