-- ==== Sys2Proof/Machine/Adp.lean ====
section
/-! DEFINITION. Dictionary operations by ADP (R331, R336, R349, R351), the replies to this unit's own requests (R348, R350), and the
commit of settings to the boot flashes (R335). -/

namespace Sys2Proof.Machine

/-! ### READ, WRITE and PAIR_WRITE (Table 12.9) -/

/-- The device is ready: its start has ended (R351). -/
def Chip.adpServes (c : Chip) : Bool := decide (c.start.phase = 5)

/-- BUSY: the request has no effect; the estimate of the laps still to pass is at least 1 (R351, R437). -/
def Chip.answerBusy (c : Chip) (f : AdpFrame) : Chip :=
  let d := c.drawn
  let n := max 1 (Config.readyEstimate d.1 % 65536)
  ((d.2.bump 0x4034).setVal 0x5405 0 n).answerFrame f 1 (leBytes 2 n)

/-- The queue of 16 requests is full (R349): what holds it up are the writes that wait for the holder's outcome (R336). -/
def Chip.adpQueueFull (c : Chip) : Bool := decide (16 ≤ countOf c.adp.pairWait (fun w => w.frame.isSome))

/-- READ, WRITE and PAIR_WRITE before the device is ready, and behind a full queue, are answered BUSY (R351). -/
def Chip.whenServed (c : Chip) (f : AdpFrame) (act : Chip → Chip) : Chip :=
  if !c.adpServes then c.answerBusy f
  else if c.adpQueueFull then (c.bump 0x4034).answerFrame f 1 (leBytes 2 1)
  else act c

/-- ADP_READ. -/
def Chip.adpRead (c : Chip) (f : AdpFrame) : Chip :=
  c.whenServed f (fun c =>
    let index := leAt f.body 0 2
    let sub := leAt f.body 2 1
    let off := leAt f.body 4 4
    let n := leAt f.body 8 2
    match c.readObject index sub with
    | none => c.answerFrame f 2 []
    | some b =>
      if b.length < off ∨ c.val 0x4003 - 8 < n then c.answerFrame f 4 []
      else c.answerFrame f 0 (leBytes 4 b.length ++ leBytes 4 (c.dict.changes.getD (objKey index sub) 0) ++ (b.drop off).take n))

def execAdpRead (frame : AdpFrame) (s : State) : Host.Outcome State Fault Refusal :=
  s.effect (fun c => c.inSession frame (fun c => c.adpRead frame))

/-- The write that a body carries from an offset on: its index, subindex, and its value, empty where the length does not fit. -/
def bodyWrite (b : Bytes) (off : Nat) : Nat × Nat × Bytes :=
  let n := leAt b (off + 4) 2
  (leAt b off 2, leAt b (off + 2) 1, if b.length = off + 8 + n then b.drop (off + 8) else [])

/-- A write by ADP: applied once, and answered with its outcome. A secret object is refused whatever the key (R339). -/
def Chip.netWrite (c : Chip) (f : AdpFrame) (x : Nat × Nat × Bytes) (w : Writer) : Chip :=
  let secret : Bool := match c.object x.1 x.2.1 with | some o => o.secret | none => false
  if secret then
    let c := c.logChange x.1 x.2.1 w 3 0 0 0 true
    c.answerFrame f (writeReply 3 c.newestLog).1 (writeReply 3 c.newestLog).2
  else
    let t := c.dictTake x.1 x.2.1 x.2.2 (leNat (x.2.2.take 8)) w
    let r := writeReply t.reason t.chip.newestLog
    t.act (t.chip.answerFrame f r.1 r.2)

/-- ADP_WRITE. -/
def Chip.adpWrite (c : Chip) (f : AdpFrame) : Chip :=
  c.whenServed f (fun c =>
    let x := bodyWrite f.body 0
    let w : Writer := { origin := .net, route := .adp, originId := f.srcMac }
    if c.passesOn x.1 x.2.1 && !x.2.2.isEmpty then c.passOn x.1 x.2.1 x.2.2 w 0 (some f) else c.netWrite f x w)

def execAdpWrite (frame : AdpFrame) (s : State) : Host.Outcome State Fault Refusal :=
  s.resetEffect (fun c => (c.inSession frame (fun c => c.adpWrite frame)).pumpHost)

/-- The origin a number names. -/
def originOf (v : Nat) : Origin := if v = 0 then .host else if v = 1 then .peer else if v = 2 then .net else if v = 3 then .self else .service

/-- PAIR_WRITE: from the partner to the holder, for a pair-wide object. [DEDUCED, notes/assumptions/70.md] -/
def Chip.pairWrite (c : Chip) (f : AdpFrame) : Chip :=
  c.whenServed f (fun c =>
    let x := bodyWrite f.body 8
    let w : Writer := { origin := originOf (leAt f.body 0 1), route := .adp, originId := leAt f.body 2 6 }
    let wide : Bool := match c.object x.1 x.2.1 with | some o => o.pairWide | none => true
    if c.leads ∧ c.pair.formed ∧ f.srcMac = c.adp.partnerMac ∧ wide then c.netWrite f x w
    else
      let c := c.logChange x.1 x.2.1 w 5 0 0 (leNat (x.2.2.take 8)) false
      c.answerFrame f (writeReply 5 c.newestLog).1 (writeReply 5 c.newestLog).2)

def execPairWrite (frame : AdpFrame) (s : State) : Host.Outcome State Fault Refusal :=
  s.resetEffect (fun c => (c.inSession frame (fun c => c.pairWrite frame)).pumpHost)

/-! ### Replies (R348, R350, R353) -/

/-- A DISCOVER reply names the partner's address. -/
def Chip.discovered (c : Chip) (f : AdpFrame) : Chip :=
  if c.pair.partnerSerial = 0 ∨ leAt f.body 0 8 ≠ c.pair.partnerSerial then c
  else if c.adp.partnerMac = f.srcMac then c.keepSession false
  else ((c.onAdp (fun a => { a with partnerMac := f.srcMac })).setRequester false
    { c.adp.toPartner with id := 0, outstanding := none, retryLap := none }).keepSession false

/-- A SYNC_REQ reply opens the session whose latest nonce it carries. -/
def Chip.synced (c : Chip) (f : AdpFrame) (judge : Bool) : Chip :=
  let q := c.requester judge
  if q.nonce = 0 ∨ leAt f.body 0 8 ≠ q.nonce ∨ f.srcMac ≠ c.peerMac judge ∨ leAt f.body 8 8 = 0 then c
  else (c.setRequester judge { q with id := leAt f.body 8 8, nonce := 0, seq := 0, outstanding := none, tries := 0, retryLap := none }).nextRequest judge

/-- The refusal reason that a PAIR_WRITE's reply gives. -/
def replyReason (f : AdpFrame) : Nat := if f.status = 0 then 0 else if f.status = 2 then 1 else if f.status = 3 then leAt f.body 0 1 else 5

/-- A request has its answer. -/
def Chip.requestEnded (c : Chip) (judge : Bool) (op reason logSeq : Nat) : Chip :=
  let c := c.setRequester judge { c.requester judge with outstanding := none, retryLap := none, tries := 0 }
  (if op = 0x12 then c.pairOutcome reason logSeq else c).nextRequest judge

/-- The receiver does not hold the session: it is opened anew, and the request it did not take goes first on it.
[DEDUCED, notes/assumptions/70.md] -/
def Chip.sessionGone (c : Chip) (judge : Bool) : Chip :=
  let q := c.requester judge
  let back : List (Nat × Bytes) := match q.outstanding with | some f => [(f.op, f.body)] | none => []
  (c.setRequester judge { q with id := 0, outstanding := none, retryLap := none, waiting := back ++ q.waiting }).openSession judge

/-- A reply on a session of this unit. -/
def Chip.sessionReply (c : Chip) (f : AdpFrame) (judge : Bool) : Chip :=
  let q := c.requester judge
  if f.status = 5 ∧ f.op = 0x20 then c.sessionGone judge
  else match q.outstanding with
    | none => c
    | some r =>
      if r.seq ≠ f.seq ∨ r.op ≠ f.op ∨ q.retryLap.isSome then c
      else if f.status = 5 then c.sessionGone judge
      else if f.status = 1 then c.setRequester judge { q with retryLap := some (c.lap + leAt f.body 0 2) }
      else c.requestEnded judge f.op (replyReason f) (if f.status = 3 then leAt f.body 8 8 else leAt f.body 0 8)

/-- ADP_REPLY. -/
def Chip.adpReply (c : Chip) (f : AdpFrame) : Chip :=
  if !f.reply then c
  else if f.op = 0x01 then c.discovered f
  else if f.op = 0x02 then (c.synced f false).synced f true
  else if f.session ≠ 0 ∧ f.session = c.adp.toPartner.id ∧ f.srcMac = c.adp.partnerMac then c.sessionReply f false
  else if f.session ≠ 0 ∧ f.session = c.adp.toJudge.id ∧ f.srcMac = c.judgeAddress then c.sessionReply f true
  else c

def execAdpReply (frame : AdpFrame) (s : State) : Host.Outcome State Fault Refusal :=
  s.effect (fun c => (c.takeFrame frame (fun c => c.adpReply frame)).pumpHost)

/-- ADP_REQUEST_TIMEOUT: the request goes out again unchanged, and after the last retry a new session is opened. -/
def Chip.requestTimeout (c : Chip) (judge : Bool) : Chip :=
  let q := c.requester judge
  match q.outstanding with
  | none => c
  | some f =>
    if q.retryLap.isSome ∨ c.lap < q.sentLap + c.val 0x4004 then c
    else if q.tries < c.val 0x4005 then (c.setRequester judge { q with tries := q.tries + 1, sentLap := c.lap }).sendFrame f
    else
      let c := (c.setRequester judge { q with id := 0, outstanding := none, tries := 0 }).pairRecord 13
      (if f.op = 0x12 then c.pairOutcome 5 0 else c).openSession judge

def execAdpRequestTimeout (toJudge : Bool) (s : State) : Host.Outcome State Fault Refusal :=
  s.effect (fun c => (c.requestTimeout toJudge).pumpHost)

/-! ### Settings (R335) -/

/-- SETTINGS_COMMIT: the writes held go to both flashes. -/
def execSettingsCommit (s : State) : Host.Outcome State Fault Refusal :=
  s.effect (fun c => if c.dict.uncommitted.isEmpty then c else (c.emit (.flashWrite 6)).onDict Dict.commit)

end Sys2Proof.Machine
end

