-- ==== Sys2Proof/Machine/Boundary.lean ====
section
/-! DEFINITION. The stride boundary (R21, R22), the lap boundary (R34), engine steps (R23), loss of timebase lock (R20), and one
stride number across a ring (R36 to R39, R315, R316). -/

namespace Sys2Proof.Machine

def Chip.onClk (c : Chip) (f : Clock → Clock) : Chip := { c with clk := f c.clk }

/-! ### The stride counter -/

/-- Ticks by which the stride under way is longer or shorter (R37 to R39). In LOCKED only a marker of this stride corrects
it; in HOLDOVER the last correction made stays. [DEDUCED, notes/assumptions/15.md] -/
def Clock.strideCorrection (k : Clock) : Int :=
  match k.sync with
  | .free => 0
  | .acquiring => k.correction
  | .locked => if k.sinceMarker = 0 ∧ !k.pacer then k.correction else 0
  | .holdover => k.correction

/-- A marker was due in the stride that ends and did not arrive. [DEDUCED, notes/assumptions/15.md] -/
def Clock.markerMissed (k : Clock) : Bool := decide (k.sync ≠ .free) && !k.pacer && decide (k.pacerNode ≠ 255) && decide (k.sinceMarker ≠ 0)

/-- A stride ends: the counter advances, and with it what counts strides (R21, R39, R315).
[DESIGN CHOICE, notes/assumptions/13.md; DESIGN CHOICE, notes/assumptions/95.md] -/
def Clock.advance (k : Clock) : Clock :=
  { k with
    stride := k.stride + 1
    opNs := ((k.opNs : Int) + k.ticks + k.strideCorrection).toNat
    correction := if k.sync = .acquiring then 0 else k.correction
    missed := k.missed + (if k.markerMissed then 1 else 0)
    sinceMarker := k.sinceMarker + 1
    holdStrides := if k.sync = .holdover then k.holdStrides + 1 else 0
    sinceLower := if k.lowerThis then 0 else k.sinceLower + 1
    lowerRun := if k.lowerThis then k.lowerRun else 0
    lowerThis := false
    lapDone := false }

/-! ### The issue phase (R21, R22) -/

/-- Seal the journal, and run what the COMMITTED seals release (R93). -/
def Chip.sealPhase (c : Chip) : Chip :=
  if !c.leads || decide (c.start.phase < 4) then c
  else
    let due := c.journal.entries.filter (fun t => decide (t.2.state = .committed) && decide (t.2.sealed_ ≠ .committed))
    c.sealJournal.each due (fun c t => c.entryCommitted t.2)

/-- The TIME marker of the pacer's boundary, out of E and W (R316). [DEDUCED, notes/assumptions/15.md] -/
def Chip.sendMarker (c : Chip) : Chip :=
  if c.clk.pacer then
    c.emit (.marker 3 { pacerNode := c.straps.nodeId, accDelayPs := 0, stride := c.clk.stride, strideTicks := c.clk.ticks
                        pacerGeneration := c.clk.pacerChanges })
  else c

/-- Writes at the gate wait a stride more (R82). -/
def Chip.countWaits (c : Chip) : Chip :=
  c.onCqi (fun k => { k with cmds := k.cmds.map (fun x => if x.stage = .gated then { x with waited := x.waited + 1 } else x) })

/-- A ceiling computed at the lap boundary takes effect (R35). -/
def Chip.ceilingStride (c : Chip) : Chip :=
  c.onCache (fun k => { k with ceiling := k.nextCeiling.getD k.ceiling, nextCeiling := none })

/-- What the work phase drives: destage, entries, passes, grooming, reshapes and sweeps. The safe state does none of it.
[DEDUCED, notes/assumptions/16.md] -/
def Chip.workPhase (c : Chip) : Chip :=
  if c.faults.safe then c
  else
    let c := c.stepGathers.destageAll.pumpEntries.drivePasses.retryRepairs.driveGrooming.driveReshape
    let c := c.each (c.cqi.handles.keys) (fun c h => Chip.sweepStep 64 c h)
    c.pumpHost.ackMirrored

/-- STRIDE_BOUNDARY. -/
def Chip.strideBoundary (c : Chip) (handed : Option Nat) : Chip :=
  if !c.clk.running then c
  else
    let c := (c.onClk Clock.advance).aside (fun c =>
      let c := c.drainRecords.tickFaults.ceilingStride.countWaits
      c.sealPhase.commitStride.farDeadlines.mirrorFlush.heartbeatStride.vaultStride)
    let c := c.resetSettle
    if !c.clk.running then c
    else c.aside (fun c =>
      let c := c.rosterStride
      let c := if c.recorder.flushDue then c.flushRecorder else c
      let c := ((c.tickDeadlines.issuePlan handed).sendMarker.msixPhase).exitStride
      c.workPhase)

/-- [DESIGN CHOICE, notes/assumptions/2.md] -/
def execStrideBoundary (handed : Option Nat) (s : State) : Host.Outcome State Fault Refusal :=
  s.clockEffect (fun c => c.strideBoundary handed)

/-! ### Engine steps (R23) -/

/-- ENGINE_STEP_COMPLETE: the last step of a job ends it; an even job solves a gather, an odd one computes an entry. -/
def Chip.engineStep (c : Chip) (engine step : Nat) : Chip :=
  let r := c.stepDone engine step
  match r.2 with
  | none => r.1
  | some job => if job % 2 = 0 then Chip.gatherEnd (r.1.gatherSolved (job / 2)) else (r.1.computeEntry (job / 2)).pumpEntry (job / 2)

def execEngineStepComplete (engine step : Nat) (s : State) : Host.Outcome State Fault Refusal :=
  s.effect (fun c => (c.engineStep engine step).pumpHost)

/-! ### The lap boundary (R34) -/

/-- Duty 1: the estimate, and what hangs on it (R371 to R380). -/
def Chip.estimatorDuty (c : Chip) (x : LapSample) : Chip :=
  let c := (c.vinLap x.vinMinMv x.vinMeanMv).packSwitchLap
  if c.power.first then (if c.power.packState = 1 ∨ c.power.packState = 4 then (c.firstEstimate x.packUv x.tempDc).chargerLap else c)
  else ((c.estimate x.packUv x.tempDc ((c.lapNs : Rat) / 1000000000)).mismatchLap.restLap x.packMinUv x.packMaxUv).minutesLap.chargerLap

/-- Duty 4: the lane snapshot (R100, R101). -/
def Chip.laneDuty (c : Chip) : Chip := c.rotationLap.writeLane.failContained

/-- Duty 5: the heartbeat windows of the lap over ADP; the ring's follow. -/
def Chip.heartbeatDuty (c : Chip) : Chip :=
  let c := (c.pairLap.busyLap false).busyLap true
  let c := if c.paired then (c.keepSession false).keepSession true else c
  c.vaultLap

/-- The suppression note of a code (R423). [DEDUCED, notes/assumptions/88.md] -/
def Chip.suppressionNote (c : Chip) (code : Nat) : Chip :=
  let r := { c.newRecord code none [] with only := true, snaps := [], suppressed := c.recorder.suppressed.getD code 0 }
  let c := c.onRec (fun k => { k with suppressed := k.suppressed.put code 0 })
  if c.recorder.thisStride < 16 ∧ c.recorder.waiting.isEmpty then c.storeRecord r
  else c.onRec (fun k => { k with waiting := k.waiting ++ [r] })

/-- The recorder at a lap boundary (R423). -/
def Chip.recorderLap (c : Chip) : Chip :=
  let codes := c.recorder.suppressedLap.filter (fun x => decide (x ∉ c.recorder.storedLap))
  (c.each codes Chip.suppressionNote).onRec (fun k => { k with lapCount := [], suppressedLap := [], storedLap := [] })

/-- Grooming, space states, wear, spares, rebuild and reshape at a lap (R128, R134, R136, R152, R166, R269).
[DEDUCED, notes/assumptions/88.md] -/
def Chip.mediaLap (c : Chip) : Chip :=
  let c := c.onSched (fun s => { s with spare := c.val 0x2840 })
  if !c.mayWrite || c.faults.safe || !c.journal.lanesAllowed then c
  else (c.each (c.livePistes.map Prod.fst) (fun c p => (c.groomLap p).spaceLap p)).wearLap.takeSpares.rebuildLap

/-- Largest phase error of the lap (Table 2.7). -/
def Clock.phaseLap (k : Clock) : Clock := { k with phaseMaxLast := k.phaseMaxLap, phaseMaxLap := 0 }

/-- LAP_BOUNDARY: once, at a stride whose number is a multiple of 256; the duties of Table 2.5 in their order, then the rest.
[DEDUCED, notes/assumptions/14.md] -/
def Chip.lapBoundary (c : Chip) (x : LapSample) : Chip :=
  if !c.clk.running ∨ c.clk.stride % 256 ≠ 0 ∨ c.clk.lapDone then c
  else
    let c := c.onClk (fun k => { k with lapDone := true })
    let c := (c.aside (fun c => (c.estimatorDuty x).computeCeiling.leakBuckets.laneDuty.heartbeatDuty)).ringLap
    (c.onClk Clock.phaseLap).aside (fun c =>
      (c.ltrCheck.retirePostponed.exitLap.mediaLap.checksLap.derateLap.engineLap.recorderLap).pumpHost)

/-- [DESIGN CHOICE, notes/assumptions/2.md] -/
def execLapBoundary (sample : LapSample) (s : State) : Host.Outcome State Fault Refusal := s.clockEffect (fun c => c.lapBoundary sample)

/-! ### The timebase (R20) -/

/-- TIMEBASE_UNLOCK, at any time from time zero on (R450): the frequency is held and strides go on. -/
def Chip.timebaseUnlock (c : Chip) : Chip :=
  if c.start.powered ∧ c.clk.locked then (c.onClk (fun k => { k with locked := false })).aside (fun c => (c.faultTake 0x40 2 none false).onRing (fun r => { r with rosterDue := true })) else c

def execTimebaseUnlock (s : State) : Host.Outcome State Fault Refusal := s.clockEffect (fun c => c.timebaseUnlock.ringUpdate)

/-- TIMEBASE_RELOCK: the supervisor clears the fault. -/
def Chip.timebaseRelock (c : Chip) : Chip :=
  if c.clk.locked then c else (c.onClk (fun k => { k with locked := true })).aside (fun c => (c.selfClear 0x40).onRing (fun r => { r with rosterDue := true }))

def execTimebaseRelock (s : State) : Host.Outcome State Fault Refusal := s.clockEffect (fun c => c.timebaseRelock.ringUpdate)

/-! ### One stride number across a ring (R36 to R39, R316) -/

/-- A difference of times within a stride of `s` ps, brought to the nearest boundary. [DEDUCED, notes/assumptions/15.md] -/
def wrapPs (s : Nat) (x : Int) : Int := (x + (s : Int) / 2) % (s : Int) - (s : Int) / 2

/-- The phase error e: this unit's boundary less the pacer's, which is the arrival less the delays (R36, R316). Times count from this
unit's last boundary. [DEDUCED, notes/assumptions/15.md] -/
def Chip.phaseError (c : Chip) (port : Nat) (m : MarkerMsg) (arrivalPs : Int) : Int :=
  wrapPs (c.clk.ticks * 1000) ((m.accDelayPs : Int) + (c.port port).delayPs - arrivalPs)

/-- Whole ticks nearest to a time in ps. -/
def ticksOf (ps : Int) : Int := (ps + 500) / 1000

/-- A correction is at most 4 ticks either way (R38). -/
def clamp4 (x : Int) : Int := if x < -4 then -4 else if 4 < x then 4 else x

/-- |e| is at most 16 ns. -/
def inPhase (e : Int) : Bool := decide (e.natAbs ≤ 16000)

/-- ACQUIRING begins. -/
def Clock.acquire (k : Clock) : Clock :=
  { k with sync := .acquiring, pacer := false, good := 0, bad := 0, awaitLap := false, correction := 0, holdStrides := 0 }

/-- A marker's phase error and its place in the two counts; a second copy of a marker counts once. -/
def Clock.measure (k : Clock) (m : MarkerMsg) (e : Int) : Clock :=
  let again := decide (k.sinceMarker = 0) && decide (k.markStride = m.stride) && decide (k.pacerNode = m.pacerNode)
  let g := if again then k.markGood else k.good
  let b := if again then k.markBad else k.bad
  { k with phasePs := e, phaseMaxLap := max k.phaseMaxLap e.natAbs, pacerNode := m.pacerNode, sinceMarker := 0
           markStride := m.stride, markAcc := m.accDelayPs, markGood := g, markBad := b
           good := if inPhase e then g + 1 else 0, bad := if inPhase e then 0 else b + 1 }

/-- The pacer's stride number is taken over (R37). -/
def Clock.takeStride (k : Clock) (n : Nat) : Clock :=
  { k with stride := n, offset := (n : Int) - k.stride, shift := k.shift + ((n : Int) - k.stride), sync := .locked, awaitLap := false
           bad := 0, correction := 0 }

/-- ACQUIRING: one stride is lengthened, never shortened, until |e| is within 4 ns (R37). -/
def Clock.pullIn (k : Clock) (e : Int) : Clock :=
  { k with correction := if e.natAbs ≤ 4000 then 0 else ticksOf (-e) % (k.ticks : Int), awaitLap := decide (4 ≤ k.good) }

/-- What a measured marker does in each state. -/
def Chip.track (c : Chip) (m : MarkerMsg) (e : Int) : Chip :=
  match c.clk.sync with
  | .free => c
  | .acquiring =>
    if c.clk.awaitLap ∧ inPhase e ∧ m.stride % 256 = 0 then c.onClk (fun k => k.takeStride m.stride)
    else c.onClk (fun k => k.pullIn e)
  | .locked =>
    if 4 ≤ c.clk.bad then (c.onClk Clock.acquire).aside (fun c => c.faultAndClear 0xB3 3 (some (c.clk.stride % 2 ^ 40)))
    else c.onClk (fun k => { k with correction := clamp4 (ticksOf (-e)) })
  | .holdover =>
    if 4 ≤ c.clk.good then c.onClk (fun k => { k with sync := .locked, holdStrides := 0, correction := clamp4 (ticksOf (-e)) }) else c

/-- A marker of a member with this unit's stride, other than its own. -/
def Chip.validMarker (c : Chip) (port : Nat) (m : MarkerMsg) : Bool :=
  c.clk.running && decide (c.clk.sync ≠ .free) && (decide (port = 1) || decide (port = 2)) && decide ((c.port port).pstate = 2) &&
    decide (m.pacerNode ≠ c.straps.nodeId) && decide (m.pacerNode ∈ c.ring.members) && decide (m.strideTicks = c.clk.ticks)

/-- A marker of a member with a lower node ID is noted (R315). -/
def Clock.hearLower (k : Clock) : Clock :=
  { k with lowerRun := if k.lowerThis then k.lowerRun else k.lowerRun + 1, lowerThis := true, sinceLower := 0 }

/-- The marker is of the lowest node heard: a higher one counts once the lower has been missing for 8 strides.
[DEDUCED, notes/assumptions/15.md] -/
def Clock.follows (k : Clock) (m : MarkerMsg) : Bool := decide (m.pacerNode ≤ k.pacerNode) || decide (8 ≤ k.sinceMarker)

/-- The other copy of the marker just used came by a shorter way (R316). [DEDUCED, notes/assumptions/15.md] -/
def Clock.worseCopy (k : Clock) (m : MarkerMsg) : Bool :=
  decide (k.sinceMarker = 0) && decide (k.markStride = m.stride) && decide (k.pacerNode = m.pacerNode) && decide (k.markAcc ≤ m.accDelayPs)

/-- MARKER. [DEDUCED, notes/assumptions/15.md] -/
def Chip.timeMarker (c : Chip) (port : Nat) (m : MarkerMsg) (arrivalPs : Int) : Chip :=
  if !c.validMarker port m then c
  else
    let c := if m.pacerNode < c.straps.nodeId then c.onClk Clock.hearLower else c
    if c.clk.pacer then
      (if 4 ≤ c.clk.lowerRun then (c.onClk (fun k => { k.acquire with pacerNode := m.pacerNode })).aside (fun c => c.ringRecord 4 (some m.pacerNode)) else c)
    else if !c.clk.follows m || c.clk.worseCopy m then c
    else
      let e := c.phaseError port m arrivalPs
      (c.onClk (fun k => k.measure m e)).track m e

def execMarker (port : Nat) (m : MarkerMsg) (arrivalPs : Int) (s : State) : Host.Outcome State Fault Refusal :=
  s.clockEffect (fun c => (c.timeMarker port m arrivalPs).aside Chip.noteLocked)

/-- MARKER_LOSS: 8 strides without a valid marker (R39). -/
def Clock.markerLoss (k : Clock) : Clock :=
  if k.sync = .locked ∧ !k.pacer ∧ 8 ≤ k.sinceMarker then { k with sync := .holdover, good := 0, bad := 0, holdStrides := 0 } else k

def execMarkerLoss (s : State) : Host.Outcome State Fault Refusal := s.clockEffect (fun c => c.onClk Clock.markerLoss)

/-- HOLDOVER_EXPIRY: 256 strides of it (R39). -/
def Clock.holdoverExpiry (k : Clock) : Clock :=
  if k.sync = .holdover ∧ 256 ≤ k.holdStrides then { k.acquire with pacerNode := 255 } else k

def execHoldoverExpiry (s : State) : Host.Outcome State Fault Refusal := s.clockEffect (fun c => c.onClk Clock.holdoverExpiry)

/-- The conditions of R315. -/
def Chip.mayPace (c : Chip) : Bool :=
  let me := c.straps.nodeId
  c.clk.running && c.clk.locked && !c.clk.pacer && decide (me ∈ c.ring.members) && decide (c.clk.sync ≠ .free) &&
    c.elapsedMs c.clk.startNs (c.val 0x3C0A) && decide (256 ≤ c.clk.sinceLower) &&
    c.ring.members.all (fun n => decide (me ≤ n) || !c.nodeValid n)

/-- PACER_ELECTION: the new pacer keeps its own stride number (R315). -/
def Chip.pacerElection (c : Chip) : Chip :=
  if c.mayPace then
    (c.onClk (fun k => { k with pacer := true, sync := .locked, offset := 0, pacerNode := c.straps.nodeId, correction := 0
                                pacerChanges := k.pacerChanges + 1, good := 0, bad := 0, awaitLap := false, holdStrides := 0
                                lowerRun := 0 })).aside (fun c => c.ringRecord 5 (some c.straps.nodeId))
  else c

def execPacerElection (s : State) : Host.Outcome State Fault Refusal :=
  s.clockEffect (fun c => c.pacerElection.aside Chip.noteLocked)

end Sys2Proof.Machine
end

