-- ==== Sys2Proof/Machine/Dispatch.lean ====
section
/-! DEFINITION. One arm for each command: its meaning, called by name. -/

namespace Sys2Proof.Machine

/-- The effect of a command on everything but the queue of waiting commands. -/
def exec (i : Instr) (s : State) : Host.Outcome State Fault Refusal :=
  match i with
  | .strideBoundary handed => Sys2Proof.Machine.execStrideBoundary handed s
  | .planCutoff => Sys2Proof.Machine.execPlanCutoff s
  | .engineStepComplete engine step => Sys2Proof.Machine.execEngineStepComplete engine step s
  | .lapBoundary sample => Sys2Proof.Machine.execLapBoundary sample s
  | .timebaseUnlock => Sys2Proof.Machine.execTimebaseUnlock s
  | .timebaseRelock => Sys2Proof.Machine.execTimebaseRelock s
  | .marker port m arrivalPs => Sys2Proof.Machine.execMarker port m arrivalPs s
  | .markerLoss => Sys2Proof.Machine.execMarkerLoss s
  | .holdoverExpiry => Sys2Proof.Machine.execHoldoverExpiry s
  | .pacerElection => Sys2Proof.Machine.execPacerElection s
  | .read queue cid => Sys2Proof.Machine.execRead queue cid s
  | .write queue cid => Sys2Proof.Machine.execWrite queue cid s
  | .flush queue cid => Sys2Proof.Machine.execFlush queue cid s
  | .deallocate queue cid => Sys2Proof.Machine.execDeallocate queue cid s
  | .writeZeroes queue cid => Sys2Proof.Machine.execWriteZeroes queue cid s
  | .abort cid => Sys2Proof.Machine.execAbort cid s
  | .getLog cid => Sys2Proof.Machine.execGetLog cid s
  | .dictRead cid => Sys2Proof.Machine.execDictRead cid s
  | .dictWrite cid => Sys2Proof.Machine.execDictWrite cid s
  | .pisteCreate cid => Sys2Proof.Machine.execPisteCreate cid s
  | .pisteDelete cid => Sys2Proof.Machine.execPisteDelete cid s
  | .pisteReshape cid => Sys2Proof.Machine.execPisteReshape cid s
  | .rebuildStart cid => Sys2Proof.Machine.execRebuildStart cid s
  | .sweep cid => Sys2Proof.Machine.execSweep cid s
  | .groomForce cid => Sys2Proof.Machine.execGroomForce cid s
  | .memberRemove cid => Sys2Proof.Machine.execMemberRemove cid s
  | .memberAdd cid => Sys2Proof.Machine.execMemberAdd cid s
  | .handleQuery cid => Sys2Proof.Machine.execHandleQuery cid s
  | .handleCancel cid => Sys2Proof.Machine.execHandleCancel cid s
  | .vaultTest cid => Sys2Proof.Machine.execVaultTest cid s
  | .undefinedOpcode queue => Sys2Proof.Machine.execUndefinedOpcode queue s
  | .sqTailDoorbell queue value requester => Sys2Proof.Machine.execSqTailDoorbell queue value requester s
  | .cqHeadDoorbell queue value => Sys2Proof.Machine.execCqHeadDoorbell queue value s
  | .queueEnable queue => Sys2Proof.Machine.execQueueEnable queue s
  | .queueDisable queue => Sys2Proof.Machine.execQueueDisable queue s
  | .queueDrained queue => Sys2Proof.Machine.execQueueDrained queue s
  | .cqiEnable value => Sys2Proof.Machine.execCqiEnable value s
  | .eventsDroppedClear => Sys2Proof.Machine.execEventsDroppedClear s
  | .registerWrite target size value => Sys2Proof.Machine.execRegisterWrite target size value s
  | .submissionFetch => Sys2Proof.Machine.execSubmissionFetch s
  | .hostReadCompletion tag outcome => Sys2Proof.Machine.execHostReadCompletion tag outcome s
  | .completionTimeout tag => Sys2Proof.Machine.execCompletionTimeout tag s
  | .tagQuarantineExpiry tag => Sys2Proof.Machine.execTagQuarantineExpiry tag s
  | .windowWrite offset size value requester => Sys2Proof.Machine.execWindowWrite offset size value requester s
  | .mailboxRead => Sys2Proof.Machine.execMailboxRead s
  | .mailboxWrite requester => Sys2Proof.Machine.execMailboxWrite requester s
  | .msixUnmask vector => Sys2Proof.Machine.execMsixUnmask vector s
  | .busMasterDisable => Sys2Proof.Machine.execBusMasterDisable s
  | .busMasterEnable => Sys2Proof.Machine.execBusMasterEnable s
  | .bmeClearLimitExpiry => Sys2Proof.Machine.execBmeClearLimitExpiry s
  | .powerStateD3hot => Sys2Proof.Machine.execPowerStateD3hot s
  | .powerStateD0 => Sys2Proof.Machine.execPowerStateD0 s
  | .functionLevelReset => Sys2Proof.Machine.execFunctionLevelReset s
  | .flrComplete => Sys2Proof.Machine.execFlrComplete s
  | .hostLinkDown => Sys2Proof.Machine.execHostLinkDown s
  | .hotReset => Sys2Proof.Machine.execHotReset s
  | .perstNAssert => Sys2Proof.Machine.execPerstNAssert s
  | .perstNRelease => Sys2Proof.Machine.execPerstNRelease s
  | .hostLinkReady speed width flit => Sys2Proof.Machine.execHostLinkReady speed width flit s
  | .gateAdmit => Sys2Proof.Machine.execGateAdmit s
  | .allowanceAdmit piste => Sys2Proof.Machine.execAllowanceAdmit piste s
  | .gateWaitFallback piste => Sys2Proof.Machine.execGateWaitFallback piste s
  | .writeBackResume piste => Sys2Proof.Machine.execWriteBackResume piste s
  | .cacheModeWriteBack piste => Sys2Proof.Machine.execCacheModeWriteBack piste s
  | .partialHoldExpiry piste stripe => Sys2Proof.Machine.execPartialHoldExpiry piste stripe s
  | .memberCommandComplete slot id outcome => Sys2Proof.Machine.execMemberCommandComplete slot id outcome s
  | .journalReplay => Sys2Proof.Machine.execJournalReplay s
  | .replayDone => Sys2Proof.Machine.execReplayDone s
  | .zoneVerify slot zone => Sys2Proof.Machine.execZoneVerify slot zone s
  | .mapWritebackDue piste page => Sys2Proof.Machine.execMapWritebackDue piste page s
  | .zoneReclaim slot zone => Sys2Proof.Machine.execZoneReclaim slot zone s
  | .groomVictim piste => Sys2Proof.Machine.execGroomVictim piste s
  | .censusComplete piste => Sys2Proof.Machine.execCensusComplete piste s
  | .readDeadlineMiss slot id => Sys2Proof.Machine.execReadDeadlineMiss slot id s
  | .errorBucketLeak => Sys2Proof.Machine.execErrorBucketLeak s
  | .graceExpiry slot => Sys2Proof.Machine.execGraceExpiry slot s
  | .resyncDone slot => Sys2Proof.Machine.execResyncDone slot s
  | .rebuildSlotDone piste slot => Sys2Proof.Machine.execRebuildSlotDone piste slot s
  | .priorityPassEnd piste item => Sys2Proof.Machine.execPriorityPassEnd piste item s
  | .drainDone slot => Sys2Proof.Machine.execDrainDone slot s
  | .copybackDone piste slot => Sys2Proof.Machine.execCopybackDone piste slot s
  | .lostHoldExpiry piste stripe => Sys2Proof.Machine.execLostHoldExpiry piste stripe s
  | .sweepEnd handle => Sys2Proof.Machine.execSweepEnd handle s
  | .groomForceDone handle => Sys2Proof.Machine.execGroomForceDone handle s
  | .pisteZeroingDone piste => Sys2Proof.Machine.execPisteZeroingDone piste s
  | .pisteStopped piste => Sys2Proof.Machine.execPisteStopped piste s
  | .pisteDeleteDone piste => Sys2Proof.Machine.execPisteDeleteDone piste s
  | .pisteStop piste writer => Sys2Proof.Machine.execPisteStop piste writer s
  | .pisteStart piste writer => Sys2Proof.Machine.execPisteStart piste writer s
  | .directoryChangeDurable generation => Sys2Proof.Machine.execDirectoryChangeDurable generation s
  | .reshapeFinish piste => Sys2Proof.Machine.execReshapeFinish piste s
  | .reshapeResume piste => Sys2Proof.Machine.execReshapeResume piste s
  | .memberCommandTimeout slot id => Sys2Proof.Machine.execMemberCommandTimeout slot id s
  | .abortTimeout slot id => Sys2Proof.Machine.execAbortTimeout slot id s
  | .memberLinkFault slot cause => Sys2Proof.Machine.execMemberLinkFault slot cause s
  | .containmentRelease slot writer linkUp identityOk => Sys2Proof.Machine.execContainmentRelease slot writer linkUp identityOk s
  | .containmentAutoRelease slot linkUp identityOk => Sys2Proof.Machine.execContainmentAutoRelease slot linkUp identityOk s
  | .containmentWindowExpiry slot => Sys2Proof.Machine.execContainmentWindowExpiry slot s
  | .containedPresenceLoss slot => Sys2Proof.Machine.execContainedPresenceLoss slot s
  | .sgpioFrame stream inputs => Sys2Proof.Machine.execSgpioFrame stream inputs s
  | .buttonPress slot => Sys2Proof.Machine.execButtonPress slot s
  | .removalWindowEnd slot => Sys2Proof.Machine.execRemovalWindowEnd slot s
  | .refusalSignalEnd slot => Sys2Proof.Machine.execRefusalSignalEnd slot s
  | .shutdownComplete slot => Sys2Proof.Machine.execShutdownComplete slot s
  | .shutdownWaitExpiry slot => Sys2Proof.Machine.execShutdownWaitExpiry slot s
  | .surpriseRemoval slot => Sys2Proof.Machine.execSurpriseRemoval slot s
  | .presenceDebounced slot => Sys2Proof.Machine.execPresenceDebounced slot s
  | .slotPowerGroup => Sys2Proof.Machine.execSlotPowerGroup s
  | .powerGood slot => Sys2Proof.Machine.execPowerGood slot s
  | .powerGoodTimeout slot => Sys2Proof.Machine.execPowerGoodTimeout slot s
  | .insertionWaitTimeout slot => Sys2Proof.Machine.execInsertionWaitTimeout slot s
  | .controllerReady slot report => Sys2Proof.Machine.execControllerReady slot report s
  | .slotEnable slot value writer => Sys2Proof.Machine.execSlotEnable slot value writer s
  | .partnerHb hb => Sys2Proof.Machine.execPartnerHb hb s
  | .partnerSilent => Sys2Proof.Machine.execPartnerSilent s
  | .leaseReply src reply => Sys2Proof.Machine.execLeaseReply src reply s
  | .lease src request => Sys2Proof.Machine.execLease src request s
  | .judgeAcquireWindowEnd record => Sys2Proof.Machine.execJudgeAcquireWindowEnd record s
  | .judgeProtectionEnd record => Sys2Proof.Machine.execJudgeProtectionEnd record s
  | .leaseWriteStop => Sys2Proof.Machine.execLeaseWriteStop s
  | .leaseExpiry => Sys2Proof.Machine.execLeaseExpiry s
  | .takeoverServing => Sys2Proof.Machine.execTakeoverServing s
  | .fenceHoldEnd => Sys2Proof.Machine.execFenceHoldEnd s
  | .handover writer => Sys2Proof.Machine.execHandover writer s
  | .handoverDrained => Sys2Proof.Machine.execHandoverDrained s
  | .syncComplete => Sys2Proof.Machine.execSyncComplete s
  | .forceTakeover writer => Sys2Proof.Machine.execForceTakeover writer s
  | .watchHbLoss => Sys2Proof.Machine.execWatchHbLoss s
  | .watchDeadline => Sys2Proof.Machine.execWatchDeadline s
  | .utoferLinkUp port lanes => Sys2Proof.Machine.execUtoferLinkUp port lanes s
  | .flitReceive port raw => Sys2Proof.Machine.execFlitReceive port raw s
  | .utoferAckTimeout port => Sys2Proof.Machine.execUtoferAckTimeout port s
  | .utoferRecoveryTimeout port => Sys2Proof.Machine.execUtoferRecoveryTimeout port s
  | .pLinkUp peer lanes => Sys2Proof.Machine.execPLinkUp peer lanes s
  | .mirrorData seq piste hostBlock cacheState data => Sys2Proof.Machine.execMirrorData seq piste hostBlock cacheState data s
  | .mirrorRecord seq record => Sys2Proof.Machine.execMirrorRecord seq record s
  | .strideEnd stride lastSeq => Sys2Proof.Machine.execStrideEnd stride lastSeq s
  | .mirrorAccept seq => Sys2Proof.Machine.execMirrorAccept seq s
  | .mirrorBulk item => Sys2Proof.Machine.execMirrorBulk item s
  | .ringHb src hb => Sys2Proof.Machine.execRingHb src hb s
  | .ringMemberLost node => Sys2Proof.Machine.execRingMemberLost node s
  | .echoReq port t1 t2 t3 => Sys2Proof.Machine.execEchoReq port t1 t2 t3 s
  | .echoReply port t1 turnaround t4 => Sys2Proof.Machine.execEchoReply port t1 turnaround t4 s
  | .hello port h => Sys2Proof.Machine.execHello port h s
  | .roster src entries => Sys2Proof.Machine.execRoster src entries s
  | .nodeAlias src claimed claimant epoch claim => Sys2Proof.Machine.execNodeAlias src claimed claimant epoch claim s
  | .unitResetMsg src target logSeq => Sys2Proof.Machine.execUnitResetMsg src target logSeq s
  | .pisteCheck src tag descriptor => Sys2Proof.Machine.execPisteCheck src tag descriptor s
  | .pisteCheckReply src tag result => Sys2Proof.Machine.execPisteCheckReply src tag result s
  | .stripRead src ref first count cls tag => Sys2Proof.Machine.execStripRead src ref first count cls tag s
  | .stripData src ref tag blocks => Sys2Proof.Machine.execStripData src ref tag blocks s
  | .stripWrite src ref memberSet parityCheck first count columns => Sys2Proof.Machine.execStripWrite src ref memberSet parityCheck first count columns s
  | .stripFail src ref tag reason => Sys2Proof.Machine.execStripFail src ref tag reason s
  | .written src ref => Sys2Proof.Machine.execWritten src ref s
  | .call src ref => Sys2Proof.Machine.execCall src ref s
  | .report src ref => Sys2Proof.Machine.execReport src ref s
  | .recall src ref => Sys2Proof.Machine.execRecall src ref s
  | .state src ref => Sys2Proof.Machine.execState src ref s
  | .missed src ref => Sys2Proof.Machine.execMissed src ref s
  | .resolve src ref => Sys2Proof.Machine.execResolve src ref s
  | .commitRetryExpiry piste stripe generation => Sys2Proof.Machine.execCommitRetryExpiry piste stripe generation s
  | .missedRepeat piste stripe generation => Sys2Proof.Machine.execMissedRepeat piste stripe generation s
  | .ringResetNode node writer => Sys2Proof.Machine.execRingResetNode node writer s
  | .discover frame => Sys2Proof.Machine.execDiscover frame s
  | .syncReq frame => Sys2Proof.Machine.execSyncReq frame s
  | .adpRead frame => Sys2Proof.Machine.execAdpRead frame s
  | .adpWrite frame => Sys2Proof.Machine.execAdpWrite frame s
  | .pairWrite frame => Sys2Proof.Machine.execPairWrite frame s
  | .vaultHb frame => Sys2Proof.Machine.execVaultHb frame s
  | .vaultEnd frame => Sys2Proof.Machine.execVaultEnd frame s
  | .safeNotice frame => Sys2Proof.Machine.execSafeNotice frame s
  | .adpReply frame => Sys2Proof.Machine.execAdpReply frame s
  | .adpRequestTimeout toJudge => Sys2Proof.Machine.execAdpRequestTimeout toJudge s
  | .phyResetDetected readBackOk badRegister => Sys2Proof.Machine.execPhyResetDetected readBackOk badRegister s
  | .rightsSet value writer => Sys2Proof.Machine.execRightsSet value writer s
  | .adpKeyWrite slot key writer => Sys2Proof.Machine.execAdpKeyWrite slot key writer s
  | .settingsCommit => Sys2Proof.Machine.execSettingsCommit s
  | .dictWriteOther index sub value writer => Sys2Proof.Machine.execDictWriteOther index sub value writer s
  | .vinWarn mv => Sys2Proof.Machine.execVinWarn mv s
  | .vinSwitch mv => Sys2Proof.Machine.execVinSwitch mv s
  | .vinReset mv => Sys2Proof.Machine.execVinReset mv s
  | .braceExit => Sys2Proof.Machine.execBraceExit s
  | .vaultComplete durationMs => Sys2Proof.Machine.execVaultComplete durationMs s
  | .vaultCutoff => Sys2Proof.Machine.execVaultCutoff s
  | .vaultDriveLost drive => Sys2Proof.Machine.execVaultDriveLost drive s
  | .vaultInputRecovered => Sys2Proof.Machine.execVaultInputRecovered s
  | .packLeavesConnected cause => Sys2Proof.Machine.execPackLeavesConnected cause s
  | .chargerCv => Sys2Proof.Machine.execChargerCv s
  | .startRestEnd packUv tempDc moved60sUv => Sys2Proof.Machine.execStartRestEnd packUv tempDc moved60sUv s
  | .resistanceStepMeasure deltaUv tempDc => Sys2Proof.Machine.execResistanceStepMeasure deltaUv tempDc s
  | .chargerPauseStart => Sys2Proof.Machine.execChargerPauseStart s
  | .chargerPauseEnd packUv tempDc => Sys2Proof.Machine.execChargerPauseEnd packUv tempDc s
  | .pauseWindowFail => Sys2Proof.Machine.execPauseWindowFail s
  | .packReplaced writer => Sys2Proof.Machine.execPackReplaced writer s
  | .vaultTestEnd rateMbs writtenMib durationMs sagUv => Sys2Proof.Machine.execVaultTestEnd rateMbs writtenMib durationMs sagUv s
  | .shipMode value writer => Sys2Proof.Machine.execShipMode value writer s
  | .shipModeOpen => Sys2Proof.Machine.execShipModeOpen s
  | .packReconnect packUv tempDc => Sys2Proof.Machine.execPackReconnect packUv tempDc s
  | .memoryCorrected region address bit => Sys2Proof.Machine.execMemoryCorrected region address bit s
  | .memoryUncorrectable region address content channel => Sys2Proof.Machine.execMemoryUncorrectable region address content channel s
  | .mergeEntryTimeout entry region address oldCorrectable content => Sys2Proof.Machine.execMergeEntryTimeout entry region address oldCorrectable content s
  | .dmaHaltRestart channel => Sys2Proof.Machine.execDmaHaltRestart channel s
  | .scrubStart descriptor writer => Sys2Proof.Machine.execScrubStart descriptor writer s
  | .scrubCancel writer => Sys2Proof.Machine.execScrubCancel writer s
  | .scrubEnd => Sys2Proof.Machine.execScrubEnd s
  | .patrolScrub lines => Sys2Proof.Machine.execPatrolScrub lines s
  | .faultMessage source kind address => Sys2Proof.Machine.execFaultMessage source kind address s
  | .faultTimerExpiry source => Sys2Proof.Machine.execFaultTimerExpiry source s
  | .faultClear value writer => Sys2Proof.Machine.execFaultClear value writer s
  | .faultForce source kind writer => Sys2Proof.Machine.execFaultForce source kind writer s
  | .recorderFlush writer => Sys2Proof.Machine.execRecorderFlush writer s
  | .recorderFlushPeriodic => Sys2Proof.Machine.execRecorderFlushPeriodic s
  | .recorderCheckpoint => Sys2Proof.Machine.execRecorderCheckpoint s
  | .coldPowerOn inputs => Sys2Proof.Machine.execColdPowerOn inputs s
  | .resetNAssert us => Sys2Proof.Machine.execResetNAssert us s
  | .resetNRelease inputs => Sys2Proof.Machine.execResetNRelease inputs s
  | .firmwareStart => Sys2Proof.Machine.execFirmwareStart s
  | .memberWaitEnd => Sys2Proof.Machine.execMemberWaitEnd s
  | .unitReset value writer => Sys2Proof.Machine.execUnitReset value writer s
  | .railFault => Sys2Proof.Machine.execRailFault s
  | .imageChunk payload writer => Sys2Proof.Machine.execImageChunk payload writer s
  | .imageCommit found writer => Sys2Proof.Machine.execImageCommit found writer s
  | .memberLinkUp slot speed width => Sys2Proof.Machine.execMemberLinkUp slot speed width s
  | .presenceLost slot => Sys2Proof.Machine.execPresenceLost slot s
  | .vinResetRelease => Sys2Proof.Machine.execVinResetRelease s
  | .packConnected packMv tempDc => Sys2Proof.Machine.execPackConnected packMv tempDc s
  | .adpUnsupported frame => Sys2Proof.Machine.execAdpUnsupported frame s

end Sys2Proof.Machine
end

