-- ==== Sys2Proof/Safety.lean ====
section
/-! DEFINITION. What counts as a safe run of the block, and the words the statements use: the state a command leaves, that a
command goes on, the legal states of the stride clock, a frame that arrives, a command that stands at the head of its queue. -/

namespace Sys2Proof.Machine

/-- The queue of commands keeps its order: a step that goes on takes the front command off it. -/
def takesFront (s t : State) : Prop := t.pending = s.pending.tail

/-- A state a run can reach in some number of steps. -/
inductive Reaches (s : State) : State → Prop where
  | refl : Reaches s s
  | step {t u : State} : Reaches s t → step t = .next u → Reaches s u

/-! ### The state a command leaves -/

/-- The command goes on, and what it leaves is so. -/
def Leads (i : Instr) (s : State) (p : State → Prop) : Prop := ∃ t, exec i s = .next t ∧ p t

/-- The state after a command whose own effect on the chip is `c`: the tables mirrored, its messages sent as flits, the change
counts brought up to date, the waiting commands kept. -/
def State.leaves (s : State) (c : Chip) : State := { s with toChip := Chip.afterCommand s.toChip c }

/-- The same for a command outside the clock's families: the stride clock and the straps stand, whatever `c` holds there. -/
def State.left (s : State) (c : Chip) : State := s.leaves { c with clk := s.clk, straps := s.straps }

/-- The same for a command of the ring: its state is worked out again where the command asks for it. -/
def State.ringLeft (s : State) (c : Chip) : State := s.leaves (Chip.ringSettle { c with clk := s.clk, straps := s.straps })

/-- The same for a command that may lead to a reset, which follows it at once. -/
def State.resetLeft (s : State) (c : Chip) : State :=
  s.leaves (Chip.resetSettle (Chip.ringSettle { c with clk := s.clk, straps := s.straps }))

/-- Two chips that differ in nothing but what reporting a command touches: the change counts, the ports of the ring, what has left
the chip, the mirror stream's number and queue. -/
def Chip.sameBut (a b : Chip) : Prop :=
  a = { b with ring := { b.ring with ports := a.ring.ports, msgId := a.ring.msgId }
               dict := { b.dict with changes := a.dict.changes }
               out := a.out
               pair := { b.pair with mirrorSeq := a.pair.mirrorSeq, mirrorQueue := a.pair.mirrorQueue } }

/-- The data path stands: the members and their queues, the strips being collected, the pistes, the cache, the journal, the
dirty-region logs, the engines and the piste directory. -/
def dataStands (s t : State) : Prop :=
  t.members = s.members ∧ t.gathers = s.gathers ∧ t.pistes = s.pistes ∧ t.cache = s.cache ∧ t.journal = s.journal ∧ t.logs = s.logs ∧
    t.sched = s.sched ∧ t.dir = s.dir

/-- The queue interface and the host port stand. -/
def hostStands (s t : State) : Prop := t.cqi = s.cqi ∧ t.host = s.host

/-- The control side stands: supply and pack, memory integrity, faults, the start, the management network. -/
def controlStands (s t : State) : Prop :=
  t.power = s.power ∧ t.mem = s.mem ∧ t.faults = s.faults ∧ t.start = s.start ∧ t.adp = s.adp

/-! ### The stride clock -/

/-- The stride clock and the node ID are in a state the rules allow (R16, R36 to R40, R312, R315): a node ID of 5 bits, a stride of at
least one tick, no pacer known and no correction outside a ring, a pacer that is LOCKED and names itself, corrections of at most 4
ticks once it no longer acquires, and none that shortens a stride while it does. -/
def ClockLegal (c : Chip) : Prop :=
  c.straps.nodeId < 32 ∧ 0 < c.clk.ticks ∧
    (c.clk.sync = .free → c.clk.pacer = false ∧ c.clk.pacerNode = 255 ∧ c.clk.correction = 0) ∧
    (c.clk.pacer = true → c.clk.sync = .locked ∧ c.clk.pacerNode = c.straps.nodeId ∧ c.clk.correction = 0) ∧
    (c.clk.awaitLap = true → c.clk.sync = .acquiring) ∧
    (c.clk.sync ≠ .acquiring → -4 ≤ c.clk.correction ∧ c.clk.correction ≤ 4) ∧
    (c.clk.sync = .acquiring → 0 ≤ c.clk.correction) ∧
    (c.clk.good = 0 ∨ c.clk.bad = 0) ∧
    (c.clk.holdStrides ≠ 0 → c.clk.sync = .holdover)

/-- The commands that may change the stride clock or the straps: the clock's own, those of the ring's membership and time, the power
groups before the clock runs, and those that lead to a start or a reset. -/
def movesClock : Instr → Bool
  | .strideBoundary _ | .lapBoundary _ | .timebaseUnlock | .timebaseRelock | .marker _ _ _ | .markerLoss | .holdoverExpiry
  | .pacerElection | .ringHb _ _ | .ringMemberLost _ | .echoReply _ _ _ _ | .hello _ _ | .roster _ _ | .nodeAlias _ _ _ _ _
  | .utoferLinkUp _ _ | .pLinkUp _ _ | .utoferRecoveryTimeout _ | .slotPowerGroup | .firmwareStart | .coldPowerOn _
  | .resetNAssert _ | .resetNRelease _ | .unitReset _ _ | .unitResetMsg _ _ _ | .railFault | .vinReset _ | .vinResetRelease
  | .vaultInputRecovered | .dictWrite _ | .windowWrite _ _ _ _ | .mailboxWrite _ | .adpWrite _ | .pairWrite _
  | .dictWriteOther _ _ _ _ => true
  | _ => false

/-! ### Frames of the management network -/

/-- A frame reaches the unit: its network is up, its MAC takes the frame, and the tag is good under the key of its slot (R343, R347). -/
def Arrives (c : Chip) (f : AdpFrame) : Prop :=
  c.adp.astate = 2 ∧ c.macTakes f = true ∧
    ∃ key, c.dict.keys.find f.keySlot = some key ∧ hmacTag key (frameBytes f) = f.tag

/-- A request of version 1 that arrives on a session the unit holds (R348). -/
def Requests (c : Chip) (f : AdpFrame) (x : Session) : Prop :=
  Arrives c f ∧ f.reply = false ∧ f.version = 1 ∧ c.session f.session = some x

/-- The session's counters once a frame of it is taken (R348). -/
def Chip.heard (c : Chip) (f : AdpFrame) : Chip :=
  (c.bump 0x4030).updSession f.session (fun s => { s with lastLap := (c.bump 0x4030).lap })

/-- The session once a new request of it is processed: it is the highest, and no reply is stored for it yet (R349). -/
def Chip.opened (c : Chip) (f : AdpFrame) : Chip :=
  (c.heard f).updSession f.session (fun s => { s with highest := f.seq, stored := none })

/-! ### Flits (R303, R304, R307) -/

/-- The flit in 256 bytes that arrive, their corrections made. -/
def flitOf (raw : Bytes) : TxFlit := parseFlit (correctFlit raw).1

/-- Its sequence number. -/
def fsnOf (raw : Bytes) : Nat := bitsAt (leAt (correctFlit raw).1 0 10) 4 12

/-- Its CRC is the one it carries. -/
def flitCrcGood (raw : Bytes) : Bool := decide (crc64 ((correctFlit raw).1.take 242) = leAt (correctFlit raw).1 242 8)

/-- The corrections made are counted. -/
def Chip.corrected (c : Chip) (p : Nat) (raw : Bytes) : Chip :=
  if (correctFlit raw).2 = 0 then c else c.bump 0x3C14 p (correctFlit raw).2

/-- The header of a good flit is taken: its acknowledgement, its credits, its NAK. -/
def Chip.flitHeard (c : Chip) (p : Nat) (raw : Bytes) : Chip := (c.corrected p raw).takeHeader p (leAt (correctFlit raw).1 0 10)

/-- The sequence number a port takes next. -/
def Chip.wanted (c : Chip) (p : Nat) : Nat := ((c.port p).ack + 1) % 4096

/-! ### The head of a submission ring -/

/-- A command of queue 0 stands at the ring's head, its checks are passed and its data is at hand (R195, R196, R228). -/
def Heads (s : State) (op cid : Nat) (f : Fetched) : Prop :=
  s.headOf 0 = some f ∧ (parseSub f.bytes).opcode = op ∧ (parseSub f.bytes).cid = cid ∧ (s.queue 0).qstate = 1 ∧
    s.checkSub 0 (parseSub f.bytes) = none ∧ (f.phase = 3 ∨ (parseSub f.bytes).mode ≠ 2 ∧ (parseSub f.bytes).needsData = false) ∧
    f.status = 0 ∧ f.breach = false

/-- A long-running command of queue 0 is begun: the entry accepted, the handle taken, its completion carrying the handle (R200). -/
def Chip.begun (c : Chip) (f : Fetched) (piste slot : Nat) : Chip :=
  let s := parseSub f.bytes
  let r := c.acceptHead f s
  let d := r.1.takeHandle slot (handleKind s.opcode) piste r.2.acc s.arg3
  d.complete 0 s.cid r.2.acc 0 (d.handle slot).value r.2.named []

end Sys2Proof.Machine
end

