-- ==== Sys2Proof/Certificates/Slice0/Obligations.lean ====
section
/-! DEFINITION. The statements for the provers: what a step is, what reset leaves, what no command moves, and family by family what each
command answers and what it leaves unchanged. `s.left c` is the state whose chip is `c` with what every command does besides (change
counts, output); an equation with it says all that the command changes. -/

open Sys2Proof Sys2Proof.Machine

/-- The block runs its commands one at a time, first in, first out: a step takes the command at the front of the queue and runs it with the
queue's rest. -/
def Obligations.StepRunsTheFrontCommand : Prop :=
  ∀ (s : State) (i : Instr), step { s with pending := i :: s.pending } = exec i s

/-- With no command waiting the block idles. The model's choice (notes/assumptions/2.md): what happens at a tick is a command's effect. -/
def Obligations.EmptyQueueIdles : Prop :=
  ∀ s : State, s.pending = [] → step s = .next s

/-- No step stops the machine, and every step takes the front command and no other off the queue: a command adds none. -/
def Obligations.EveryStepTakesOneCommand : Prop :=
  ∀ s : State, ∃ t, step s = .next t ∧ takesFront s t

/-- R6, R16, R256, R258, R272, R284, R441: after power is applied the stride clock does not run and stands free at the default stride, every
slot is empty and unpowered, every piste absent, no cache, journal, handle or queue holds anything, the unit leads alone, no fault is
pending, nothing is logged and no command waits. -/
def Obligations.ResetHoldsNothing : Prop :=
  State.reset.clk.running = false ∧ State.reset.clk.ticks = 4096 ∧ State.reset.clk.sync = .free ∧
  (∀ n, (State.reset.member n).slot = .empty ∧ (State.reset.member n).powerEnable = false) ∧
  (∀ p, (State.reset.piste p).state = .absent) ∧ (∀ n, (State.reset.entry n).state = .free) ∧
  State.reset.cache.blocks = [] ∧ State.reset.cqi.cmds = [] ∧ State.reset.cqi.queues = [] ∧
  State.reset.faults.pending = [] ∧ State.reset.faults.safe = false ∧ State.reset.recorder.circ = [] ∧ State.reset.dict.log = [] ∧
  State.reset.out = [] ∧ State.reset.pending = []

/-- The stride clock's legal states hold at reset. -/
def Obligations.ClockIsLegalAtReset : Prop := ClockLegal State.reset.toChip

/-- R16, R36 to R40, R312, R315: from any state with a legal stride clock, any step leads to one: a free node knows no pacer and takes no
correction, a pacer is LOCKED, names itself and takes none, corrections stay within 4 ticks outside ACQUIRING, which never shortens a
stride, good and bad markers are not counted together, and the holdover count runs in HOLDOVER alone. -/
def Obligations.ClockStaysLegal : Prop :=
  ∀ s t : State, ClockLegal s.toChip → step s = .next t → ClockLegal t.toChip

/-- No command outside the clock's families, whatever its operands and the state, moves the stride clock or the straps. -/
def Obligations.OtherCommandsLeaveTheClock : Prop :=
  ∀ (i : Instr) (s t : State), movesClock i = false → exec i s = .next t → t.clk = s.clk ∧ t.straps = s.straps

/-- What every command does besides its own effect on the chip touches the change counts, the ports of the ring, the mirror stream and
what has left the chip, which only grows: every other part of the state is as the effect left it, and the waiting commands are kept. -/
def Obligations.ReportingTouchesFourParts : Prop :=
  ∀ (s : State) (c : Chip), Chip.sameBut (s.leaves c).toChip c ∧ c.out <+: (s.leaves c).out ∧ (s.leaves c).pending = s.pending

/-- R26, R27: admission at a boundary admits a member's commands within the room its window leaves, each of them allowed, those of a class
that move payload in their order, the rest staying queued in theirs. -/
def Obligations.AdmissionKeepsOrderAndWindow : Prop :=
  ∀ (rate : Nat) (shares : List Nat) (ok : MCmd → Bool) (braced : Bool) (a : Admission), a.admitted = [] → a.queues.length = 8 →
    let b := admitMember rate shares ok braced a
    b.admitted.length + b.room = a.room ∧ (∀ k ∈ b.admitted, ok k = true) ∧
    (∀ cls, (atD b.queues cls []).filter (fun k => decide (k.bytes ≠ 0)) <:+ (atD a.queues cls []).filter (fun k => decide (k.bytes ≠ 0))) ∧
    (a.queues.flatten.Perm (b.admitted ++ b.queues.flatten))

/-- R29, R30: engine work is cut into steps of at most 32 KiB whose inputs add up to the work, each estimated at its input over 32, rounded
up, plus 16 clocks, and so at most at 1,040; and no work placed in an engine passes its budget. -/
def Obligations.EngineStepsAreCutAndFit : Prop :=
  (∀ (id cls job bytes : Nat), let l := cutSteps id cls job (max 1 (ceilDiv bytes 32768)) bytes
    sumOf l (fun x => x.bytes) = bytes ∧
    ∀ x ∈ l, x.bytes ≤ 32768 ∧ x.clocks = (x.bytes + 31) / 32 + 16 ∧ x.clocks ≤ 1040 ∧ x.cls = cls ∧ x.job = job) ∧
  (∀ (budget : Nat) (e f : KMap Engine) (x : EngineStep), placeStep budget e x = some f →
    ∃ i, i < 24 ∧ KMap.getD f i Engine.reset = { KMap.getD e i Engine.reset with loaded := (KMap.getD e i Engine.reset).loaded ++ [x] } ∧
      clocksOf (KMap.getD f i Engine.reset).loaded + (KMap.getD f i Engine.reset).carried ≤ budget ∧
      ∀ j, j ≠ i → KMap.getD f j Engine.reset = KMap.getD e j Engine.reset)

/-- R47, R48: for strips of one shape, every byte of P is the sum of the data strips' bytes there, and every byte of Q the sum of theirs
each times its power of g. -/
def Obligations.SyndromesAreR48 : Prop :=
  ∀ (cols : List (List Bytes)) (b w : Nat), (∀ d ∈ cols, d.length = b ∧ ∀ x ∈ d, x.length = w) →
    ∀ j t, j < b → t < w →
      byteAt (atD (parityP cols) j []) t = cols.foldl (fun a d => a ^^^ byteAt (atD d j []) t) 0 ∧
      byteAt (atD (parityQ cols) j []) t =
        (List.range cols.length).foldl (fun a i => a ^^^ gmul (gpow i) (byteAt (atD (atD cols i []) j []) t)) 0

/-- R50, Table 3.4: any two lost strips of a stripe of at most 30 data strips, data or parity, come back as they were from the others, and
so does any one. -/
def Obligations.TwoLostStripsComeBack : Prop :=
  ∀ (cols : List (List Bytes)) (b w x y : Nat), cols.length ≤ 30 → (∀ d ∈ cols, d.length = b ∧ ∀ z ∈ d, z.length = w) →
    x < y → y < cols.length + 2 →
    let k := cols.length
    let strip := fun c => if c < k then atD cols c [] else if c = k then parityP cols else parityQ cols
    let held : Columns := ((List.range (k + 2)).filter (fun c => decide (c ≠ x ∧ c ≠ y))).map (fun c => (c, strip c))
    (∃ m, solve k [x, y] held = some m ∧ ∀ c, c < k + 2 → KMap.find m c = some (strip c)) ∧
    (∃ m, solve k [x] (held.put y (strip y)) = some m ∧ ∀ c, c < k + 2 → KMap.find m c = some (strip c))

/-- R51 to R53, R55: every row of the placement table is a permutation of the members, so the k+2 strips of a stripe of an unreplaced piste lie on
members that differ; and a host block is found at the one place of its stripe that the translation back gives. -/
def Obligations.PlacementSpreadsEveryStripe : Prop :=
  (∀ seed n row : Nat, (tableRow seed n row).Perm (List.range n)) ∧
  (∀ (seed : Nat) (g : Geometry) (stripe i j : Nat), g.m ≠ 0 → g.m * (g.k + 2) ≤ g.n → i < g.k + 2 → j < g.k + 2 → i ≠ j →
    ∃ a b, stripIndex seed g [] stripe i = some a ∧ stripIndex seed g [] stripe j = some b ∧ a ≠ b ∧ a < g.n ∧ b < g.n) ∧
  (∀ (g : Geometry) (l : Nat), 0 < g.k →
    g.hostBlock (g.locate l).1 (g.locate l).2.1 (g.locate l).2.2 = l ∧ (g.locate l).2.1 < g.k ∧ (g.locate l).2.2 < g.b) ∧
  (∀ (g : Geometry) (stripe i o : Nat), i < g.k → o < g.b → g.locate (g.hostBlock stripe i o) = (stripe, i, o))

/-- R420, R422: a stored record takes the next number and stands last in its part of the recorder; after a start of any kind the first record, the
start marker, is numbered above every number saved before it, by the model's reading of "the next multiple" (notes/assumptions/8.md). -/
def Obligations.RecordsAreNumberedInOrder : Prop :=
  (∀ (c : Chip) (r : Rec), (c.storeRecord r).recorder.seq = c.recorder.seq + 1 ∧
    ((c.storeRecord r).recorder.circ.getLast?.map (fun x => x.seq)) = some (c.recorder.seq + 1) ∧
    (c.recorder.permanent.length < 512 →
      (c.storeRecord r).recorder.permanent.map (fun x => x.seq) = c.recorder.permanent.map (fun x => x.seq) ++ [c.recorder.seq + 1]) ∧
    (512 ≤ c.recorder.permanent.length → (c.storeRecord r).recorder.permanent = c.recorder.permanent)) ∧
  (∀ (k : Recorder) (kind : Nat), k.saved < (k.restarted kind).seq ∧ (k.restarted kind).seq % 2 ^ 40 = 0 ∧
    (k.restarted kind).seq ≤ k.saved + 2 ^ 40)

/-- R339: a key reads as zeros, and two writes of different keys leave the same change log and the same recorder. -/
def Obligations.KeysNeverLeave : Prop :=
  (∀ (c : Chip) (sub : Nat), sub ≤ 1 → c.readObject 0x4020 sub = some (List.replicate 32 0)) ∧
  (∀ (s : State) (slot : Nat) (k1 k2 : Bytes) (w : Writer), k1.length = k2.length →
    ∃ c1 c2, exec (.adpKeyWrite slot k1 w) s = .next (s.left c1) ∧ exec (.adpKeyWrite slot k2 w) s = .next (s.left c2) ∧
      c1.dict.log = c2.dict.log ∧ c1.recorder = c2.recorder)

/-- R380: object 0x441E reads 1,000 while the learn state is LEARNED or RELEARN, else the value of 0x441D, which is 800 at reset. -/
def Obligations.ConfidenceFollowsTheLearnState : Prop :=
  ∀ s : State,
    (s.power.learn = 1 ∨ s.power.learn = 2 → s.readObject 0x441E 0 = some (leBytes 2 1000)) ∧
    (s.power.learn = 0 ∨ s.power.learn = 3 → s.readObject 0x441E 0 = some (leBytes 2 (s.val 0x441D))) ∧
    s.readObject 0x441D 0 = some (leBytes 2 (s.val 0x441D)) ∧ State.reset.val 0x441D = 800

/-- R415: subindex n mod 256 of 0x4C21 to 0x4C24 holds the pending fault of source n: its stored message, its occurrence number, what its
timer has left and its repeats; or zeros. -/
def Obligations.PendingFaultsAreRead : Prop :=
  ∀ (s : State) (source : Nat), source < 1024 →
    (∀ p, s.faults.pending.find source = some p → s.readObject (0x4C21 + source / 256) (source % 256) =
      some (leBytes 8 p.message ++ leBytes 4 p.occurrence ++ leBytes 2 p.left ++ leBytes 2 p.repeats)) ∧
    (s.faults.pending.find source = none → s.readObject (0x4C21 + source / 256) (source % 256) = some (List.replicate 16 0))

/-- R359: a write to a supply level that would bring warn within 200 mV of switch, or switch within 400 mV of reset, is refused with reason
`range` (4): it is logged as refused, and that is all it does. -/
def Obligations.SupplyLevelsKeepTheirDistance : Prop :=
  ∀ (s : State) (w : Writer) (v : Nat), s.start.phase ≠ 6 → v < 65536 → s.filtered w = false →
    (∀ i ∈ [0x4400, 0x4401, 0x4402], ∀ o, s.object i 0 = some o → (s.rightsOf o).testBit (originCode w.origin) = true) →
    let refused := fun (i : Nat) => exec (.dictWriteOther i 0 (leBytes 2 v) w) s = .next (s.resetLeft
      (s.logChange i 0 w 4 0 (s.first8 i 0) v false).pumpHost)
    (v < s.val 0x4401 + 200 → refused 0x4400) ∧
    (s.val 0x4400 < v + 200 ∨ v < s.val 0x4402 + 400 → refused 0x4401) ∧
    (s.val 0x4401 < v + 400 → refused 0x4402)

/-- R16, R35 to R41: while the stride clock runs a stride boundary moves the clock on by one stride, unless a reset that waited for the
boundary follows; a lap boundary is performed once and closes the lap's largest phase error; an unlocked timebase is a fault and
leaves the ring, and a relocked one clears it. -/
def Obligations.BoundariesMoveTheClock : Prop :=
  (∀ (s : State) (h : Option Nat), s.clk.running = true →
    Leads (.strideBoundary h) s (fun t => (t.clk = s.clk.advance ∧ t.straps = s.straps) ∨ t.clk.running = false)) ∧
  (∀ k : Clock, k.advance.stride = k.stride + 1 ∧ k.advance.ticks = k.ticks ∧ k.advance.lapDone = false ∧ k.advance.running = k.running) ∧
  (∀ (s : State) (x : LapSample), s.clk.running = true → s.clk.stride % 256 = 0 → s.clk.lapDone = false →
    Leads (.lapBoundary x) s (fun t => t.clk.lapDone = true ∧ t.clk.phaseMaxLast = s.clk.phaseMaxLap ∧ t.clk.phaseMaxLap = 0 ∧
      t.clk.stride = s.clk.stride ∧ t.clk.running = true ∧ t.straps = s.straps)) ∧
  (∀ s : State, s.start.powered = true → s.clk.locked = true →
    exec .timebaseUnlock s = .next (s.leaves (Chip.ringUpdate (Chip.aside
      { s.toChip with clk := { s.clk with locked := false } }
      (fun c => (c.faultTake 0x40 2 none false).onRing (fun r => { r with rosterDue := true })))))) ∧
  (∀ s : State, s.clk.locked = false →
    exec .timebaseRelock s = .next (s.leaves (Chip.ringUpdate (Chip.aside
      { s.toChip with clk := { s.clk with locked := true } }
      (fun c => (c.selfClear 0x40).onRing (fun r => { r with rosterDue := true }))))))

/-- R36 to R40, R312 to R316: in LOCKED a marker in phase gives the next strides its correction, at most 4 ticks either way; a fourth
marker out of phase makes the node acquire again; in HOLDOVER a fourth good marker locks; eight strides without a marker lead to
HOLDOVER and 256 strides of it to ACQUIRING; a node that may become the pacer does, LOCKED and without a correction. -/
def Obligations.MarkersSteerTheClock : Prop :=
  (∀ (s : State) (port : Nat) (m : MarkerMsg) (ps : Int), s.validMarker port m = true →
    s.clk.pacer = false → s.clk.follows m = true → s.clk.worseCopy m = false → s.clk.sync = .locked →
    inPhase (s.phaseError port m ps) = true →
    exec (.marker port m ps) s = .next (s.leaves (Chip.aside { s.toChip with clk :=
      { (if m.pacerNode < s.straps.nodeId then s.clk.hearLower else s.clk).measure m (s.phaseError port m ps) with
        correction := clamp4 (ticksOf (-s.phaseError port m ps)) } } Chip.noteLocked))) ∧
  (∀ (s : State) (port : Nat) (m : MarkerMsg) (ps : Int), s.validMarker port m = true →
    s.clk.pacer = false → s.clk.follows m = true → s.clk.worseCopy m = false → s.clk.sync = .locked →
    inPhase (s.phaseError port m ps) = false → 3 ≤ s.clk.bad → s.clk.sinceMarker ≠ 0 →
    Leads (.marker port m ps) s (fun t => t.clk = ((if m.pacerNode < s.straps.nodeId then s.clk.hearLower else s.clk).measure m
      (s.phaseError port m ps)).acquire)) ∧
  (∀ (s : State) (port : Nat) (m : MarkerMsg) (ps : Int), s.validMarker port m = true →
    s.clk.pacer = false → s.clk.follows m = true → s.clk.worseCopy m = false → s.clk.sync = .holdover →
    inPhase (s.phaseError port m ps) = true → 3 ≤ s.clk.good → s.clk.sinceMarker ≠ 0 →
    Leads (.marker port m ps) s (fun t => t.clk = { (if m.pacerNode < s.straps.nodeId then s.clk.hearLower else s.clk).measure m
      (s.phaseError port m ps) with
      sync := .locked, holdStrides := 0, correction := clamp4 (ticksOf (-s.phaseError port m ps)) })) ∧
  (∀ n : Int, -4 ≤ clamp4 n ∧ clamp4 n ≤ 4) ∧
  (∀ s : State, s.clk.sync = .locked → s.clk.pacer = false → 8 ≤ s.clk.sinceMarker →
    exec .markerLoss s = .next (s.leaves { s.toChip with clk := { s.clk with sync := .holdover, good := 0, bad := 0, holdStrides := 0 } })) ∧
  (∀ s : State, s.clk.sync = .holdover → 256 ≤ s.clk.holdStrides →
    exec .holdoverExpiry s = .next (s.leaves { s.toChip with clk := { s.clk with
      sync := .acquiring, pacer := false, good := 0, bad := 0, awaitLap := false, correction := 0, holdStrides := 0, pacerNode := 255 } })) ∧
  (∀ s : State, s.mayPace = true → Leads .pacerElection s (fun t => t.clk = { s.clk with
    pacer := true, sync := .locked, offset := 0, pacerNode := s.straps.nodeId, correction := 0
    pacerChanges := s.clk.pacerChanges + 1, good := 0, bad := 0, awaitLap := false, holdStrides := 0, lowerRun := 0 }))

/-- R29 to R33: the cutoff freezes the plan of the next stride; the engines take no step beyond their budget, whatever waits; no request
is placed where the engines are stopped. -/
def Obligations.ThePlanFreezesWithinTheBudget : Prop :=
  (∀ s : State, s.clk.running = true → s.sched.frozen = false → s.enginesStopped = true →
    exec .planCutoff s = .next (s.left { s.toChip with sched := { s.sched with frozen := true, planId := s.sched.nextId } })) ∧
  (∀ s : State, s.clk.running = true → s.sched.frozen = false →
    Leads .planCutoff s (fun t => t.sched.frozen = true ∧ t.sched.planId = s.sched.nextId ∧
      ∀ i, i < 24 → clocksOf (s.engine i).loaded ≤ s.engineBudget → clocksOf (t.engine i).loaded ≤ s.engineBudget)) ∧
  (∀ (e : Engine) (budget draw : Nat),
    clocksOf (fitSteps (budget - remainingClocks draw e.running) e.loaded).1 + (e.boundary budget draw true).1.carried ≤
      max budget (remainingClocks draw e.running) ∧
    (e.boundary budget draw true).1.running = e.running ++ (fitSteps (budget - remainingClocks draw e.running) e.loaded).1)

/-- R30 to R32: an engine's step ends once; while other steps of its work are left nothing follows, then the strips it solved are put
where they belong, or the entry it was computed for goes on. -/
def Obligations.EngineStepsEndOnce : Prop :=
  (∀ (s : State) (e k : Nat) (x : EngineStep), (s.engine e).running.find? (fun y => decide (y.id = k)) = some x →
    (s.stepDone e k).2 = none → exec (.engineStepComplete e k) s = .next (s.left (s.stepDone e k).1.pumpHost)) ∧
  (∀ (s : State) (e k j : Nat), (s.stepDone e k).2 = some (2 * j) →
    exec (.engineStepComplete e k) s = .next (s.left (Chip.gatherEnd ((s.stepDone e k).1.gatherSolved j)).pumpHost)) ∧
  (∀ (s : State) (e k j : Nat), (s.stepDone e k).2 = some (2 * j + 1) →
    exec (.engineStepComplete e k) s = .next (s.left (((s.stepDone e k).1.computeEntry j).pumpEntry j).pumpHost)) ∧
  (∀ (s : State) (e k : Nat) (x : EngineStep), (s.engine e).running.find? (fun y => decide (y.id = k)) = some x →
    ((s.stepDone e k).1.engine e).running = (s.engine e).running.filter (fun y => decide (y.id ≠ k)) ∧
    ((s.stepDone e k).1.engine e).clocksLap = (s.engine e).clocksLap + x.clocks)

/-- R70 to R82, R102, R130: the gate admits the write at its head while dirty bytes and its need stay within the ceiling, and only then;
an allowance waits for no write whose piste has none in force; a write that waited the gate's time falls the piste back to
write-through, which ends after four laps at the low level; a piste moved to write-back resumes once a durable lane names it. -/
def Obligations.TheGateAdmitsWithinTheCeiling : Prop :=
  (∀ (s : State) (x : Cmd) (l : List Cmd), s.gated = x :: l →
    s.gatePasses (s.gateNeed x) = false → exec .gateAdmit s = .next (s.left s.toChip)) ∧
  (∀ (s : State) (x : Cmd), s.gated = [x] → s.gatePasses (s.gateNeed x) = true →
    exec .gateAdmit s = .next (s.left (s.toAllowance x))) ∧
  (∀ (s : State) (n : Nat), n ≠ 0 → s.dirtyBytes + n ≤ s.cache.ceiling ∨ s.gatePasses n = false) ∧
  (∀ (s : State) (p : Nat) (x : Cmd), s.cqi.cmds.filter (fun y => y.stage = .allowance && decide (y.piste = p)) = [x] →
    s.allowanceApplies p = true → (x.growBytes : Int) ≤ (s.piste p).allowance →
    exec (.allowanceAdmit p) s = .next (s.left ((s.updPiste p (fun y => { y with allowance := y.allowance - x.growBytes })).admitWrite x))) ∧
  (∀ (s : State) (p : Nat) (x : Cmd), s.cqi.cmds.filter (fun y => y.stage = .allowance && decide (y.piste = p)) = [x] →
    s.allowanceApplies p = true → (s.piste p).allowance < (x.growBytes : Int) →
    exec (.allowanceAdmit p) s = .next (s.left s.toChip)) ∧
  (∀ (s : State) (p : Nat) (w : Cmd), (s.gated.filter (fun x => decide (x.piste = p))).find? (fun x => decide (s.val 0x2421 p ≤ x.waited)) = some w →
    let c := ((s.updPiste p (fun x => { x with fellBack := true, lowLaps := 0 })).bump 0x2422 p).record 0x910 (some p)
    let open_ := fun (y : Cmd) => y.stage = .fresh || y.stage = .waitOverlap || y.stage = .allowance || y.stage = .fetching
    exec (.gateWaitFallback p) s = .next (s.left ((c.each
      (c.cqi.cmds.filter (fun y => y.isWrite && decide (y.piste = p) && !y.through && !y.dead && open_ y && accEarlier w.acc y.acc))
      (fun c y => (c.releasePages y).putCmd { y with through := true, newBytes := 0 })).each
      (s.gated.filter (fun x => decide (x.piste = p))) (fun c x => c.toAllowance { x with through := true })))) ∧
  (∀ (s : State) (p : Nat), s.atLap = true → (s.piste p).fellBack = true → 4 ≤ (s.piste p).lowLaps →
    exec (.writeBackResume p) s = .next (s.left (s.updPiste p (fun x => { x with fellBack := false })))) ∧
  (∀ (s : State) (p : Nat), s.atLap = true → (s.piste p).throughUntilLane = true → (s.piste p).laneNamed = true →
    exec (.cacheModeWriteBack p) s = .next (s.left (s.setPiste p { s.piste p with throughUntilLane := false, laneNamed := false })))

/-- R85, R93, R103 to R107, R245: the dirty blocks of a stripe held too long are destaged; a member command that completes is taken off
the member and goes where it was issued for; the replay takes its source once, and its end opens the lanes and sets the unit's state. -/
def Obligations.DestageCompletionAndReplay : Prop :=
  (∀ (s : State) (p q : Nat), s.mayWrite = true → s.faults.safe = false → (s.piste p).groomed = false →
    exec (.partialHoldExpiry p q) s = .next (s.left (s.each ((s.dueStripes p).filter (fun t => decide (t.1.stripe = q) &&
      t.2.any (fun d => decide (d.ver.dirtyLap + s.val 0x2424 p ≤ s.lap)))) (fun c t => c.destageStripe t.1 t.2)))) ∧
  (∀ (s : State) (p q : Nat), s.mayWrite = true → s.faults.safe = false → (s.piste p).groomed = true →
    (s.waitingBlocks p).any (fun b => decide (b.2.dirtyLap + s.val 0x2424 p ≤ s.lap)) = true →
    exec (.partialHoldExpiry p q) s = .next (s.left (s.destageGroomed 1 p true))) ∧
  (∀ (s : State) (slot id : Nat) (k : MCmd) (l : List Bytes), (s.member slot).outstanding.find? (fun k => decide (k.id = id)) = some k →
    (s.member slot).slot ≠ .contained → (∀ t, k.op ≠ .nvmeAbort t) →
    exec (.memberCommandComplete slot id (.ok l)) s = .next (s.left ((((s.setMember slot { s.member slot with
      outstanding := (s.member slot).outstanding.filter (fun y => decide (y.id ≠ id)), lastIoNs := s.clk.opNs
      queues := (s.member slot).queues.map (fun q => q.filter (fun a => decide (a.op ≠ .nvmeAbort id))) }).purposeEnded slot k
      (.ok l)).quiesceStep slot).pumpHost))) ∧
  (∀ (s : State), s.start.phase = 4 → s.start.replayed = false → s.takeOutcomes.missingMembers.chooseSource = .retained →
    exec .journalReplay s = .next (s.left (((s.takeOutcomes.missingMembers.replayFrom .retained).onStart (fun k =>
      { k with replayed := true })).pumpHost))) ∧
  (∀ s : State, s.start.phase = 4 → s.start.replayed = true → s.replayOver = true →
    exec .replayDone s = .next (s.left (Chip.pumpHost (
      let c := s.consumeImages.setLaneOffset.startDone
      let c := (c.onJournal (fun j => { j with lanesAllowed := true })).onPair (fun p => { p with serving := true })
      (c.setUnitState (if c.faults.safe then 3 else if c.leads then 1 else 2)).takeOutcomes))))

/-- R112 to R138: a full DATA zone with parity is verified group by group, or at once where it has none; a map page whose oldest change
is old enough is written back; a zone that nothing maps is reset; a victim's granules are queued; the census ends with the grooming
state NORMAL and every zone of the piste marked at the sealed number. -/
def Obligations.GroomedMediaEvents : Prop :=
  (∀ (s : State) (slot z : Nat), ((s.member slot).zone z).zstate = 2 → ((s.member slot).zone z).role = 0 →
    ((s.member slot).zone z).parityMode = 1 → ((s.member slot).zone z).verified = false → ((s.member slot).zone z).verifyLeft = 0 →
    (s.piste ((s.member slot).zone z).piste).parityDue.any (fun d => decide (d.2.1 / 2 ^ 20 = slot * 2 ^ 24 + z)) = false →
    let g := ((s.member slot).zone z).fill * (s.piste ((s.member slot).zone z).piste).geom.b / 15
    let rest := ((s.member slot).zone z).fill * (s.piste ((s.member slot).zone z).piste).geom.b % 15
    let reads := Chip.each (s.updMember slot (fun m => { m with zones := m.zones.upd z Zone.reset (fun r =>
        { r with verifyLeft := g + (if rest = 0 then 0 else 1) }) }))
      (List.range g) (fun c i => c.issueRead slot 7 true (z * (s.member slot).zsze + 15 * i) 15 (.verify z i) none 0)
    exec (.zoneVerify slot z) s = .next (s.left (
      if g = 0 ∧ rest = 0 then
        ((s.updMember slot (fun m => { m with zones := m.zones.upd z Zone.reset (fun r => { r with verified := true }) })).releaseCompanions
          ((s.member slot).zone z).piste slot z).resetCompanions ((s.member slot).zone z).piste
      else if rest = 0 then reads
      else reads.issueRead slot 7 true (z * (s.member slot).zsze + 15 * g) rest (.verify z g) none 0))) ∧
  (∀ (s : State) (p page : Nat), page < 2 ^ 40 → ((s.piste p).pages.getD page MapPage.reset).dirty = true →
    ((s.piste p).pages.getD page MapPage.reset).firstChangeLap + s.val 0x2805 ≤ s.lap → s.mayWrite = true →
    exec (.mapWritebackDue p page) s = .next (s.left (s.writeBackPages p page))) ∧
  (∀ (s : State) (p i page : Nat) (r : RebuildSlot), page < 2 ^ 40 → (s.piste p).rebuild.slots[i]? = some r →
    r.unwritten.any (fun t => decide (t.1 = s.areaKey (s.piste p) r page) && decide (t.2 + s.val 0x2805 ≤ s.lap)) = true → s.mayWrite = true →
    exec (.mapWritebackDue p ((i + 1) * 2 ^ 40 + page)) s = .next (s.left (s.writeBackReloc p i page))) ∧
  (∀ (s : State) (slot z p e : Nat), s.holders slot = [(p, e)] → s.reclaimable p e z = true →
    exec (.zoneReclaim slot z) s = .next (s.left ((((s.releaseCompanions p slot z).resetZone p e z).resetCompanions p).updPiste p (fun x =>
      { x with
        victim := if x.victim = some (e, z) then none else x.victim
        forced := x.forced.map (fun f => if f.2.1 = slot ∨ f.2.1 = 0xFF then (f.1, f.2.1, f.2.2 - 1) else f) })))) ∧
  (∀ (s : State) (p e z : Nat) (r : Zone), (s.piste p).groomed = true → (s.piste p).suspended = false → (s.piste p).copyQueue = [] →
    s.mayWrite = true → s.chooseVictim p (s.piste p) = some (e, z, r) →
    exec (.groomVictim p) s = .next (s.left (((s.queueZone p e z).updPiste p (fun x => { x with
      victim := some (e, z)
      ratioNum := if x.groomState = 2 then (s.groomRatio r).1 else 0
      ratioDen := if x.groomState = 2 then (s.groomRatio r).2 else 0 })).record 0x901 (some p)))) ∧
  (∀ (s : State) (p : Nat), (s.piste p).suspended = true → (s.piste p).censusLeft = 0 →
    Leads (.censusComplete p) s (fun t => (t.piste p).suspended = false ∧ (t.piste p).groomState = 0 ∧
      ∀ slot z r, slot ∈ s.localSlots (s.piste p) → (s.member slot).zones.find z = some r → r.piste = p → r.zstate ≠ 0 →
        (t.member slot).zone z = { r with kill := s.journal.sealSeq }))

/-- R140 to R163: a read whose deadline has run out is counted late and its strip reconstructed; an error bucket leaks by one at its
interval; a failed member's grace ends at its time; a resynchronized member returns to service, a drained one is REBUILT, a rebuild
slot whose pass is over is DONE and a priority item that has passed sends its members to the main pass, a copy-back that is over takes
the member out of the replacement list. -/
def Obligations.DegradedServiceEnds : Prop :=
  (∀ (s : State) (slot id g col : Nat) (k : MCmd), (s.member slot).outstanding.find? (fun k => decide (k.id = id)) = some k →
    k.deadline = some 0 → k.purpose = .gather g col →
    exec (.readDeadlineMiss slot id) s = .next (s.left (Chip.gatherEnd (((s.updMember slot (fun m => { m with
      outstanding := m.outstanding.map (fun y => if y.id = id then { y with deadline := none } else y) })).gatherLate g col).gatherStep g)))) ∧
  (∀ s : State, s.lap % max 1 (s.val 0x2C15) = 0 →
    exec .errorBucketLeak s = .next (s.left { s.toChip with members := s.members.mapVal (fun _ m => { m with bucket := m.bucket - 1 }) })) ∧
  (∀ (s : State) (slot ns : Nat), (s.member slot).mstate = .failed → (s.member slot).failNs = some ns → (s.member slot).graceOver = false →
    s.elapsedMs ns (s.val 0x2C12) = true → exec (.graceExpiry slot) s = .next (s.left (s.endGrace slot false))) ∧
  (∀ (s : State) (slot : Nat), (s.member slot).mstate = .resyncing → s.logs.find? (fun l => l.open_ && decide (l.slot = slot)) = none →
    s.holders slot = [] →
    exec (.resyncDone slot) s = .next (s.left ((((s.setMember slot { s.member slot with
      mstate := .inService, cause := 0, ranResync := true, failNs := none, contCause := 0, contNs := none }).closeLog slot
      ).directoryChange).endMemberHandles slot 8))) ∧
  (∀ (s : State) (p i : Nat) (r : RebuildSlot), (s.piste p).rebuild.slots[i]? = some r → r.state = 2 → s.slotPassed (s.piste p) r = true →
    s.rebuildOpen p (fun _ => true) = false →
    let done := fun (x : Piste) (e : Nat) => match x.slotOf e with | some t => decide (t.state = 3) | none => true
    let c := ((s.onSlots p (fun t => if t.index = r.index then { t with state := 3 } else t)).updPiste p (fun x => { x with
      rebuild := { x.rebuild with items := x.rebuild.items.filter (fun t => !(done x t.peerA && done x t.peerB)) } })).checkpointRebuild p
    exec (.rebuildSlotDone p i) s = .next (s.left (Chip.endRebuildHandles
      (match c.localSlot (c.piste p) r.index with | some m => c.memberRebuilt m | none => c)))) ∧
  (∀ (s : State) (p i : Nat) (x : PriorityItem), (s.piste p).rebuild.items[i]? = some x → s.itemPassed (s.piste p) x = true →
    exec (.priorityPassEnd p i) s = .next (s.left (s.onSlots p (fun r => if r.state = 1 ∧ (r.index = x.peerA ∨ r.index = x.peerB) ∧
      !((s.piste p).rebuild.items.any (fun y => !s.itemPassed (s.piste p) y && (decide (y.peerA = r.index) || decide (y.peerB = r.index))))
      then { r with state := 2 } else r)))) ∧
  (∀ (s : State) (slot : Nat), (s.member slot).mstate = .draining → s.slotsDone slot = true →
    exec (.drainDone slot) s = .next (s.left ((Chip.onMemberSlots (s.setMember slot { s.member slot with mstate := .rebuilt }) slot
      (fun r => { r with drain := false, recs := (s.member slot).zones })).endMemberHandles slot 7))) ∧
  (∀ (s : State) (p slot e : Nat) (r : RebuildSlot), (s.piste p).groomed = false →
    (s.indicesOf (s.piste p) slot).find? (fun e => match (s.piste p).slotOf e with | some r => decide (r.state = 4) | none => false) = some e →
    (s.piste p).slotOf e = some r → (s.piste p).geom.rows ≤ r.copyMark → s.rebuildOpen p (fun _ => true) = false →
    let c := (s.updPiste p (fun x => { x with
      repl := x.repl.filter (fun y => decide (y ≠ e))
      rebuild := { x.rebuild with
        slots := x.rebuild.slots.filter (fun t => decide (t.index ≠ e))
        items := x.rebuild.items.filter (fun t => decide (t.peerA ≠ e) && decide (t.peerB ≠ e)) } })).pisteChange p
    exec (.copybackDone p slot) s = .next (s.left (
      if (c.holders slot).any (fun pe => decide (pe.2 ∈ (c.piste pe.1).repl)) then c
      else ((c.updMember slot (fun m => { m with
        mstate := .inService, cause := 0, replaces := none, ranResync := true, failNs := none })).directoryChange).endMemberHandles slot 8)))

/-- R168 to R170, R203: a lost stripe held for its time lets its dirty blocks go, one deferred error for them; a sweep that is over
writes its summary and ends its handle; a forced grooming ends at its count, or at the mark. -/
def Obligations.SweepsAndHoldsEnd : Prop :=
  (∀ (s : State) (p q : Nat) (l : LostStripe),
    s.cache.lostStripes.find? (fun l => decide (l.piste = p) && decide (l.stripe = q) && l.held) = some l →
    l.sinceLap + s.val 0x2C53 ≤ s.lap →
    let blocks := ((bitsOf 32 l.columns).map (fun col => ((s.piste p).geometry ⟨p, l.newGeom, 0, q⟩).hostRange q col l.first l.count)).flatten
    blocks.filter (fun b => (s.versions p b).any (fun v => decide (v.state = .dirty) && decide (v.entry = 0))) = [] →
    exec (.lostHoldExpiry p q) s = .next (s.left { s.toChip with cache := { s.cache with
      lostStripes := s.cache.lostStripes.map (fun y => if y.seq = l.seq then { y with held := false } else y) } })) ∧
  (∀ (s : State) (p q : Nat) (l : LostStripe),
    s.cache.lostStripes.find? (fun l => decide (l.piste = p) && decide (l.stripe = q) && l.held) = some l →
    l.sinceLap + s.val 0x2C53 ≤ s.lap →
    let blocks := ((bitsOf 32 l.columns).map (fun col => ((s.piste p).geometry ⟨p, l.newGeom, 0, q⟩).hostRange q col l.first l.count)).flatten
    let gone := blocks.filter (fun b => (s.versions p b).any (fun v => decide (v.state = .dirty) && decide (v.entry = 0)))
    gone ≠ [] →
    exec (.lostHoldExpiry p q) s = .next (s.left (Chip.deferError (Chip.onCache (s.each gone (fun c b =>
      c.setVersions p b ((c.versions p b).filter (fun v => decide (v.entry ≠ 0))))) (fun k => { k with
      lostStripes := k.lostStripes.map (fun y => if y.seq = l.seq then { y with held := false } else y) })) p 4 (minOf gone 0) gone.length l.seq))) ∧
  (∀ (s : State) (h : Nat) (w : Sweep), s.sweepOf h = some w → s.sweepOver w = true → w.cancelled = false →
    s.gathers.vals.any (fun g => decide (g.why = .check h)) = false →
    let b := w.summary (if (s.sweepNext w).isNone then 0 else 2) s.clk.stride
    exec (.sweepEnd h) s = .next (s.left (Chip.endHandle { s.toChip with cqi := { s.cqi with
      sweeps := s.cqi.sweeps.filter (fun y => decide (y.handle ≠ h)), lastSummary := b } } h 1 0 b))) ∧
  (∀ (s : State) (h : Nat) (w : Sweep), s.sweepOf h = some w → w.cancelled = true →
    s.gathers.vals.any (fun g => decide (g.why = .check h)) = false →
    exec (.sweepEnd h) s = .next (s.left (Chip.endHandle { s.toChip with cqi := { s.cqi with
      sweeps := s.cqi.sweeps.filter (fun y => decide (y.handle ≠ h)), lastSummary := w.summary 1 s.clk.stride } } h 3 0x0108
      (w.summary 1 s.clk.stride)))) ∧
  (∀ (s : State) (h p n slot : Nat) (x : Piste) (a b : List (Nat × Piste)), s.livePistes = a ++ (p, x) :: b →
    (∀ y ∈ a ++ b, y.2.forced.find? (fun f => decide (f.1 = h)) = none) →
    x.forced.find? (fun f => decide (f.1 = h)) = some (h, slot, n) → n ≤ 2 ^ 32 → (s.handle h).cancelling = false →
    exec (.groomForceDone h) s = .next (s.left ((s.updPiste p (fun x => { x with
      forced := x.forced.filter (fun g => decide (g.1 ≠ h)) })).endHandle h 1 0 [])))

/-- R61 to R69, R170 to R177, R340: a piste whose extents are zeroed is ONLINE, one that has quiesced is STOPPED, one whose zones are
released and whose change is durable is gone; the run object stops and starts it; a directory change is durable with its copies; a
reshape that is over takes the new geometry, a paused one goes on once the rebuild is over. -/
def Obligations.PistesChangeState : Prop :=
  (∀ (s : State) (p : Nat), (s.piste p).state = .creating → (s.piste p).zeroLeft = 0 →
    exec (.pisteZeroingDone p) s = .next (s.left (((s.updPiste p (fun x => { x with state := .online })).pisteChange p).endPisteHandle p 0
      (leBytes 8 p ++ leBytes 8 (s.piste p).uid)))) ∧
  (∀ (s : State) (p : Nat), (s.piste p).state = .stopping → s.pisteDirty p = 0 →
    s.journal.entries.any (fun t => decide (t.2.piste = p)) = false →
    s.cache.blocks.any (fun b => decide (b.1 / 2 ^ 64 = p) && b.2.any (fun v => decide (v.state = .through))) = false →
    exec (.pisteStopped p) s = .next (s.left ((s.updPiste p (fun x => { x with state := .stopped })).pisteChange p))) ∧
  (∀ (s : State) (p : Nat), (s.piste p).state = .deleting → (s.piste p).releaseLeft = 0 → (s.piste p).dirGen ≤ s.dir.durable →
    Leads (.pisteDeleteDone p) s (fun t => (t.piste p).state = .absent ∧ (∀ q, q ≠ p → t.piste q = s.piste q) ∧
      t.cache.blocks = s.cache.blocks.filter (fun b => decide (b.1 / 2 ^ 64 ≠ p)) ∧
      t.cache.lostRanges = s.cache.lostRanges.filter (fun r => decide (r.piste ≠ p)))) ∧
  (∀ (s : State) (p : Nat) (w : Writer), s.commandReason 0x3020 p w (s.runReason p 0) = 0 →
    exec (.pisteStop p w) s = .next (s.left (((s.logChange 0x3020 p w 0 0 0 0 false).updPiste p (fun x =>
      { x with state := .stopping })).pisteChange p))) ∧
  (∀ (s : State) (p : Nat) (w : Writer), s.commandReason 0x3020 p w (s.runReason p 1) = 0 →
    exec (.pisteStart p w) s = .next (s.left (((s.logChange 0x3020 p w 0 0 0 1 false).updPiste p (fun x =>
      { x with state := .online })).pisteChange p))) ∧
  (∀ (s : State) (g : Nat), s.dir.durable < g → g ≤ s.dir.generation → min 3 s.directoryMembers.length ≤ (s.dir.copies.getD g []).length →
    Leads (.directoryChangeDurable g) s (fun t => t.dir = { s.dir with
      durable := g, copies := s.dir.copies.filter (fun e => decide (g ≤ e.1)), images := s.dir.images.filter (fun e => decide (g ≤ e.1)) } ∧ t.members = s.members ∧ t.cache = s.cache ∧
      ∀ p x, s.pistes.find p = some x → x.dirGen ≤ g → (t.piste p).rebuildDurable = x.rebuildSaved ∧
        (t.piste p).fall.durable = x.fall.saved ∧ (t.piste p).newName = none)) ∧
  (∀ (s : State) (p : Nat), (s.piste p).groomed = false → (s.piste p).fall.state = 3 → (s.piste p).handle ≠ 0 →
    (s.piste p).fall.finish ≠ 0 → (s.piste p).fall.finish ≤ s.dir.durable →
    s.journal.entries.any (fun t => decide (t.2.piste = p) && !t.2.newGeom) = false →
    s.gathers.any (fun t => decide (t.2.piste = p) && !t.2.newGeom) = false →
    let c := (((s.updPiste p (fun x => { x with
      geom := x.fall.new, list := x.fall.newList, capacity := x.fall.capacity, fall := FallLine.reset })).onCache
      (fun k => { k with lostStripes := k.lostStripes.map (fun l => if l.piste = p then { l with newGeom := false } else l) })).onJournal
      (fun j => { j with
        entries := j.entries.mapVal (fun _ e => if e.piste = p then { e with newGeom := false } else e)
        repairs := j.repairs.map (fun r => if r.piste = p then { r with newGeom := false } else r) }))
    exec (.reshapeFinish p) s = .next (s.left ((Chip.updPiste { c with gathers := c.gathers.mapVal (fun _ g =>
      if g.piste = p then { g with newGeom := false } else g) } p (fun x => { x with handle := 0 })).endHandle ((s.piste p).handle - 1) 1 0 []))) ∧
  (∀ (s : State) (p : Nat), (s.piste p).groomed = false → (s.piste p).fall.state = 3 → (s.piste p).fall.finish = 0 →
    exec (.reshapeFinish p) s = .next (s.left ((s.updPiste p (fun x => { x with
      fall := { x.fall with state := 3, finish := s.dir.generation + 1 } })).pisteChange p))) ∧
  (∀ (s : State) (p : Nat), (s.piste p).fall.state = 2 → (s.piste p).rebuild.slots.all (fun r => decide (r.state = 3)) = true →
    (List.range (s.piste p).list.length).all (fun e => match s.localSlot (s.piste p) e with
      | some m => decide ((s.member m).mstate ≠ .failed) || decide (e ∈ (s.piste p).repl)
      | none => true) = true →
    exec (.reshapeResume p) s = .next (s.left (s.updPiste p (fun x => { x with fall := { x.fall with state := 1 } }))))

/-- R196 to R204: a READ, WRITE, FLUSH, DEALLOCATE or WRITE_ZEROES accepted and not begun is begun: a READ that overlaps an earlier write
waits for it, a FLUSH waits for the writes before it, a write goes to the gate; an LTR message follows the gate's state. -/
def Obligations.DataCommandsBegin : Prop :=
  (∀ (s : State) (q cid : Nat) (x : Cmd), s.freshCmd q cid 1 = some x → x.segment = none → (s.earlierWrites x).isEmpty = false →
    exec (.read q cid) s = .next (s.left (Chip.flushHeld (Chip.pumpReads (s.putCmd { x with stage := .waitOverlap }))))) ∧
  (∀ (s : State) (q cid : Nat) (x : Cmd), s.freshCmd q cid 1 = some x → x.segment = none → (s.earlierWrites x).isEmpty = true →
    exec (.read q cid) s = .next (s.left (s.continueRead x).pumpReads.flushHeld)) ∧
  (∀ (s : State) (q cid a n : Nat) (x : Cmd), s.freshCmd q cid 1 = some x → x.segment = some (a, n) →
    exec (.read q cid) s = .next (s.left ((s.wantRead (.segment x.acc 0) a (16 * n)).continueRead x).pumpReads.flushHeld)) ∧
  (∀ (s : State) (q cid : Nat) (x : Cmd), s.freshCmd q cid 2 = some x →
    exec (.write q cid) s = .next (s.left (s.startWrite x).pumpHost)) ∧
  (∀ (s : State) (x : Cmd), s.gated = [] → (s.asMode x).through = false → s.gateNeed (s.asMode x) ≠ 0 → s.gatePasses (s.gateNeed (s.asMode x)) = false →
    s.toGate x = ((s.bump 0x241B).putCmd { s.asMode x with stage := .gated }).ltrCheck) ∧
  (∀ (s : State) (q cid : Nat) (x : Cmd), s.freshCmd q cid 3 = some x →
    exec (.flush q cid) s = .next (s.left (s.putCmd { x with stage := .waiting }).pumpFlushes)) ∧
  (∀ (s : State) (q cid : Nat) (x : Cmd), s.freshCmd q cid 4 = some x →
    exec (.deallocate q cid) s = .next (s.left (s.startWrite x).pumpHost)) ∧
  (∀ (s : State) (q cid : Nat) (x : Cmd), s.freshCmd q cid 5 = some x →
    exec (.writeZeroes q cid) s = .next (s.left (s.startWrite x).pumpHost))

/-- R195, R201 to R204, R215: a command of queue 0 that is not long-running is accepted and completed. An ABORT of a command that is not
there ends with 0109h; of one that can end, the command ends with 0108h; of any other, it waits for it. A log is read from the entry
asked for, an object's value is read whole, a write of the dictionary is done or refused, an unknown handle reads as state 4, a handle
that cannot be cancelled is refused; an opcode the queue does not know completes with 0101h, and is not accepted. -/
def Obligations.ShortCommandsAnswer : Prop :=
  (∀ (s : State) (cid : Nat) (f : Fetched), Heads s 0x08 cid f →
    s.findCmd ((parseSub f.bytes).arg0 % 65536) ((parseSub f.bytes).arg0 / 65536 % 65536) = none →
    exec (.abort cid) s = .next (s.left (s.finishHead f (parseSub f.bytes) 0x0109 0 []))) ∧
  (∀ (s : State) (cid : Nat) (f : Fetched) (x : Cmd), Heads s 0x08 cid f →
    s.findCmd ((parseSub f.bytes).arg0 % 65536) ((parseSub f.bytes).arg0 / 65536 % 65536) = some x → x.endable = true →
    exec (.abort cid) s = .next (s.left (((s.failTransfer x 0x0108 0).bump 0x1A17).finishHead f (parseSub f.bytes) 0 0 []))) ∧
  (∀ (s : State) (cid : Nat) (f : Fetched) (x : Cmd), Heads s 0x08 cid f →
    s.findCmd ((parseSub f.bytes).arg0 % 65536) ((parseSub f.bytes).arg0 / 65536 % 65536) = some x → x.endable = false →
    exec (.abort cid) s = .next (s.left (Chip.heads (Chip.onCqi (s.acceptHead f (parseSub f.bytes)).1 (fun k => { k with
      cmds := k.cmds ++ [{ (s.acceptHead f (parseSub f.bytes)).2 with
        stage := .waiting
        target := some ((parseSub f.bytes).arg0 % 65536, (parseSub f.bytes).arg0 / 65536 % 65536) }] })) 0))) ∧
  (∀ (s : State) (cid : Nat) (f : Fetched), Heads s 0x10 cid f →
    let r := s.logBytes ((parseSub f.bytes).arg0 % 256) (if (parseSub f.bytes).arg0.testBit 8 then some (parseSub f.bytes).piste else none)
    exec (.getLog cid) s = .next (s.left (s.answer f (parseSub f.bytes) r.2
      ((r.1.drop ((parseSub f.bytes).arg1 / logEntry (parseSub f.bytes).arg0)).flatten)))) ∧
  (∀ (s : State) (cid : Nat) (f : Fetched) (b : Bytes), Heads s 0x11 cid f →
    s.readObject ((parseSub f.bytes).arg0 % 65536) ((parseSub f.bytes).arg0 / 65536 % 256) = some b →
    exec (.dictRead cid) s = .next (s.left (s.answer f (parseSub f.bytes) (if b.length ≤ 8 then leNat b else 0) b))) ∧
  (∀ (s : State) (cid : Nat) (f : Fetched) (o : Obj), Heads s 0x12 cid f →
    s.object ((parseSub f.bytes).arg0 % 65536) ((parseSub f.bytes).arg0 / 65536 % 256) = some o →
    s.passesOn ((parseSub f.bytes).arg0 % 65536) ((parseSub f.bytes).arg0 / 65536 % 256) = false → s.adp.pairWait = [] →
    let t := s.dictTake ((parseSub f.bytes).arg0 % 65536) ((parseSub f.bytes).arg0 / 65536 % 256) ((parseSub f.bytes).value o f.host)
      (if (parseSub f.bytes).mode = 0 then (parseSub f.bytes).arg1 else leNat (((parseSub f.bytes).value o f.host).take 8))
      { origin := .host, route := .queue, originId := s.cqi.lastRequester }
    exec (.dictWrite cid) s = .next (s.resetLeft (Chip.pumpHost (t.act (if t.reason = 0 then t.chip.finishHead f (parseSub f.bytes) 0 0 []
      else t.chip.refuseHead (parseSub f.bytes) 0x0102 (refusedResult (parseSub f.bytes) t.reason)))))) ∧
  (∀ (s : State) (cid : Nat) (f : Fetched), Heads s 0x28 cid f → (parseSub f.bytes).arg0 % 2 ^ 32 ≠ 0 →
    (s.handle ((parseSub f.bytes).arg0 % 2 ^ 32 % 65536)).value = (parseSub f.bytes).arg0 % 2 ^ 32 →
    (s.handle ((parseSub f.bytes).arg0 % 2 ^ 32 % 65536)).state ≠ 0 →
    exec (.handleQuery cid) s = .next (s.left (s.answer f (parseSub f.bytes)
      ((s.handle ((parseSub f.bytes).arg0 % 2 ^ 32 % 65536)).state + (s.handle ((parseSub f.bytes).arg0 % 2 ^ 32 % 65536)).progress * 65536)
      (s.handle ((parseSub f.bytes).arg0 % 2 ^ 32 % 65536)).bytes))) ∧
  (∀ (s : State) (cid : Nat) (f : Fetched), Heads s 0x28 cid f →
    let v := (parseSub f.bytes).arg0 % 2 ^ 32
    v = 0 ∨ (s.handle (v % 65536)).value ≠ v →
    exec (.handleQuery cid) s = .next (s.left (s.answer f (parseSub f.bytes) 4 ({ Handle.reset with value := v, state := 4 } : Handle).bytes))) ∧
  (∀ (s : State) (cid : Nat) (f : Fetched), Heads s 0x29 cid f →
    let v := (parseSub f.bytes).arg0 % 2 ^ 32
    v = 0 ∨ (s.handle (v % 65536)).value ≠ v ∨ (s.handle (v % 65536)).state ≠ 0 →
    exec (.handleCancel cid) s = .next (s.left (s.finishHead f (parseSub f.bytes) 0x0109 0 []))) ∧
  (∀ (s : State) (cid : Nat) (f : Fetched), Heads s 0x29 cid f →
    let v := (parseSub f.bytes).arg0 % 2 ^ 32
    v ≠ 0 → (s.handle (v % 65536)).value = v → (s.handle (v % 65536)).state = 0 → v / 2 ^ 28 ∉ [4, 5, 6, 9] →
    exec (.handleCancel cid) s = .next (s.left (s.refuseHead (parseSub f.bytes) 0x0102 24))) ∧
  (∀ (s : State) (cid : Nat) (f : Fetched), Heads s 0x29 cid f →
    let v := (parseSub f.bytes).arg0 % 2 ^ 32
    v ≠ 0 → (s.handle (v % 65536)).value = v → (s.handle (v % 65536)).state = 0 → (s.handle (v % 65536)).cancelling = false →
    v / 2 ^ 28 ∈ [4, 5, 6, 9] →
    exec (.handleCancel cid) s = .next (s.left ((s.finishHead f (parseSub f.bytes) 0 0 []).cancelHandle (v % 65536)))) ∧
  (∀ (s : State) (q : Nat) (f : Fetched), s.headOf q = some f → (s.queue q).qstate = 1 → s.cqi.unitState = 1 → s.pair.handover = false →
    opcodeAllowed q (parseSub f.bytes).opcode = false →
    exec (.undefinedOpcode q) s = .next (s.left (((s.takeHead q).complete q (parseSub f.bytes).cid 0 0x0101 0 none []).heads q)))

/-- R55 to R68, R152 to R169, R200: a long-running command of queue 0 whose checks pass takes a handle, completes with it, and begins. -/
def Obligations.LongCommandsTakeAHandle : Prop :=
  (∀ (s : State) (cid h : Nat) (f : Fetched), Heads s 0x20 cid f → s.freeHandle = some h →
    firstReserved f.host (descReserved (listLimit (parseDesc f.host).n)) = none → s.checks123 (parseDesc f.host) = none →
    (parseDesc f.host).spanning = false → s.ring.checks = [] →
    firstFailed [s.check4 (decide ((parseDesc f.host).ty = 1)) false (stripBlocks (parseDesc f.host).strip) 0 (parseDesc f.host).list,
      s.check5 (parseDesc f.host), (s.chooseExtentFor (parseDesc f.host)).2.failed] = none →
    s.check7 (parseDesc f.host) = none → (s.chooseExtentFor (parseDesc f.host)).1.freeHandle = some h →
    exec (.pisteCreate cid) s = .next (s.left ((((s.chooseExtentFor (parseDesc f.host)).1.begun f 0xFF h).createPiste (parseDesc f.host)
      (s.chooseExtentFor (parseDesc f.host)).2 h).heads 0))) ∧
  (∀ (s : State) (cid h : Nat) (f : Fetched), Heads s 0x21 cid f → s.freeHandle = some h →
    exec (.pisteDelete cid) s = .next (s.left (((((s.begun f (parseSub f.bytes).piste h).updPiste (parseSub f.bytes).piste (fun x =>
      { x with state := .deleting, handle := h + 1 })).releaseZones (parseSub f.bytes).piste).pisteChange (parseSub f.bytes).piste).heads 0))) ∧
  (∀ (s : State) (cid h : Nat) (f : Fetched), Heads s 0x22 cid f →
    let p := (parseSub f.bytes).piste
    let d := parseReshape f.host (s.piste p)
    firstReserved f.host (reshapeReserved (if leAt f.host 2 2 = 0 then 0 else listLimit d.n)) = none → (s.piste p).atRest = true →
    (s.piste p).spanning = false → s.ring.checks = [] →
    firstFailed [s.reshapeChecks (s.piste p) d, (s.reshapeExtent (s.piste p) d).2.2] = none →
    (s.reshapeExtent (s.piste p) d).1.freeHandle = some h →
    exec (.pisteReshape cid) s = .next (s.left ((((s.reshapeExtent (s.piste p) d).1.begun f p h).beginReshape p d
      (s.reshapeExtent (s.piste p) d).2.1 h).heads 0))) ∧
  (∀ (s : State) (cid h : Nat) (f : Fetched), Heads s 0x23 cid f → s.freeHandle = some h →
    (parseSub f.bytes).arg0 % 2 = 0 → (s.rebuildTargets (parseSub f.bytes)).isEmpty = false →
    exec (.rebuildStart cid) s = .next (s.left (Chip.heads (
      let t := (parseSub f.bytes).arg1 % 256
      let l := s.rebuildTargets (parseSub f.bytes)
      let c := (s.begun f 0xFF h).updHandle h (fun x => { x with members := [t], slots := l })
      let c := c.each l (fun c pe => c.releaseWaiting pe.1 [pe.2])
      let c := if (c.member t).mstate = .inService then c.failMember t 4 else c
      if (c.member t).mstate = .failed then c.endGrace t true else c) 0))) ∧
  (∀ (s : State) (cid h : Nat) (f : Fetched), Heads s 0x24 cid f → s.freeHandle = some h →
    exec (.sweep cid) s = .next (s.left (((s.begun f (parseSub f.bytes).piste h).onCqi (fun k => { k with sweeps := k.sweeps ++
      [{ handle := h, piste := (parseSub f.bytes).piste, first := (parseSub f.bytes).arg0
         last := (parseSub f.bytes).arg0 + (parseSub f.bytes).arg1, flags := (parseSub f.bytes).arg2 % 65536, stripe := 0, blocksRead := 0
         corrected := 0, rebuilt := 0, lost := 0, checked := 0, unlocated := 0
         startStride := (s.begun f (parseSub f.bytes).piste h).clk.stride, cancelled := false }] })).heads 0))) ∧
  (∀ (s : State) (cid h : Nat) (f : Fetched), Heads s 0x25 cid f → s.freeHandle = some h →
    exec (.groomForce cid) s = .next (s.left (((s.begun f (parseSub f.bytes).piste h).updPiste (parseSub f.bytes).piste (fun x =>
      { x with forced := x.forced ++ [(h, (parseSub f.bytes).arg0 % 256,
          if (parseSub f.bytes).arg1 % 2 ^ 32 = 0 then 2 ^ 40 else 2 ^ 32 + (parseSub f.bytes).arg1 % 2 ^ 32)] })).heads 0))) ∧
  (∀ (s : State) (cid h : Nat) (f : Fetched), Heads s 0x26 cid f → s.freeHandle = some h →
    s.drainable ((parseSub f.bytes).arg0 % 256) = true →
    exec (.memberRemove cid) s = .next (s.left (Chip.heads (
      let t := (parseSub f.bytes).arg0 % 256
      let c := (s.begun f 0xFF h).updHandle h (fun x => { x with members := [t] })
      let c := c.updMember t (fun m => { m with mstate := .draining })
      c.each (c.holders t) (fun c pe => (c.enterE pe.1 pe.2 true).1)) 0))) ∧
  (∀ (s : State) (cid h : Nat) (f : Fetched), Heads s 0x27 cid f → s.freeHandle = some h →
    s.addable ((parseSub f.bytes).arg0 % 256) ((parseSub f.bytes).arg1 % 4) = true →
    exec (.memberAdd cid) s = .next (s.left (Chip.heads (
      let t := (parseSub f.bytes).arg0 % 256
      let c := (s.begun f 0xFF h).updHandle h (fun x => { x with members := [t] })
      if (parseSub f.bytes).arg1 % 4 = 0 then c.designate t else (c.makeSpare t).endHandle h 1 0 []) 0))) ∧
  (∀ (s : State) (cid h : Nat) (f : Fetched), Heads s 0x2A cid f → s.freeHandle = some h → s.power.supply = .normal →
    s.vaultSlots.all s.vaultDriveUp = true → (s.image 0).status ≠ 2 →
    exec (.vaultTest cid) s = .next (s.left ((((s.begun f 0xFF h).setImage 0 { VaultImage.reset with status := 5 }).onPower (fun p =>
      { p with test := some h, holdup := p.holdup || decide (150 ≤ p.usable) })).heads 0)))

/-- R180 to R193, R227: with BAR0 open, a tail doorbell of an ENABLED queue inside its ring is kept and one outside it is error 1; a head
doorbell that passes no more than was written moves the head; a fit pair is ENABLED with its ring empty and its phase 1, an unfit one
is error 5; an ENABLED pair that is disabled drains, and a drained one is DISABLED; with BAR0 closed a ready port counts the write. -/
def Obligations.DoorbellsAndEnablesMoveTheQueues : Prop :=
  (∀ (s : State) (q v r : Nat), s.barOpen = true → q < 1024 → (s.queue q).qstate = 1 → v % 65536 < (s.queue q).sqSize →
    exec (.sqTailDoorbell q v r) s = .next (s.left (Chip.setQueue (if q = 0 then s.onCqi (fun k => { k with lastRequester := r }) else s.toChip)
      q { s.queue q with sqTail := v % 65536 }))) ∧
  (∀ (s : State) (q v r : Nat), s.barOpen = true → q < 1024 → (s.queue q).qstate = 1 → (s.queue q).sqSize ≤ v % 65536 →
    exec (.sqTailDoorbell q v r) s = .next (s.left (Chip.queueError (if q = 0 then s.onCqi (fun k => { k with lastRequester := r }) else s.toChip)
      q 1))) ∧
  (∀ (s : State) (q v r : Nat), s.barOpen = false → s.host.ready = true →
    exec (.sqTailDoorbell q v r) s = .next (s.left (s.bump 0x1853)) ∧ exec (.cqHeadDoorbell q v) s = .next (s.left (s.bump 0x1853)) ∧
    exec (.queueEnable q) s = .next (s.left (s.bump 0x1853)) ∧ exec (.queueDisable q) s = .next (s.left (s.bump 0x1853))) ∧
  (∀ (s : State) (q v : Nat), s.barOpen = true → 0 < q → q < 1024 → (s.queue q).qstate ≠ 0 → v % 65536 < (s.queue q).cqSize →
    (v % 65536 + (s.queue q).cqSize - (s.queue q).cqHead) % (s.queue q).cqSize ≤
      ((s.queue q).cqTail + (s.queue q).cqSize - (s.queue q).cqHead) % (s.queue q).cqSize →
    exec (.cqHeadDoorbell q v) s = .next (s.left (s.setQueue q { s.queue q with cqHead := v % 65536 }).flushHeld)) ∧
  (∀ (s : State) (q v : Nat), s.barOpen = true → q < 1024 → (s.queue q).qstate ≠ 0 → (s.queue q).qstate ≠ 3 → (s.queue q).cqSize ≤ v % 65536 →
    exec (.cqHeadDoorbell q v) s = .next (s.left (s.queueError q 2))) ∧
  (∀ (s : State) (q : Nat), s.barOpen = true → q < 1024 → (s.queue q).qstate = 0 → (s.queue q).fit q = true → q = 0 ∨ (s.queue 0).qstate = 1 →
    exec (.queueEnable q) s = .next (s.left (s.setQueue q { s.queue q with
      enable := true, qstate := 1, qerror := 0, sqHead := 0, cqTail := 0, cqPhase := true, sqTail := 0, cqHead := 0, fetching := 0
      usable := true }).flushHeld)) ∧
  (∀ (s : State) (q : Nat), s.barOpen = true → q < 1024 → (s.queue q).qstate = 0 → (s.queue q).fit q = false →
    exec (.queueEnable q) s = .next (s.left ((s.setQueue q { s.queue q with enable := true }).queueError q 5))) ∧
  (∀ (s : State) (q : Nat), s.barOpen = true → 0 < q → q < 1024 → (s.queue q).qstate = 1 →
    exec (.queueDisable q) s = .next (s.left ((s.setQueue q { s.queue q with
      enable := false, qstate := 2, qerror := 0, usable := true }).discardFetches q))) ∧
  (∀ (s : State) (q : Nat), (s.queue q).qstate = 2 → s.cqi.cmds.any (fun y => decide (y.queue = q) && !y.dead) = false →
    s.cqi.held.any (fun e => !e.event && decide (e.queue = q)) = false →
    exec (.queueDrained q) s = .next (s.left (s.setQueue q { s.queue q with qstate := 0 }))) ∧
  (∀ (s : State) (b : Bool), s.barOpen = true →
    exec (.cqiEnable b) s = .next (s.left { s.toChip with cqi := { s.cqi with enable := b } }) ∧
    exec .eventsDroppedClear s = .next (s.left { s.toChip with cqi := { s.cqi with droppedBit := false } }))

/-- R195, R225 to R231: the host's writes of the configuration space take their values; the fetch engine visits the rings from the
queue whose turn it is; a read that completes ends what it was for, one with no tag outstanding is counted as unexpected, and one that
times out is counted, ended with 0402h and its tag quarantined until the time is over. -/
def Obligations.HostReadsEnd : Prop :=
  (∀ (s : State) (size v : Nat),
    exec (.registerWrite .maxPayload size v) s = .next (s.left { s.toChip with host := { s.host with maxPayload := 128 * 2 ^ min 2 (v % 8) } }) ∧
    exec (.registerWrite .maxReadRequest size v) s = .next (s.left { s.toChip with host := { s.host with maxRead := 128 * 2 ^ min 5 (v % 8) } }) ∧
    exec (.registerWrite .completionTimeoutValue size v) s = .next (s.left (Chip.setVal
      { s.toChip with host := { s.host with timeoutCode := v % 16 } } 0x1817 0 (timeoutUs (v % 16)))) ∧
    exec (.registerWrite .msixEnable size v) s = .next (s.left { s.toChip with host := { s.host with msixEnable := v % 2 = 1 } }) ∧
    exec (.registerWrite .maxSnoop size v) s = .next (s.left { s.toChip with host := { s.host with ltrCap := v % 2 ^ 16 } }) ∧
    exec (.registerWrite .maxNoSnoop size v) s = .next (s.left { s.toChip with host := { s.host with ltrCapNoSnoop := v % 2 ^ 16 } }) ∧
    exec (.registerWrite .relaxedOrdering size v) s = .next (s.left { s.toChip with host := { s.host with relaxed := v % 2 = 1 } }) ∧
    exec (.registerWrite .tenBitTags size v) s = .next (s.left { s.toChip with host := { s.host with tenBit := v % 2 = 1 } }) ∧
    exec (.registerWrite .ltrEnable size v) s = .next (s.left (Chip.ltrCheck
      { s.toChip with host := { s.host with ltrEnable := v % 2 = 1 } })) ∧
    exec (.registerWrite .msixFunctionMask size (2 * v + 1)) s = .next (s.left { s.toChip with host := { s.host with msixMask := true } }) ∧
    exec (.registerWrite .msixFunctionMask size (2 * v)) s = .next (s.left (s.msixUnmask none)) ∧
    exec (.registerWrite .expansionRom size v) s = .next (s.left s.toChip)) ∧
  (∀ (s : State) (off size v : Nat), s.barOpen = true →
    exec (.registerWrite (.bar0 off) size v) s = .next (s.left (s.bar0Write off size v)) ∧
    exec (.registerWrite (.bar4 off) size v) s = .next (s.left (s.bar4Write off size v))) ∧
  (∀ (s : State) (n size v : Nat),
    Leads (.registerWrite (.bar n) size v) s (fun t => t.host = s.host.writeBar n (v % 2 ^ 32) ∧ dataStands s t) ∧
    (s.host.writeBar 0 (2 ^ 32 - 1)).bar0 % 2 ^ 32 = 2 ^ 32 - 2 ^ 27 ∧ (s.host.writeBar 4 (2 ^ 32 - 1)).bar4 % 2 ^ 32 = 2 ^ 32 - 2 ^ 20 ∧
    s.host.writeBar 2 v = s.host ∧ s.host.writeBar 3 v = s.host) ∧
  (∀ s : State, s.cqi.enable = true → s.hostOpen = true →
    exec .submissionFetch s = .next (s.left (s.each (s.cqi.queues.keys.filter (fun q => decide (s.cqi.turn ≤ q)) ++
      s.cqi.queues.keys.filter (fun q => decide (q < s.cqi.turn))) Chip.fetchRing).pumpReads)) ∧
  (∀ (s : State) (tag : Nat) (b : Bytes) (r : HostRead), s.host.reads.find? (fun r => decide (r.tag = tag)) = some r →
    exec (.hostReadCompletion tag (.data b)) s = .next (s.left (Chip.readEnded { s.toChip with
      host := { s.host with reads := s.host.reads.filter (fun y => decide (y.tag ≠ tag)) } } r (.data b) 0).pumpReads)) ∧
  (∀ (s : State) (tag : Nat) (r : HostRead), s.host.reads.find? (fun r => decide (r.tag = tag)) = some r →
    exec (.hostReadCompletion tag .poisoned) s = .next (s.left (Chip.readEnded (Chip.bump (Chip.bump { s.toChip with
      host := { s.host with reads := s.host.reads.filter (fun y => decide (y.tag ≠ tag)) } } 0x1815) 0x1853) r .poisoned 0x0403).pumpReads)) ∧
  (∀ (s : State) (tag : Nat) (out : HostReadOutcome), s.host.reads.find? (fun r => decide (r.tag = tag)) = none →
    exec (.hostReadCompletion tag out) s = .next (s.left ((s.bump 0x1814).bump 0x1853))) ∧
  (∀ (s : State) (tag : Nat) (r : HostRead), s.host.reads.find? (fun r => decide (r.tag = tag)) = some r →
    exec (.completionTimeout tag) s = .next (s.left (Chip.readEnded (Chip.bump (Chip.bump { s.toChip with host := { s.host with
      reads := s.host.reads.filter (fun y => decide (y.tag ≠ tag)), quarantine := s.host.quarantine ++ [tag] } } 0x1813) 0x1853) r
      .completerAbort 0x0402).pumpReads)) ∧
  (∀ (s : State) (tag : Nat), exec (.tagQuarantineExpiry tag) s = .next (s.left (Chip.pumpReads { s.toChip with host := { s.host with
    quarantine := s.host.quarantine.filter (fun t => decide (t ≠ tag)) } })))

/-- R220 to R226, R331, R336, R340: a write of an object through the window is taken by the dictionary under its route, counted where it is
refused, and passed to the holder where it is pair-wide and the other unit serves. A mailbox READ fills the buffer with the object's bytes
from its offset on; a WRITE is taken by the dictionary or passed to the holder, and its status says how it ended; an unknown object, a
header out of range and a busy mailbox are told apart. An unmasked MSI-X vector that is pending is sent, one that is not is unmasked only. -/
def Obligations.WindowAndMailboxReachTheDictionary : Prop :=
  (∀ (s : State) (off size v r index sub : Nat), s.barOpen = true → 0x1000000 ≤ off → off < 0x4000000 →
    index = 0x1000 + (off - 0x1000000) / 0x800 → sub = off % 0x800 / 8 →
    let w : Writer := { origin := .host, route := .window, originId := hostId r }
    let b : Bytes := match s.object index sub with | some o => windowValue o off size v | none => []
    let t := s.dictTake index sub b (v % 2 ^ 64) w
    exec (.windowWrite off size v r) s = .next (s.resetLeft (if s.passesOn index sub && !b.isEmpty then s.passOn index sub b w 0 none
      else t.act (if t.reason = 0 then t.chip else t.chip.bump 0x1840)).pumpHost)) ∧
  (∀ (s : State) (off size v r : Nat), s.host.ready = true → s.barOpen = false →
    exec (.windowWrite off size v r) s = .next (s.resetLeft (s.bump 0x1853).pumpHost) ∧
    exec .mailboxRead s = .next (s.left (s.bump 0x1853)) ∧ exec (.mailboxWrite r) s = .next (s.resetLeft (s.bump 0x1853).pumpHost)) ∧
  (∀ (s : State) (b : Bytes), s.barOpen = true → s.host.mailbox.op = 1 → s.host.mailbox.status ≠ 1 → s.host.mailbox.ok = true →
    s.served s.host.mailbox.index = true → s.readObject s.host.mailbox.index s.host.mailbox.sub = some b → s.host.mailbox.offset ≤ b.length →
    let l := (b.drop s.host.mailbox.offset).take s.host.mailbox.length
    Leads .mailboxRead s (fun t => t.host.mailbox.status = 2 ∧ t.host.mailbox.objectLength = b.length ∧ t.host.mailbox.returned = l.length ∧
      t.host.mailbox.reason = 0 ∧ t.host.mailbox.changes = s.dict.changes.getD (objKey s.host.mailbox.index s.host.mailbox.sub) 0 ∧
      (∀ i, i < l.length → t.host.mailbox.buffer.getD i 0 = byteAt l i) ∧
      (∀ i, l.length ≤ i → t.host.mailbox.buffer.getD i 0 = s.host.mailbox.buffer.getD i 0) ∧ dataStands s t)) ∧
  (∀ (s : State), s.barOpen = true → s.host.mailbox.op = 1 → s.host.mailbox.status ≠ 1 →
    s.served s.host.mailbox.index = false ∨ s.readObject s.host.mailbox.index s.host.mailbox.sub = none →
    exec .mailboxRead s = .next (s.left (s.mailboxEnd 3 0 0 0 0 0))) ∧
  (∀ (s : State) (b : Bytes), s.barOpen = true → s.host.mailbox.op = 1 → s.host.mailbox.status ≠ 1 → s.served s.host.mailbox.index = true →
    s.readObject s.host.mailbox.index s.host.mailbox.sub = some b → s.host.mailbox.ok = false ∨ b.length < s.host.mailbox.offset →
    exec .mailboxRead s = .next (s.left (s.mailboxEnd 5 0 b.length 0
      (s.dict.changes.getD (objKey s.host.mailbox.index s.host.mailbox.sub) 0) 0))) ∧
  (∀ (s : State) (r : Nat), s.barOpen = true → s.host.mailbox.status = 1 →
    (s.host.mailbox.op = 1 → exec .mailboxRead s = .next (s.left (s.bump 0x1841))) ∧
    (s.host.mailbox.op = 2 → exec (.mailboxWrite r) s = .next (s.resetLeft (s.bump 0x1841).pumpHost))) ∧
  (∀ (s : State) (r : Nat), s.barOpen = true → s.host.mailbox.op = 2 → s.host.mailbox.status ≠ 1 →
    let m := s.host.mailbox
    let len : Nat := match s.object m.index m.sub with | some o => o.len | none => 0
    let w : Writer := { origin := .host, route := .mailbox, originId := hostId r }
    let t := s.dictTake m.index m.sub (m.bytes m.length) (leNat ((m.bytes m.length).take 8)) w
    let status := if t.reason = 0 then 2 else if t.reason = 1 then 3 else if t.reason = 4 ∧ m.length ≠ len then 5 else 4
    exec (.mailboxWrite r) s = .next (s.resetLeft (
      if m.ok = false then s.mailboxEnd 5 0 len 0 0 0
      else if s.passesOn m.index m.sub then (s.mailboxEnd 1 0 len 0 0 0).passOn m.index m.sub (m.bytes m.length) w 0 none
      else t.act (t.chip.mailboxEnd status (if status = 4 then t.reason else 0) len 0
        (t.chip.dict.changes.getD (objKey m.index m.sub) 0) t.chip.newestLog)).pumpHost)) ∧
  (∀ (s : State) (v : Nat), (s.msixEntry v).pending = true → s.host.msixMask = false → s.host.msixEnable = true →
    Leads (.msixUnmask (some v)) s (fun t => (t.msixEntry v).pending = false ∧ (t.msixEntry v).mask = false ∧
      Output.msix v (s.msixEntry v).address (s.msixEntry v).data ∈ t.out ∧ dataStands s t)) ∧
  (∀ (s : State) (v : Nat), (s.msixEntry v).pending = false ∨ s.host.msixMask = true ∨ s.host.msixEnable = false →
    exec (.msixUnmask (some v)) s = .next (s.left (s.setMsix v { s.msixEntry v with mask := false }))) ∧
  (∀ s : State, exec (.msixUnmask none) s = .next (s.left (Chip.each { s.toChip with host := { s.host with msixMask := false } }
    s.host.msix.keys Chip.msixRelease)))

/-- R233 to R241: Bus Master Enable and the power state close and open the port; past the limit of a closed port the queues that hold
completions are error 4; a function-level reset ends the commands and, once no read is outstanding, resets the queues and the
configuration; a link down, a hot reset and PERST_N reset the port, which then trains again. -/
def Obligations.HostPortClosesOpensAndResets : Prop :=
  (∀ s : State, s.host.busMaster = true →
    exec .busMasterDisable s = .next (s.left (Chip.hostCloses { s.toChip with host := { s.host with busMaster := false } }))) ∧
  (∀ s : State, s.host.busMaster = false →
    exec .busMasterEnable s = .next (s.left (Chip.hostOpens { s.toChip with host := { s.host with busMaster := true } }))) ∧
  (∀ s : State, s.host.d3 = false → s.host.busMaster = true →
    exec .powerStateD3hot s = .next (s.left (Chip.hostCloses { s.toChip with host := { s.host with d3 := true } }))) ∧
  (∀ s : State, s.host.d3 = true →
    exec .powerStateD0 s = .next (s.left (Chip.hostOpens { s.toChip with host := { s.host with d3 := false } }))) ∧
  (∀ (s : State) (t0 : Nat), s.host.bmeSinceNs = some t0 → s.host.busMaster = false ∨ s.host.d3 = true → s.elapsedMs t0 (s.val 0x1832) = true →
    exec .bmeClearLimitExpiry s = .next (s.left ((Chip.bump { s.toChip with host := { s.host with bmeSinceNs := none } } 0x1833).each (s.cqi.queues.keys.filter (fun q =>
      s.cqi.held.any (fun e => !e.event && decide (e.queue = q)) && decide ((s.queue q).qstate ≠ 3))) (fun c q => c.queueError q 4)))) ∧
  (∀ s : State, s.host.ready = true → s.host.flr = none →
    exec .functionLevelReset s = .next (s.left (Chip.record (Chip.bump (Chip.setVal (Chip.endCommands (Chip.bump
      { s.toChip with host := { s.host with flr := some s.clk.opNs } } 0x1830)) 0x5401 0 6) 0x5402 6) 0xC01))) ∧
  (∀ (s : State) (t0 : Nat), s.host.flr = some t0 → s.host.reads = [] →
    Leads .flrComplete s (fun t => t.host.flr = none ∧ t.host.busMaster = false ∧ t.host.d3 = false ∧ t.host.msixEnable = false ∧
      t.host.maxPayload = 128 ∧ t.host.maxRead = 512 ∧ t.host.mailbox.status = (if s.host.mailbox.status = 1 then 6 else 0) ∧
      (∀ q, (t.queue q).qstate = 0 ∧ (t.queue q).enable = false))) ∧
  (∀ s : State, s.host.perst = false → Leads .hostLinkDown s (fun t => t.host.ready = false ∧ t.host.reads = [] ∧ t.host.toRead = [] ∧
    t.host.quarantine = [] ∧ t.host.speed = 0 ∧ t.host.width = 0 ∧ t.host.releaseNs = some s.clk.opNs ∧ Output.hostTrain ∈ t.out)) ∧
  (∀ s : State, s.host.perst = false → Leads .hotReset s (fun t => t.host.ready = false ∧ t.host.reads = [] ∧ t.host.toRead = [] ∧
    t.host.quarantine = [] ∧ t.host.speed = 0 ∧ t.host.width = 0 ∧ t.host.releaseNs = some s.clk.opNs ∧ Output.hostTrain ∈ t.out)) ∧
  (∀ s : State, s.host.perst = false → Leads .perstNAssert s (fun t => t.host.ready = false ∧ t.host.perst = true ∧ t.host.reads = [] ∧
    t.host.toRead = [] ∧ t.host.releaseNs = none)) ∧
  (∀ s : State, s.host.perst = true → exec .perstNRelease s = .next (s.left { s.toChip with
    host := { s.host with perst := false, releaseNs := some s.clk.opNs }, out := s.out ++ [.hostTrain] })) ∧
  (∀ (s : State) (speed width : Nat) (flit : Bool), s.host.perst = false → s.host.ready = false → 4 ≤ speed → speed ≤ s.val 0x1803 →
    width ∈ [1, 2, 4, 8, 16] → Leads (.hostLinkReady speed width flit) s (fun t => t.host = { s.host with
      ready := true, speed, width, flit := flit || decide (speed = 6) } ∧ dataStands s t))

/-- R245 to R254: a member command past its time is aborted and the member's error counted; an abort past its second, or a fault of the
link, contains the member; a containment is released by the dictionary or by the device itself, at most three times, and fails the
member when its window ends or its presence is lost. -/
def Obligations.MemberPortsContainAndRelease : Prop :=
  (∀ (s : State) (slot id : Nat) (k : MCmd), (s.member slot).outstanding.find? (fun k => decide (k.id = id)) = some k →
    (s.member slot).slot ≠ .contained → k.aborted = none → (s.member slot).abortAsked id = false → s.elapsedMs k.admitted (s.val 0x3404) = true →
    exec (.memberCommandTimeout slot id) s = .next (s.left ((s.issue slot 0 (.nvmeAbort id) 0 .none none 0).countError slot))) ∧
  (∀ (s : State) (slot id since : Nat) (k : MCmd), (s.member slot).outstanding.find? (fun k => decide (k.id = id)) = some k →
    k.aborted = some since → (s.member slot).outstanding.any (fun a => decide (a.op = .nvmeAbort id)) = true → s.elapsedMs since 1000 = true → exec (.abortTimeout slot id) s = .next (s.left (s.contain slot 4).pumpHost)) ∧
  (∀ (s : State) (slot cause : Nat), (s.member slot).linkUp = true → 1 ≤ cause → cause ≤ 3 →
    exec (.memberLinkFault slot cause) s = .next (s.left (s.contain slot cause).pumpHost)) ∧
  (∀ (s : State) (slot : Nat) (w : Writer), s.commandReason 0x3432 slot w (if s.releasable slot true true then 0 else 5) = 0 →
    exec (.containmentRelease slot w true true) s = .next (s.left ((s.logChange 0x3432 slot w 0 0 0 1 false).release slot))) ∧
  (∀ (s : State) (slot since : Nat), (s.member slot).contNs = some since → (s.member slot).slot = .contained → s.val 0x3433 slot ≠ 0 →
    (s.member slot).presence = true → (s.member slot).contAttempts < 3 → s.elapsedMs since (s.val 0x3434) = false →
    s.logs.any (fun l => l.open_ && decide (l.slot = slot)) = true →
    exec (.containmentAutoRelease slot true true) s = .next (s.left (Chip.release (s.setMember slot { s.member slot with
      contAttempts := (s.member slot).contAttempts + 1 }) slot))) ∧
  (∀ (s : State) (slot since : Nat), (s.member slot).contNs = some since → (s.member slot).slot = .contained →
    s.elapsedMs since (s.val 0x3434) = true → (s.member slot).prevSlot.serving = true →
    exec (.containmentWindowExpiry slot) s = .next (s.left ((s.setMember slot { s.member slot with contNs := none }).failMember slot 2
      ).pumpHost)) ∧
  (∀ (s : State) (slot : Nat), (s.member slot).slot = .contained → (s.member slot).prevSlot.serving = true →
    exec (.containedPresenceLoss slot) s = .next (s.left ((((s.failMember slot 1).slotEmptied slot).memberEvent slot 2 0).pumpHost)))

/-- R255 to R265: a frame of the serial bus is counted, carries the power enables every eighth time and gives the samples of its slots; a
button asks for a removal, takes it back or powers a slot again; a removal whose window is over is refused by its first failed check or
quiesces the member; a quiesced member is safe to remove; a lost drive empties its slot. -/
def Obligations.BaysFollowTheirInputs : Prop :=
  (∀ (s : State) (stream : Nat) (l : List (Bool × Bool × Bool)), 24 * stream < s.slots →
    exec (.sgpioFrame stream l) s = .next (s.left (
      let slots := (List.range 24).map (fun i => 24 * stream + i)
      let n := s.start.frames.getD stream 0 + 1
      let power := decide (n % 8 = 0) || slots.any (fun m => (s.member m).powerEnable != (s.member m).powerSent)
      let bits := slots.map (fun m => if power then ((s.member m).powerEnable, false, false) else s.ledBits m)
      let c := ((s.emit (.sgpio stream power s.leads bits)).bump 0x3451).onStart (fun k => { k with frames := k.frames.put stream n })
      let c := if power then c.each slots (fun c m => c.updMember m (fun x => { x with powerSent := x.powerEnable })) else c
      c.each (slots.zip l) (fun c t => c.updMember t.1 (fun m =>
        m.sampled t.2.1 t.2.2.2 (decide (c.val 0x3444 t.1 = 1)) c.clk.opNs))))) ∧
  (∀ (s : State) (slot : Nat), s.slots ≤ slot → (s.member slot).refusedNs = none → (s.member slot).slot = .empty →
    exec (.buttonPress slot) s = .next (s.left s.toChip)) ∧
  (∀ (s : State) (slot : Nat), slot < s.slots → (s.member slot).refusedNs = none → (s.member slot).slot = .inUse → s.leads = true →
    exec (.buttonPress slot) s = .next (s.left (Chip.memberEvent (Chip.setMember (s.updMember slot (fun m =>
      { m with presses := m.presses + 1 })) slot { s.member slot with
        presses := (s.member slot).presses + 1, slot := .removalPending, prevSlot := .inUse, windowNs := some s.clk.opNs }) slot 3 0))) ∧
  (∀ (s : State) (slot : Nat), slot < s.slots → (s.member slot).refusedNs = none → (s.member slot).slot = .removalPending →
    s.leads = true →
    exec (.buttonPress slot) s = .next (s.left (Chip.memberEvent (Chip.setMember (s.updMember slot (fun m =>
      { m with presses := m.presses + 1 })) slot { s.member slot with
        presses := (s.member slot).presses + 1, slot := (s.member slot).prevSlot, windowNs := none }) slot 4 0))) ∧
  (∀ (s : State) (slot since : Nat), (s.member slot).windowNs = some since → (s.member slot).slot = .removalPending →
    s.elapsedMs since (s.val 0x3442) = true →
    exec (.removalWindowEnd slot) s = .next (s.left (Chip.pumpHost (
      if s.removalCheck slot ≠ 0 then s.refuseRemoval slot (s.removalCheck slot)
      else ((s.failMember slot 6).updMember slot (fun m => { m with slot := .quiescing, windowNs := none })).quiesceStep slot)))) ∧
  (∀ (s : State) (slot since : Nat), (s.member slot).refusedNs = some since → s.elapsedMs since 3000 = true →
    exec (.refusalSignalEnd slot) s = .next (s.left (s.setMember slot { s.member slot with
      refusedNs := none, slot := if (s.member slot).slot = .removalPending then (s.member slot).prevSlot else (s.member slot).slot }))) ∧
  (∀ (s : State) (slot : Nat), (s.member slot).slot = .quiescing → (s.member slot).shutting = true →
    exec (.shutdownComplete slot) s = .next (s.left ((s.updMember slot (fun m => { m.unpowered with slot := .safeToRemove })).memberEvent
      slot 6 0))) ∧
  (∀ (s : State) (slot : Nat) (r : DriveReport), (s.member slot).slot = .quiescing → (s.member slot).shutting = true →
    (s.member slot).report = some r → s.elapsedMs (s.member slot).timerNs (min 10000 r.rtd3EntryMs) = true →
    exec (.shutdownWaitExpiry slot) s = .next (s.left ((s.updMember slot (fun m => { m.unpowered with slot := .safeToRemove })).memberEvent
      slot 6 (Config.lateShutdown slot)))) ∧
  (∀ (s : State) (slot : Nat), (s.member slot).presence = true → (s.member slot).powerEnable = true → (s.member slot).linkUp = true →
    (s.member slot).slot = .inUse →
    exec (.surpriseRemoval slot) s = .next (s.left ((((s.contain slot 1).failMember slot 1).slotEmptied slot).memberEvent slot 2 0).pumpHost))

/-- R258 to R271, R429: an inserted drive is debounced, waits for its power group, is powered four slots at a time every 25 ms, trains,
and once its controller is ready takes the outcome the insertion policy gives it; a wait that is over is a power fault; a slot is
enabled and disabled by the dictionary; an unpowered slot whose presence is lost is empty. -/
def Obligations.InsertedDrivesComeUp : Prop :=
  (∀ (s : State) (slot : Nat), slot < s.slots → (s.member slot).slot = .debounce → (s.member slot).presence = false →
    s.val 0x3444 slot = 1 →
    exec (.presenceDebounced slot) s = .next (s.left (((s.setMember slot { s.member slot with
      slot := .debounce, presence := true, rawPresence := true }).memberEvent slot 1 0).joinGroup slot))) ∧
  (∀ s : State, s.clk.running = true → s.start.nextGroupNs ≤ s.clk.opNs → s.start.powered = true → s.start.phase ≠ 6 →
    s.start.powerOrder ≠ [] →
    exec .slotPowerGroup s = .next (s.left (Chip.each { s.toChip with start := { s.start with
      powerOrder := s.start.powerOrder.drop 4, nextGroupNs := s.clk.opNs + 25000000 } } (s.start.powerOrder.take 4) (fun c slot =>
      c.updMember slot (fun m => { m with
        powerEnable := true, waitPower := false, slot := .powering, timerNs := c.clk.opNs }))))) ∧
  (∀ (s : State) (slot : Nat), (s.member slot).slot = .powering →
    exec (.powerGood slot) s = .next (s.left (s.setMember slot { s.member slot with
      powerGood := true, slot := .training, timerNs := s.clk.opNs }))) ∧
  (∀ (s : State) (slot : Nat), (s.member slot).slot = .powering → s.elapsedMs (s.member slot).timerNs 500 = true →
    exec (.powerGoodTimeout slot) s = .next (s.left (s.powerFault slot))) ∧
  (∀ (s : State) (slot : Nat), (s.member slot).slot = .training → s.elapsedMs (s.member slot).timerNs 1000 = true →
    exec (.insertionWaitTimeout slot) s = .next (s.left (s.powerFault slot))) ∧
  (∀ (s : State) (slot speed width : Nat), s.onBackup = false ∨ slot ∈ s.vaultSlots → (s.member slot).slot = .training → (s.member slot).linkUp = false → 3 ≤ speed → speed ≤ 5 →
    1 ≤ width → width ≤ (if s.slots = 48 then 2 else 4) →
    exec (.memberLinkUp slot speed width) s = .next (s.left (
      let c := s.setMember slot { s.member slot with linkUp := true, linkSpeed := speed, linkWidth := width, timerNs := s.clk.opNs }
      if speed < 5 ∨ width < (if s.slots = 48 then 2 else 4) then c.memberEvent slot 14 0 else c))) ∧
  (∀ (s : State) (slot : Nat) (r : DriveReport), (s.member slot).slot = .training → (s.member slot).linkUp = true →
    exec (.controllerReady slot r) s = .next (s.left (((s.takeLanes slot r).setMember slot { s.member slot with
      slot := .ready, report := some r, label := labelOf r (s.member slot).label
      figures := if s.sameDrive slot r then (if (s.member slot).report.isNone ∧ (s.member slot).mstate.away then (s.member slot).figures else none)
        else if (s.member slot).recorded.isSome then (s.member slot).figures.or (s.member slot).report else none }).takeOutcome slot).pumpHost)) ∧
  (∀ (s : State) (slot : Nat) (v : Bool) (w : Writer) (o : Obj), s.object 0x3444 slot = some o →
    s.writeReason 0x3444 slot (leBytes 1 (if v then 1 else 0)) w = 0 →
    exec (.slotEnable slot v w) s = .next (s.left ((s.applyObject o slot (leBytes 1 (if v then 1 else 0)) w).slotEnableHook slot
      (s.val 0x3444 slot)).pumpHost)) ∧
  (∀ (s : State) (slot : Nat), (s.member slot).powerEnable = false → (s.member slot).slot ≠ .empty →
    exec (.presenceLost slot) s = .next (s.left (s.slotEmptied slot)))

/-- R277 to R299: a heartbeat of the partner is kept, its silence noted; a granted RENEW lengthens the lease from the request's time; a
leader stops writing 8 laps before its lease ends and is FENCED when it ends; a takeover serves once its replay is over; a handover
waits for the writes and then releases the lease; a synchronized standby says so, and a leader whose partner is synchronized asks JOIN. -/
def Obligations.ThePairHoldsItsLease : Prop :=
  (∀ (s : State) (hb : PartnerHb), s.paired = true → s.pair.formed = true → (s.port 0).pstate = 2 → s.pair.epoch ≤ hb.epoch →
    s.pair.role = .alone → hb.endorseGrant = false → hb.role ≠ 2 → hb.leaving = false →
    exec (.partnerHb hb) s = .next (s.left (Chip.pumpHost { s.toChip with pair := { s.pair with
      lastHb := some hb, sinceHb := 0, silent := false, peerSync := 0 } }))) ∧
  (∀ (s : State) (hb : PartnerHb), s.paired = true → s.pair.formed = true → (s.port 0).pstate = 2 → s.pair.epoch ≤ hb.epoch →
    s.pair.role = .standby → hb.role ≤ 1 → s.pair.sync = 2 → s.val 0x3816 = 1 → hb.endorseRequest = true → s.pair.recvSeq < s.pair.toldSeq →
    hb.vaultStart = false → hb.leaving = false →
    exec (.partnerHb hb) s = .next (s.left (Chip.pumpHost { s.toChip with pair := { s.pair with
      lastHb := some hb, sinceHb := 0, silent := false, peerSync := 0, epoch := max s.pair.epoch hb.epoch, endorsing := true
      endorseUntil := s.clk.opNs + ceilDiv (s.leaseNs * 513) 512 + 1000000 } }))) ∧
  (∀ s : State, s.pair.formed = true → s.val 0x3820 ≤ s.pair.sinceHb →
    exec .partnerSilent s = .next (s.left (Chip.silence { s.toChip with pair := { s.pair with silent := true } }))) ∧
  (∀ (s : State) (src : Nat) (a : LeaseAnswer), s.adp.astate = 2 → s.replyCounts src a = true → a.result = 0 → a.op = 1 →
    (s.clk.opNs - s.pair.lastReqNs) / 1000 * 1000 ≤ s.lapNs →
    exec (.leaseReply src a) s = .next (s.left (Chip.pumpHost (
      let c : Chip := { s.toChip with
        pair := { s.pair with answered := true, sinceReply := 0, judgeAge := a.partnerAge }
        adp := { s.adp with rtts := s.adp.rtts.filter (fun t => decide (s.lap < t.1 + 64)) ++ [(s.lap, (s.clk.opNs - s.pair.lastReqNs) / 1000)] } }
      ((c.takeGrant a).bump 0x3813).onPair (fun p => { p with pursue := if p.pursue = 1 then 0 else p.pursue }) |>.bump 0x4030)))) ∧
  (∀ (s : State) (a : LeaseAnswer), a.op ≤ 5 →
    (s.takeGrant a).pair.epoch = a.epoch ∧ (s.takeGrant a).pair.writeStop = false ∧
    (s.takeGrant a).pair.leaseNs = some (max (s.pair.leaseNs.getD 0) (s.pair.lastReqNs + s.leaseNs - ceilDiv s.leaseNs 512))) ∧
  (∀ (s : State) (ns : Nat), s.pair.leaseNs = some ns → s.paired = true → s.leads = true → ns ≤ s.clk.opNs + 8 * s.lapNs →
    exec .leaseWriteStop s = .next (s.left { s.toChip with pair := { s.pair with writeStop := true } })) ∧
  (∀ (s : State) (ns : Nat), s.pair.leaseNs = some ns → s.paired = true → s.leads = true → ns ≤ s.clk.opNs →
    exec .leaseExpiry s = .next (s.left (s.fence.pursue 2).pumpHost)) ∧
  (∀ (s : State) (ns : Nat), s.pair.grantNs = some ns → s.leads = true → s.pair.serving = false →
    exec .takeoverServing s = .next (s.left (Chip.pumpHost (
      let c := (s.onPair (fun p => { p with grantNs := none, serving := true })).setVal 0x3807 0 ((s.clk.opNs - ns) / 1000000)
      let c := ((c.onJournal (fun j => { j with lanesAllowed := true })).setUnitState 1).takeOutcomes
      c.each (c.cqi.deferred.filter (fun d => !d.posted && !d.closed)) (fun c d =>
        c.event 2 (d.number + d.piste * 2 ^ 32 + d.kind * 2 ^ 40)))))) ∧
  (∀ (s : State) (ns : Nat), s.pair.takeoverNs = some ns → s.elapsedMs ns (s.val 0x3822) = true →
    exec .fenceHoldEnd s = .next (s.left { s.toChip with
      pair := { s.pair with takeoverNs := none }, journal := { s.journal with avoidBlock := none } }))

/-- R293 to R298, R430, R436: a handover and a forced takeover are commanded where their conditions hold; a handover whose writes have
drained releases the lease and fences; synchronization is completed on both sides; a watching unit vaults by itself when the partner's
heartbeats stop or its time is over. -/
def Obligations.RolesChangeHands : Prop :=
  (∀ (s : State) (w : Writer), s.commandReason 0x3840 0 w s.handoverReason = 0 →
    exec (.handover w) s = .next (s.left ((s.logChange 0x3840 0 w 0 0 0 1 false).onPair (fun p => { p with handover := true })))) ∧
  (∀ s : State, s.pair.handover = true → s.cqi.cmds.any (fun x => x.isWrite && !x.dead) = false →
    exec .handoverDrained s = .next (s.left (((((s.onPair (fun p => { p with leaving := true })).sendLease 6).fence).onPair (fun p =>
      { p with leaving := true })).pumpHost))) ∧
  (∀ s : State, s.pair.role = .standby → s.pair.sync = 1 → s.pair.bulkEnded = true → s.pair.toldSeq ≤ s.pair.recvSeq →
    exec .syncComplete s = .next (s.left ((s.onPair (fun p => { p with sync := 2 })).pairRecord 4))) ∧
  (∀ s : State, s.pair.role = .alone → s.paired = true → s.pair.formed = true → s.pair.peerSync = 2 → s.pair.pursue = 0 →
    exec .syncComplete s = .next (s.left (s.pursue 5))) ∧
  (∀ (s : State) (w : Writer), s.commandReason 0x3841 0 w s.forceReason = 0 →
    exec (.forceTakeover w) s = .next (s.left ((s.logChange 0x3841 0 w 0 0 0 1 false).pursue 8))) ∧
  (∀ s : State, s.power.supply = .watch → s.pair.watchHbNs + 8 * s.lapNs ≤ s.clk.opNs →
    exec .watchHbLoss s = .next (s.left (Chip.startVault { s.toChip with pair := { s.pair with watchNs := none } } 1 false))) ∧
  (∀ (s : State) (ns : Nat), s.power.supply = .watch → s.pair.watchNs = some ns → ns + s.pair.watchLimitNs ≤ s.clk.opNs →
    exec .watchDeadline s = .next (s.left (Chip.startVault { s.toChip with pair := { s.pair with watchNs := none } } 1 false)))

/-- R279, R281, R299: a judge answers a lease request of a pair it judges by its record, keeps what was heard, grants the collected
ACQUIREs once their window is over and a pending request once the protection is; it answers a pair it does not judge with that. -/
def Obligations.TheJudgeAnswers : Prop :=
  (∀ (s : State) (src : Nat) (q : LeaseRequest), s.adp.astate = 2 → s.judges q.pairId = false →
    exec (.lease src q) s = .next (s.left ((s.answerLease src ({ JudgeRecord.reset with pairId := q.pairId }.reply q deniedUnknown s.nowUs)).bump 0x4030))) ∧
  (∀ (s : State) (src k : Nat) (q : LeaseRequest) (a : Nat) (g : JudgeRecord), s.adp.astate = 2 → s.judges q.pairId = true →
    s.judgeSlot q.pairId = some k → s.val 0x4040 k = q.pairId → q.op ≠ 6 →
    ({ s.judgeRecord q.pairId with
      heard := (s.judgeRecord q.pairId).heard.put q.serial s.nowUs, maxEpoch := max (s.judgeRecord q.pairId).maxEpoch q.epoch
      lapUs := q.leaseUs / 64 } : JudgeRecord).decide src q s.nowUs (s.nowUs - s.clk.startNs / 1000)
      (Config.judgeOther (q.op + 256 * q.serial + q.requestSeq)) = (some a, g) →
    exec (.lease src q) s = .next (s.left (((s.putJudge g).answerLease src (g.reply q a s.nowUs)).bump 0x4030))) ∧
  (∀ (s : State) (slot : Nat) (r : JudgeRecord) (b : Nat × LeaseRequest), s.judgedAt slot = some r → r.acquires = [b] →
    r.acquireUs + 8 * r.lapUs ≤ s.nowUs → r.isStale b.2.serial = false →
    exec (.judgeAcquireWindowEnd slot) s = .next (s.left ((s.putJudge (r.grant b.2 s.nowUs)).answerLease b.1
      ((r.grant b.2 s.nowUs).reply b.2 granted s.nowUs)))) ∧
  (∀ (s : State) (slot src : Nat) (r : JudgeRecord) (q : LeaseRequest), s.judgedAt slot = some r → r.pending = some (src, q) →
    r.protected_ s.nowUs = false → r.isStale q.serial = false →
    exec (.judgeProtectionEnd slot) s = .next (s.left ((s.putJudge (r.grant q s.nowUs)).answerLease src
      ((r.grant q s.nowUs).reply q granted s.nowUs))))

/-- R279, R281: a judge grants the lease to one unit of a pair while another is protected in no case: whenever it answers GRANTED to an
operation that takes or renews a lease, the record names the asking unit as the holder, and either it was the holder or no holder was
protected; a grant to a new holder raises the epoch above every one the judge has heard. -/
def Obligations.OneHolderWhileProtected : Prop :=
  ∀ (r g : JudgeRecord) (src : Nat) (q : LeaseRequest) (now start free : Nat), q.op ∈ [1, 2, 3, 4, 5, 8] →
    r.decide src q now start free = (some granted, g) →
    g.holder = q.serial ∧ (r.holder = q.serial ∨ r.protected_ now = false) ∧
      (r.holder ≠ q.serial → r.holder ≠ 0 → r.epoch < g.epoch ∧ r.maxEpoch < g.epoch)

/-- R300 to R311, R274: a link that trains runs at the next lower width of its port; it is LINK_UP with an empty port, says HELLO and, on
the ring, measures its delay; one that returns from RECOVERY keeps its retry buffer and sends it again. A flit whose CRC fails is counted
and asked for again, a marker's is counted; the next flit in order is taken and acknowledged, a message that is whole is delivered, a flit
already taken is dropped, one too far ahead asks for the missing one once. An unacknowledged port enters RECOVERY, and one that does not
return goes down. P's partner forms the pair where the two agree and is refused where they do not; a HELLO names the peer. -/
def Obligations.LinksComeUpAndRecover : Prop :=
  (∀ (s : State) (p n : Nat), s.portOn p = true → portWidth p n ≠ 0 → (s.port p).pstate < 2 →
    let c := s.setPort p { Port.reset with pstate := 2, lanes := portWidth p n }
    let h := c.sendLink p 5 1 c.helloBytes
    exec (.utoferLinkUp p n) s = .next (s.ringLeft (if p = 0 then h else Chip.ringChanged (forN 16 (fun c _ => c.sendEcho p) h)))) ∧
  (∀ (s : State) (p n : Nat), s.portOn p = true → portWidth p n ≠ 0 → (s.port p).pstate = 3 →
    exec (.utoferLinkUp p n) s = .next (s.ringLeft ((s.setPort p { s.port p with
      pstate := 2, lanes := portWidth p n, nakRun := 0, nakSent := false }).resend p))) ∧
  (∀ (s : State) (p n : Nat), s.portOn p = false ∨ portWidth p n = 0 ∨ (s.port p).pstate = 2 →
    exec (.utoferLinkUp p n) s = .next (s.ringLeft s.toChip)) ∧
  (∀ p n w : Nat, w ∈ portWidths p → w ≤ n → w ≤ portWidth p n ∧ portWidth p n ≤ n ∧ portWidth p n ∈ portWidths p) ∧
  (∀ (s : State) (p : Nat) (raw : Bytes), (s.port p).pstate = 2 → raw.length = 256 → flitCrcGood raw = false →
    let c := (s.corrected p raw).bump 0x3C15 p
    exec (.flitReceive p raw) s = .next (s.left (if (flitOf raw).cls = 4 then c.bump 0x3C32 else c.nakPeer p))) ∧
  (∀ (s : State) (p : Nat) (raw : Bytes), (s.port p).pstate = 2 → raw.length = 256 → flitCrcGood raw = true → (flitOf raw).cls = 0 →
    exec (.flitReceive p raw) s = .next (s.left (s.flitHeard p raw))) ∧
  (∀ (s : State) (p : Nat) (raw : Bytes), (s.port p).pstate = 2 → raw.length = 256 → flitCrcGood raw = true → (flitOf raw).cls ≠ 0 →
    sequenced (flitOf raw).cls = false →
    exec (.flitReceive p raw) s = .next (s.left (if portCarries p (flitOf raw).cls then (s.flitHeard p raw).takeFlit p (flitOf raw)
      else (s.flitHeard p raw).bump 0x3C15 p))) ∧
  (∀ (s : State) (p : Nat) (raw : Bytes), (s.port p).pstate = 2 → raw.length = 256 → flitCrcGood raw = true →
    sequenced (flitOf raw).cls = true → fsnOf raw = (s.flitHeard p raw).wanted p →
    let c := (s.flitHeard p raw).updPort p (fun x => { x with
      delivered := some (fsnOf raw), nakSent := false, rxUsed := x.rxUsed.put (flitOf raw).cls (x.rxUsed.getD (flitOf raw).cls 0 + 1) })
    let d := if portCarries p (flitOf raw).cls then c.takeFlit p (flitOf raw) else c.bump 0x3C15 p
    exec (.flitReceive p raw) s = .next (s.left (if (d.port p).txq.isEmpty ∧ (d.port p).pstate = 2 then d.linkFlit p false else d))) ∧
  (∀ (s : State) (p : Nat) (raw : Bytes), (s.port p).pstate = 2 → raw.length = 256 → flitCrcGood raw = true →
    sequenced (flitOf raw).cls = true → fsnOf raw ≠ (s.flitHeard p raw).wanted p →
    ((s.flitHeard p raw).wanted p + 4096 - fsnOf raw) % 4096 ≤ 2048 →
    exec (.flitReceive p raw) s = .next (s.left (s.flitHeard p raw))) ∧
  (∀ (s : State) (p : Nat) (raw : Bytes), (s.port p).pstate = 2 → raw.length = 256 → flitCrcGood raw = true →
    sequenced (flitOf raw).cls = true → 2048 < ((s.flitHeard p raw).wanted p + 4096 - fsnOf raw) % 4096 →
    exec (.flitReceive p raw) s = .next (s.left (if ((s.flitHeard p raw).port p).nakSent then s.flitHeard p raw
      else (s.flitHeard p raw).nakPeer p))) ∧
  (∀ (s : State) (p : Nat) (raw : Bytes), (s.port p).pstate ≠ 2 ∨ raw.length ≠ 256 → exec (.flitReceive p raw) s = .next (s.left s.toChip)) ∧
  (∀ (s : State) (p : Nat) (f : TxFlit), f.first = true → f.last = true → f.broadcast = false → f.dst = s.straps.nodeId →
    leAt f.payload 1 1 = 1 → definedType f.cls (leAt f.payload 0 1) = true →
    s.takeFlit p f = (s.updPort p (fun x => { x with partial_ := x.partial_.drop f.cls })).emit
      (.delivered p f.src f.cls (leAt f.payload 0 1) (slice f.payload 16 (leAt f.payload 2 3)))) ∧
  (∀ (s : State) (p : Nat), (s.port p).pstate = 2 → (s.port p).retry ≠ [] →
    exec (.utoferAckTimeout p) s = .next (s.left (((s.setPort p { s.port p with pstate := 3, nakRun := 0, downNs := s.clk.opNs }).bump
      0x3C17 p).emit (.linkTrain p)))) ∧
  (∀ (s : State) (p : Nat), (s.port p).pstate = 3 →
    let c := (s.setPort p { Port.reset with downNs := s.clk.opNs }).bump 0x3C18 p
    let d := if c.portOn p then c.emit (.linkTrain p) else c
    exec (.utoferRecoveryTimeout p) s = .next (s.ringLeft (
      if p = 0 then (if d.paired && d.pair.formed then (d.onPair (fun q => { q with silent := true })).silence else d)
      else Chip.ringChanged (d.onRing (fun r => { r with rosterDue := true }))))) ∧
  (∀ (s : State) (h : HelloMsg) (n : Nat), s.portOn 0 = true → (s.port 0).pstate = 2 → portWidth 0 n ≠ 0 →
    let c := (s.updPort 0 (fun x => { x with lanes := portWidth 0 n })).updPort 0 (fun x => { x with peer := h.nodeId })
    let d := if portWidth 0 n < 16 then c.pairRecord 9 else c
    let e := d.onPair (fun p => { p with
      formed := true, refused := false, partnerSerial := h.serial, pairId := d.pairIdentity h, sinceHb := 0, silent := false })
    d.pairAgrees h = true →
    exec (.pLinkUp h n) s = .next (s.ringLeft (if d.pair.partnerSerial = h.serial then e else e.discoverPartner))) ∧
  (∀ (s : State) (h : HelloMsg) (n : Nat), s.portOn 0 = true → (s.port 0).pstate = 2 → portWidth 0 n ≠ 0 →
    let c := (s.updPort 0 (fun x => { x with lanes := portWidth 0 n })).updPort 0 (fun x => { x with peer := h.nodeId })
    let d := if portWidth 0 n < 16 then c.pairRecord 9 else c
    let e := (d.onPair (fun p => { p with formed := false, refused := true, peerSync := 0 })).pairRecord 8
    d.paired = true → d.pairAgrees h = false →
    exec (.pLinkUp h n) s = .next (s.ringLeft (if e.leads then e.onPair (fun p => { p with role := .alone })
      else if e.pair.role = .fenced then e else e.fence))) ∧
  (∀ (s : State) (port : Nat) (h : HelloMsg), 2 ≤ (s.port port).pstate → s.ringOn = true → port ≠ 0 →
    exec (.hello port h) s = .next (s.ringLeft (((s.updPort port (fun x => { x with peer := h.nodeId })).hearNode h.nodeId h.serial (fun x =>
      { x with ticks := h.strideTicks, timeValid := h.timebaseLocked, pairId := h.pairId })).ringChanged))) ∧
  (∀ (s : State) (port : Nat) (h : HelloMsg), 2 ≤ (s.port port).pstate → s.ringOn = false ∨ port = 0 →
    exec (.hello port h) s = .next (s.ringLeft (s.updPort port (fun x => { x with peer := h.nodeId })))) ∧
  (∀ (s : State) (port t1 t2 t3 : Nat), port ≠ 0 → (s.port port).pstate = 2 →
    exec (.echoReq port t1 t2 t3) s = .next (s.left { s.toChip with out := s.out ++ [.echo port t1 (some (t3 - t2))] }))

/-- R310: after 16 samples a measured hop delay follows each new one by an eighth. -/
def Obligations.EchoesMeasureTheHop : Prop :=
  ∀ (s : State) (p t1 turn t4 : Nat), p ≠ 0 → (s.port p).pstate = 2 → 16 ≤ (s.port p).samples.length →
    (s.port p).delayPs ≠ (((s.port p).delayPs : Int) + ((((t4 - t1 - turn) * 125 / 4 : Nat) : Int) - ((s.port p).delayPs : Int)) / 8).toNat →
    exec (.echoReply p t1 turn t4) s = .next (s.ringLeft (Chip.ringChanged (Chip.onRing (s.setPort p { s.port p with
      delayPs := (((s.port p).delayPs : Int) + ((((t4 - t1 - turn) * 125 / 4 : Nat) : Int) - ((s.port p).delayPs : Int)) / 8).toNat })
      (fun r => { r with rosterDue := true }))))

/-- R286 to R292: a receiving standby takes the mirror messages in their order, each once, tells at the stride's end how far it has come,
and takes what the bulk brings; the holder keeps the highest number acknowledged and completes the writes it covers. -/
def Obligations.TheMirrorIsTakenInOrder : Prop :=
  (∀ (s : State) (p b state : Nat) (data : Bytes), s.receiving = true →
    exec (.mirrorData (s.pair.recvSeq + 1) p b state data) s = .next (s.left ((s.mirrorTake (s.pair.recvSeq + 1)
      (.block p b state data)).onPair (fun q => { q with
        recvSeq := s.pair.recvSeq + 1, toldSeq := max q.toldSeq (s.pair.recvSeq + 1) })))) ∧
  (∀ (s : State) (r : MirrorRecord), s.receiving = true →
    exec (.mirrorRecord (s.pair.recvSeq + 1) r) s = .next (s.left ((s.mirrorTake (s.pair.recvSeq + 1) (.record r)).onPair (fun q =>
      { q with recvSeq := s.pair.recvSeq + 1, toldSeq := max q.toldSeq (s.pair.recvSeq + 1) })))) ∧
  (∀ (s : State) (seq p b state : Nat) (data : Bytes) (r : MirrorRecord), seq ≠ s.pair.recvSeq + 1 →
    exec (.mirrorData seq p b state data) s = .next (s.left s.toChip) ∧ exec (.mirrorRecord seq r) s = .next (s.left s.toChip)) ∧
  (∀ (s : State) (n seq : Nat), s.receiving = true → exec (.strideEnd n seq) s = .next (s.left { s.toChip with
    pair := { s.pair with toldSeq := max s.pair.toldSeq seq }, out := s.out ++ [.mirrorAccept s.pair.recvSeq] })) ∧
  (∀ (s : State) (seq : Nat), s.mirroring = true → seq ≤ s.pair.mirrorSeq →
    exec (.mirrorAccept seq) s = .next (s.left ((Chip.pumpEntries (Chip.ackMirrored { s.toChip with pair := { s.pair with
      mirrorAcc := max s.pair.mirrorAcc seq } })).flushHeld).pumpHost)) ∧
  (∀ (s : State) (i : BulkItem), s.receiving = true → exec (.mirrorBulk i) s = .next (s.left (s.mirrorTake s.pair.recvSeq i))) ∧
  (∀ s : State, s.receiving = true → exec (.mirrorBulk .bulkEnd) s = .next (s.left { s.toChip with pair := { s.pair with bulkEnded := true } }))

/-- R312 to R318, R340: a heartbeat, a roster entry and an alias of the ring are kept for the node they name, a silent member is counted
lost; a claim is taken over by a higher epoch and given back by its claimant; a reset is passed to a node of the ring, and done where it
is allowed. -/
def Obligations.RingMembersAreHeard : Prop :=
  (∀ (s : State) (src : Nat) (h : RingHbMsg), s.ringOn = true → h.nodeId = src →
    let c := s.hearNode src h.serial (fun x => { x with
      role := h.role, sync := h.syncState, timeValid := h.timeValid, aliases := h.aliases, pairId := h.pairId, epoch := h.epoch,
      partner := h.partnerNode, hbLaps := 0 })
    c.paired = false →
    exec (.ringHb src h) s = .next (s.ringLeft ((c.onRing (fun r => { r with claims := claimsShown src h.aliases h.epoch r.claims })).ringChanged))) ∧
  (∀ (s : State) (n : Nat), n ∈ s.ring.members → n ≠ s.straps.nodeId → 2 ≤ (s.node n).hbLaps →
    exec (.ringMemberLost n) s = .next (s.ringLeft ((((s.updNode n (fun x => { x with known := false })).bump 0x3C31).ringRecord 3 (some n)
      ).ringChanged))) ∧
  (∀ (s : State) (src : Nat) (l : List RosterEntry) (e : RosterEntry), s.ringOn = true → l.find? (fun e => decide (e.nodeId = src)) = some e →
    exec (.roster src l) s = .next (s.ringLeft ((s.hearNode src e.serial (fun x => { x with
      ticks := e.strideTicks, timeValid := e.timeValid, delayE := e.delayE, delayW := e.delayW, ringState := e.ringState })).ringChanged))) ∧
  (∀ (s : State) (n who epoch : Nat), s.ringOn = true → who ≠ s.straps.nodeId → s.ring.claims.find n = none →
    s.ring.aliases.any (fun a => decide (a.1 = n) && decide (epoch ≤ a.2)) = false →
    exec (.nodeAlias who n who epoch true) s = .next (s.ringLeft ((s.onRing (fun r => { r with
      claims := r.claims.put n (who, epoch), aliases := r.aliases.filter (fun a => decide (a.1 ≠ n)) })).ringChanged))) ∧
  (∀ (s : State) (n who epoch e : Nat), s.ringOn = true → who ≠ s.straps.nodeId → s.ring.claims.find n = some (who, e) →
    exec (.nodeAlias who n who epoch false) s = .next (s.ringLeft ((s.onRing (fun r => { r with claims := r.claims.drop n })).ringChanged))) ∧
  (∀ (s : State) (src target n : Nat), s.ringOn = true → s.ownNode target = true → s.val 0x3C41 ≠ 1 →
    exec (.unitResetMsg src target n) s = .next (s.resetLeft (s.logChange 0x5430 0 { origin := .peer, route := .ring, originId := src } 5 0 0
      0x52540001 false))) ∧
  (∀ (s : State) (src target n : Nat), s.ringOn = true → s.ownNode target = true → s.val 0x3C41 = 1 →
    exec (.unitResetMsg src target n) s = .next (s.resetLeft ((s.logChange 0x5430 0 { origin := .peer, route := .ring, originId := src } 0 0 0
      0x52540001 false).leadsTo (.unit 3)))) ∧
  (∀ (s : State) (n : Nat) (w : Writer), s.commandReason 0x3C40 0 w (s.resetNodeReason n) = 0 →
    let c := s.logChange 0x3C40 0 w 0 0 0 n false
    exec (.ringResetNode n w) s = .next (s.left (c.emit (.unitReset (c.answering n) n c.newestLog))))

/-- R319 to R325: strips are checked, read, taken and failed for their home; a spanning write becomes an OPEN entry of the unit that
holds the columns; WRITTEN, CALL, REPORT, RECALL, STATE, MISSED and RESOLVE move the commit of the entry they name, a repeated MISSED
and the retry of a commit come from their timers; a barred source is counted. -/
def Obligations.SpanningStripesCommit : Prop :=
  (∀ (s : State) (src : Nat) (ref : StripeRef), s.sourceBarred src = true →
    exec (.written src ref) s = .next (s.left (s.bump 0x3C26)) ∧ exec (.call src ref) s = .next (s.left (s.bump 0x3C26)) ∧
    exec (.report src ref) s = .next (s.left (s.bump 0x3C26)) ∧ exec (.recall src ref) s = .next (s.left (s.bump 0x3C26)) ∧
    exec (.state src ref) s = .next (s.left (s.bump 0x3C26)) ∧ exec (.missed src ref) s = .next (s.left (s.bump 0x3C26)) ∧
    exec (.resolve src ref) s = .next (s.left (s.bump 0x3C26))) ∧
  (∀ (s : State) (src tag : Nat) (b : Bytes), (leAt b 7 1).testBit 0 = true →
    let c := s.dropOffer src (parseDesc b).number
    let r := c.checkFor (parseDesc b)
    exec (.pisteCheck src tag b) s = .next (s.left ((if r = 0 then c.recordOffer (parseDesc b) else c).send src 5 6
      (leBytes 4 tag ++ leBytes 1 r)))) ∧
  (∀ (s : State) (src tag : Nat) (b : Bytes), (leAt b 7 1).testBit 0 = false →
    exec (.pisteCheck src tag b) s = .next (s.left (s.send src 5 6 (leBytes 4 tag ++ leBytes 1 (s.checkReshapeFor b))))) ∧
  (∀ (s : State) (src tag : Nat) (k : SpanCheck), s.ring.checks.find? (fun k => decide (k.tag = tag) && decide (src ∈ k.waiting)) = some k →
    k.waiting.filter (fun n => decide (n ≠ src)) ≠ [] →
    Leads (.pisteCheckReply src tag 0) s (fun t => dataStands s t ∧ t.ring.checks = s.ring.checks.map (fun y =>
      if y.tag = tag then { k with waiting := k.waiting.filter (fun n => decide (n ≠ src)) } else y))) ∧
  (∀ (s : State) (src first count cls tag : Nat) (ref : StripeRef), s.sourceBarred src = false → s.joinedMember = true →
    (s.piste ref.piste).offer = false → (s.piste ref.piste).state = .absent →
    exec (.stripRead src ref first count cls tag) s = .next (s.left (s.emit (.stripe src 4 ref (leBytes 4 tag ++ leBytes 1 1))))) ∧
  (∀ (s : State) (src first count cls tag : Nat) (ref : StripeRef) (h : Spot), s.sourceBarred src = false → s.joinedMember = true →
    let c := s.homeHeard src ref.piste
    (c.piste ref.piste).state ≠ .absent →
    let i : StripeId := ⟨ref.piste, false, (areaOf ref.stripe).1, (areaOf ref.stripe).2⟩
    let col := (bitsOf 32 ref.columnMask).headD 0
    c.stripHome i col = some h → c.ownNode h.node = true → (c.member h.slot).slot ≠ .contained → (c.known i col).isNone = false →
    exec (.stripRead src ref first count cls tag) s = .next (s.left (c.issueRead h.slot cls h.zoned (c.physical h first count).1
      (c.physical h first count).2 (.remoteStrip src tag ref first count) none 0))) ∧
  (∀ (s : State) (src tag : Nat) (ref : StripeRef) (l : List Bytes) (r : Nat × Nat × Nat × Option Nat) (g : Gather), s.sourceBarred src = false →
    s.ring.reads.find? (fun r => decide (r.1 = tag)) = some r → s.gather r.2.1 = some g →
    let c := s.onRing (fun k => { k with reads := k.reads.filter (fun y => decide (y.1 ≠ tag)) })
    exec (.stripData src ref tag l) s = .next (s.left (Chip.gatherEnd (c.gatherTake g.id r.2.2.1 l))) ∧
    exec (.stripFail src ref tag 2) s = .next (s.left (Chip.gatherEnd (c.gatherFail g.id r.2.2.1 true false))) ∧
    exec (.stripFail src ref tag 1) s = .next (s.left (Chip.gatherEnd (c.gatherFail g.id r.2.2.1 false false)))) ∧
  (∀ (s : State) (src slot : Nat) (ref : StripeRef) (e : Entry), s.sourceBarred src = false → s.entryOfRef ref = some (slot, e) →
    s.isHome e = true →
    exec (.written src ref) s = .next (s.left ((s.updEntry slot (fun e => { e with
      degraded := e.degraded || ref.degraded, round := { e.round with writtenFrom := addNew e.round.writtenFrom src } })).tryCall slot))) ∧
  (∀ (s : State) (src slot : Nat) (ref : StripeRef) (e : Entry), s.sourceBarred src = false → s.entryOfRef ref = some (slot, e) →
    s.isHome e = false → s.unitOf (s.piste e.piste).home = src →
    exec (.call src ref) s = .next (s.left (s.onRound slot (fun r => { r with
      callStride := some ref.atStride, reports := [], reported := false, lockedAt1 := false, missedSent := false })))) ∧
  (∀ (s : State) (src slot : Nat) (ref : StripeRef) (e : Entry), s.sourceBarred src = false → s.entryOfRef ref = some (slot, e) →
    ref.outcome = 1 → e.round.callStride = some ref.atStride →
    exec (.report src ref) s = .next (s.left (s.onRound slot (fun r => { r with reports := addNew r.reports src })))) ∧
  (∀ (s : State) (src slot : Nat) (ref : StripeRef) (e : Entry), s.sourceBarred src = false → s.entryOfRef ref = some (slot, e) →
    s.isHome e = false →
    exec (.recall src ref) s = .next (s.left ((s.onRound slot (fun r => { r with recalling := true, callStride := none })).answerRecall slot))) ∧
  (∀ (s : State) (src slot : Nat) (ref : StripeRef) (e : Entry), s.sourceBarred src = false → s.entryOfRef ref = some (slot, e) →
    s.isHome e = true → e.round.recalling = true →
    let c := s.onRound slot (fun r => { r with states := e.round.states.put src ref.outcome })
    ((c.participants e).filter (fun n => decide (n ≠ c.straps.nodeId))).all (fun n => ((e.round.states.put src ref.outcome).find n).isSome) =
      false →
    exec (.state src ref) s = .next (s.left c.pumpEntries)) ∧
  (∀ (s : State) (src slot : Nat) (ref : StripeRef) (e : Entry), s.sourceBarred src = false → s.ownNode (s.piste ref.piste).home = true →
    s.entryOfRef ref = some (slot, e) →
    exec (.missed src ref) s = .next (s.left (if e.state = .committed then s.emit (.commit 32 7 { ref with outcome := 0 })
      else s.resolveEntry slot))) ∧
  (∀ (s : State) (src slot : Nat) (ref : StripeRef) (e : Entry), s.sourceBarred src = false → s.entryOfRef ref = some (slot, e) →
    s.isHome e = false → e.state ≠ .committed → s.unitOf (s.piste e.piste).home = src →
    exec (.resolve src ref) s = .next (s.left (s.commitSpanning slot 0x3C23))) ∧
  (∀ (s : State) (p q g slot lap : Nat) (e : Entry), s.entryOfRef { s.stripeRef ⟨p, false, 0, 0⟩ 0 g with stripe := q } = some (slot, e) →
    e.round.retryLap = some lap → s.isHome e = true → e.state ≠ .committed → lap ≤ s.lap →
    exec (.commitRetryExpiry p q g) s = .next (s.left (s.resolveEntry slot))) ∧
  (∀ (s : State) (p q g slot : Nat) (e : Entry), s.entryOfRef { s.stripeRef ⟨p, false, 0, 0⟩ 0 g with stripe := q } = some (slot, e) →
    e.spanning = true → s.isHome e = false → e.state = .parityDurable → e.round.callStride = none → e.round.sinceLap + 64 ≤ s.lap →
    exec (.missedRepeat p q g) s = .next (s.left (s.sendMissed slot))) ∧
  (∀ (s : State) (src pc first count slot : Nat) (ref : StripeRef) (m : Bytes) (l : List (List Bytes)), s.sourceBarred src = false →
    s.joinedMember = true → (s.piste ref.piste).offer = false → (s.piste ref.piste).state ≠ .absent → (s.piste ref.piste).state ≠ .creating →
    s.unitOf (s.piste ref.piste).home = src → (s.piste ref.piste).groomed = false →
    s.entryOfRef ref = none → s.freeJournalSlot = some slot →
    let cols := bitsOf 32 ref.columnMask
    exec (.stripWrite src ref m pc first count l) s = .next (s.left (((s.setEntry slot { Entry.reset with
      state := .open_, piste := ref.piste, kind := ref.kind, acked := ref.acked, spanning := true, degraded := ref.degraded
      stripMask := ref.columnMask, stripe := ref.stripe, generation := ref.generation, stride := s.clk.stride, parityCheck := pc
      first, count, memberSet := parseMemberSet m, newGeom := s.inNewGeom ref.piste ref.kind ref.stripe, computed := true
      columns := (List.range cols.length).foldl (fun m j => KMap.put m (atD cols j 0) (atD l j [])) []
      touched := true, round := { CommitRound.reset with sinceLap := s.lap } }).updPiste ref.piste (fun x => { x with
        generation := max x.generation (ref.generation + 1) })).pumpEntry slot)))

/-- R343, R347 to R349, Table 12.9: a frame with a bad tag is discarded and counted; a reserved operation is answered UNSUPPORTED; DISCOVER
is answered by the unit it looks for; SYNC_REQ draws a session, which replaces the one idle longest in a full table; a request of no session
is answered NO_SESSION, one already processed gets its stored reply again, an older one is discarded and counted. -/
def Obligations.FramesAndSessionsAreKept : Prop :=
  (∀ (s : State) (f : AdpFrame) (key : Bytes), s.adp.astate = 2 → s.macTakes f = true →
    s.dict.keys.find f.keySlot = some key → hmacTag key (frameBytes f) ≠ f.tag →
    let t := Host.Outcome.next (s.left ((s.bump 0x4030).bump 0x4032))
    exec (.discover f) s = t ∧ exec (.syncReq f) s = t ∧ exec (.vaultHb f) s = t ∧ exec (.adpRead f) s = t) ∧
  (∀ (s : State) (f : AdpFrame), Arrives s.toChip f → f.reply = false →
    exec (.adpUnsupported f) s = .next (s.left ((s.bump 0x4030).sendFrame (replyTo f 6 [])))) ∧
  (∀ (s : State) (f : AdpFrame), Arrives s.toChip f → f.reply = false → f.version = 1 →
    (leAt f.body 0 8 = 0 ∨ leAt f.body 0 8 = Config.unitSerial) →
    exec (.discover f) s = .next (s.left (
      let c := s.bump 0x4030
      c.sendFrame (replyTo { f with session := 0 } 0 (leBytes 8 Config.unitSerial ++ leBytes 8 c.pair.pairId ++
        leBytes 1 c.straps.nodeId ++ leBytes 1 c.pair.role.code ++ leBytes 1 (c.val 0x1002) ++ leBytes 1 (c.val 0x3850) ++
        leBytes 4 (leNat ((c.readObject 0x1005 0).getD []))))))) ∧
  (∀ (s : State) (f : AdpFrame), Arrives s.toChip f → f.reply = false → f.version = 1 →
    let r := (s.bump 0x4030).random64
    let new : Session := { id := r.1, mac := f.srcMac, highest := 0, stored := none, lastLap := r.2.lap }
    let reply := replyTo { f with session := 0 } 0 (leBytes 8 (leAt f.body 0 8) ++ leBytes 8 r.1)
    (r.2.adp.sessions.length < 32 →
      exec (.syncReq f) s = .next (s.left ((r.2.onAdp (fun a => { a with sessions := r.2.adp.sessions ++ [new] })).sendFrame reply))) ∧
    (∀ o, 32 ≤ r.2.adp.sessions.length → idlest r.2.adp.sessions = some o →
      exec (.syncReq f) s = .next (s.left ((r.2.onAdp (fun a => { a with
        sessions := r.2.adp.sessions.filter (fun x => decide (x.id ≠ o.id)) ++ [new] })).sendFrame reply)))) ∧
  (∀ (s : State) (f : AdpFrame), Arrives s.toChip f → f.reply = false → f.version = 1 → s.session f.session = none →
    exec (.adpRead f) s = .next (s.left ((s.bump 0x4030).sendFrame (replyTo f 5 [])))) ∧
  (∀ (s : State) (f : AdpFrame) (x : Session) (r : AdpFrame), Requests s.toChip f x → f.seq = x.highest → x.stored = some r →
    exec (.adpRead f) s = .next (s.left ((s.heard f).sendFrame r))) ∧
  (∀ (s : State) (f : AdpFrame) (x : Session), Requests s.toChip f x → f.seq < x.highest →
    exec (.adpRead f) s = .next (s.left ((s.heard f).bump 0x4033)))

/-- R331, R336, R351, Table 12.9: an object is read with its length and its change count; a write or a PAIR_WRITE of the partner is
applied and answered with its log number; a unit that is not ready, or whose queue of
requests is full, answers them BUSY; VAULT_HB, VAULT_END and SAFE_NOTICE are taken and
answered OK. -/
def Obligations.RequestsOfTheNetworkAreServed : Prop :=
  (∀ (s : State) (f : AdpFrame) (x : Session) (b : Bytes), Requests s.toChip f x → x.highest < f.seq → (s.opened f).adpServes = true → (s.opened f).adpQueueFull = false →
    (s.opened f).readObject (leAt f.body 0 2) (leAt f.body 2 1) = some b → leAt f.body 4 4 ≤ b.length →
    leAt f.body 8 2 ≤ (s.opened f).val 0x4003 - 8 →
    exec (.adpRead f) s = .next (s.left ((s.opened f).answerFrame f 0 (leBytes 4 b.length ++
      leBytes 4 ((s.opened f).dict.changes.getD (objKey (leAt f.body 0 2) (leAt f.body 2 1)) 0) ++
      (b.drop (leAt f.body 4 4)).take (leAt f.body 8 2))))) ∧
  (∀ (s : State) (f : AdpFrame) (x : Session), Requests s.toChip f x → x.highest < f.seq → (s.opened f).adpServes = false →
    exec (.adpRead f) s = .next (s.left ((s.opened f).answerBusy f)) ∧
    exec (.adpWrite f) s = .next (s.resetLeft ((s.opened f).answerBusy f).pumpHost) ∧
    exec (.pairWrite f) s = .next (s.resetLeft ((s.opened f).answerBusy f).pumpHost)) ∧
  (∀ (s : State) (f : AdpFrame) (x : Session) (o : Obj), Requests s.toChip f x → x.highest < f.seq → (s.opened f).adpServes = true → (s.opened f).adpQueueFull = false →
    let w := bodyWrite f.body 0
    let t := (s.opened f).dictTake w.1 w.2.1 w.2.2 (leNat (w.2.2.take 8)) { origin := .net, route := .adp, originId := f.srcMac }
    (s.opened f).passesOn w.1 w.2.1 = false → (s.opened f).object w.1 w.2.1 = some o → o.secret = false → t.reason = 0 →
    exec (.adpWrite f) s = .next (s.resetLeft (t.act (t.chip.answerFrame f 0 (leBytes 8 t.chip.newestLog))).pumpHost)) ∧
  (∀ (s : State) (f : AdpFrame) (x : Session) (o : Obj), Requests s.toChip f x → x.highest < f.seq → (s.opened f).adpServes = true → (s.opened f).adpQueueFull = false →
    let w := bodyWrite f.body 8
    let t := (s.opened f).dictTake w.1 w.2.1 w.2.2 (leNat (w.2.2.take 8))
      { origin := originOf (leAt f.body 0 1), route := .adp, originId := leAt f.body 2 6 }
    (s.opened f).leads = true → (s.opened f).pair.formed = true → f.srcMac = (s.opened f).adp.partnerMac →
    (s.opened f).object w.1 w.2.1 = some o → o.pairWide = true → o.secret = false → t.reason = 0 →
    exec (.pairWrite f) s = .next (s.resetLeft (t.act (t.chip.answerFrame f 0 (leBytes 8 t.chip.newestLog))).pumpHost)) ∧
  (∀ (s : State) (f : AdpFrame) (x : Session), Requests s.toChip f x → x.highest < f.seq →
    (leAt f.body 0 8 = (s.opened f).pair.pairId → (s.opened f).power.supply = .watch →
      exec (.vaultHb f) s = .next (s.left (((s.opened f).onPair (fun p => { p with watchHbNs := (s.opened f).clk.opNs })).answerFrame f 0 []))) ∧
    exec (.vaultEnd f) s = .next (s.left (((s.opened f).vaultEnded f.body).answerFrame f 0 [])) ∧
    exec (.safeNotice f) s = .next (s.left ((((s.opened f).partnerSafe f.body).when ((s.opened f).val 0x3850 = 1)
      (fun c => c.pairRecord 11)).answerFrame f 0 []))) ∧
  (∀ (s : State) (f : AdpFrame) (x : Session), Requests s.toChip f x → x.highest < f.seq → (s.opened f).adpServes = true →
    (s.opened f).adpQueueFull = true →
    let busy := ((s.opened f).bump 0x4034).answerFrame f 1 (leBytes 2 1)
    exec (.adpRead f) s = .next (s.left busy) ∧ exec (.adpWrite f) s = .next (s.resetLeft busy.pumpHost) ∧
    exec (.pairWrite f) s = .next (s.resetLeft busy.pumpHost))

/-- R348, R350: a reply ends the request it answers and lets the next one go, BUSY makes it wait, NO_SESSION opens a new session; an
unanswered request is sent again unchanged, and after the last retry it is given up and a new session opened. -/
def Obligations.RequestsOfTheUnitEnd : Prop :=
  (∀ (s : State) (f r : AdpFrame), Arrives s.toChip f → f.reply = true → f.op ≠ 0x01 → f.op ≠ 0x02 → f.session ≠ 0 →
    f.session = s.adp.toPartner.id → f.srcMac = s.adp.partnerMac → f.op ≠ 0x20 → s.adp.toPartner.outstanding = some r →
    r.seq = f.seq → r.op = f.op → s.adp.toPartner.retryLap = none →
    let c := s.bump 0x4030
    (f.status = 0 → exec (.adpReply f) s = .next (s.left (c.requestEnded false f.op 0 (leAt f.body 0 8)).pumpHost)) ∧
    (f.status = 1 → exec (.adpReply f) s = .next (s.left (c.setRequester false { s.adp.toPartner with
      retryLap := some (c.lap + leAt f.body 0 2) }).pumpHost)) ∧
    (f.status = 5 → exec (.adpReply f) s = .next (s.left (c.sessionGone false).pumpHost))) ∧
  (∀ (s : State) (judge : Bool) (f : AdpFrame), (s.requester judge).outstanding = some f → (s.requester judge).retryLap = none →
    (s.requester judge).sentLap + s.val 0x4004 ≤ s.lap →
    ((s.requester judge).tries < s.val 0x4005 →
      exec (.adpRequestTimeout judge) s = .next (s.left ((s.setRequester judge { s.requester judge with
        tries := (s.requester judge).tries + 1, sentLap := s.lap }).sendFrame f).pumpHost)) ∧
    (s.val 0x4005 ≤ (s.requester judge).tries → f.op ≠ 0x12 →
      exec (.adpRequestTimeout judge) s = .next (s.left (((s.setRequester judge { s.requester judge with
        id := 0, outstanding := none, tries := 0 }).pairRecord 13).openSession judge).pumpHost)))

/-- R335, R338, R339, R344: a write that passes its checks is logged and has its effect, be it a value, a command, an object's rights or a
key; the settings held go to both flashes; a PHY that came out of reset is set up again, and one whose register does not read back is a fault. -/
def Obligations.DictionaryWritesTakeEffect : Prop :=
  (∀ (s : State) (index sub : Nat) (b : Bytes) (w : Writer), (s.dictTake index sub b (leNat (b.take 8)) w).reason = 0 →
    exec (.dictWriteOther index sub b w) s = .next (s.resetLeft
      ((s.dictTake index sub b (leNat (b.take 8)) w).act (s.dictTake index sub b (leNat (b.take 8)) w).chip).pumpHost)) ∧
  (∀ (s : State) (v : Nat) (w : Writer), s.commandReason 0x1120 0 w (s.rightsReason v) = 0 →
    exec (.rightsSet v w) s = .next (s.left ((s.logChange 0x1120 0 w 0 0 0 v false).setRights v))) ∧
  (∀ (s : State) (slot : Nat) (key : Bytes) (w : Writer), s.commandReason 0x4020 slot w (keyReason key) = 0 →
    exec (.adpKeyWrite slot key w) s = .next (s.left ((s.logChange 0x4020 slot w 0 0 0 0 true).setKey slot key))) ∧
  (∀ s : State, s.dict.uncommitted ≠ [] → exec .settingsCommit s = .next (s.left { s.toChip with
    out := s.out ++ [.flashWrite 6], dict := s.dict.commit })) ∧
  (∀ (s : State) (bad : Nat), s.val 0x4000 ≠ 0 → s.clk.running = true →
    exec (.phyResetDetected true bad) s = .next (s.left (s.programPhy none)) ∧
    exec (.phyResetDetected false bad) s = .next (s.left ((s.programPhy (some bad)).onAdp (fun a => { a with phy := a.phy.drop bad }))))

/-- R358 to R363, R368: the supply state follows the input. BRACE is entered at the warn level and left after 4 good laps; at the
switch level a unit without a usable pack is EXPOSED, and one with a pack turns on its hold-up and leaves its input; at the reset level
an EXPOSED unit is held in reset, and it starts again when the input is back; an input that recovers is noted during a vault. -/
def Obligations.SupplyStateFollowsTheInput : Prop :=
  (∀ (s : State) (mv : Nat), s.clk.running = true → s.power.supply = .normal → mv ≤ s.val 0x4400 →
    exec (.vinWarn mv) s = .next (s.left (Chip.supplyRecord (Chip.ltrCheck (Chip.chargerLap (Chip.stirPause (Chip.bump
      { s.toChip with power := { s.power with supply := .brace, vinNow := mv, goodLaps := 0, braceLaps := 0, braceMin := mv } }
      0x4406)))) 9))) ∧
  (∀ s : State, s.power.supply = .brace ∨ s.power.supply = .exposed → 4 ≤ s.power.goodLaps →
    Leads .braceExit s (fun t => t.power.supply = .normal ∧ dataStands s t)) ∧
  (∀ (s : State) (mv : Nat), s.clk.running = true → s.power.supply = .brace → mv ≤ s.val 0x4401 → s.power.packState ≠ 1 →
    exec (.vinSwitch mv) s = .next (s.left (Chip.supplyRecord (Chip.ltrCheck (Chip.chargerLap (Chip.stirPause
      (Chip.onPower (Chip.endBrace { s.toChip with power := { s.power with
          vinNow := mv, goodLaps := 0, braceMin := min s.power.braceMin mv } })
        (fun p => { p with supply := .exposed })))))
      13))) ∧
  (∀ (s : State) (mv : Nat), s.clk.running = true → s.power.supply = .normal → mv ≤ s.val 0x4401 → s.power.packState = 1 →
    s.power.pause ≠ 2 →
    exec (.vinSwitch mv) s = .next (s.left (Chip.toBackup { s.toChip with power := { s.power with
      vinNow := mv, goodLaps := 0, braceMin := mv, holdup := true, chgEn := false, charger := 5, test := none, recovered := false
      restNs := s.clk.opNs } }))) ∧
  (∀ (s : State) (mv : Nat), s.power.supply = .exposed → s.power.holdup = false → mv ≤ s.val 0x4402 → s.ring.stale = false →
    Leads (.vinReset mv) s (fun t => t.clk.running = false)) ∧
  (∀ s : State, s.power.vinReset = true → s.ring.stale = false →
    Leads .vinResetRelease s (fun t => t.clk = { Clock.reset with
      opNs := s.clk.opNs, cycles := s.clk.cycles, startNs := s.clk.opNs, missed := s.clk.missed })) ∧
  (∀ s : State, s.power.supply = .vault ∨ s.power.supply = .watch → 4 ≤ s.power.goodLaps →
    exec .vaultInputRecovered s = .next (s.resetLeft { s.toChip with power := { s.power with recovered := true } }))

/-- R363, R372, R374, R380, R381, R384: the pack's state. A pack that leaves CONNECTED closes the gate; one that connects opens it; ship
mode is asked for, takes effect once nothing is dirty, and ends when the pack is found at its terminals again. -/
def Obligations.PackStateOpensAndClosesTheGate : Prop :=
  (∀ (s : State) (cause : Nat), s.power.packState = 1 → cause = 0 ∨ cause = 3 ∨ cause = 4 →
    exec (.packLeavesConnected cause) s = .next (s.left (Chip.chargerLap (Chip.supplyRecord
      { s.toChip with power := { s.power with packState := cause }, cache := { s.cache with gateClosed := true } } 5)))) ∧
  (∀ (s : State) (mv : Nat) (dc : Int), s.power.packState = 0 ∨ s.power.packState = 3 → s.packReading (mv * 1000) dc = 1 →
    s.power.first = true →
    exec (.packConnected mv dc) s = .next (s.left (Chip.chargerLap (Chip.supplyRecord (Chip.firstEstimate
      { s.toChip with power := { s.power with packState := 1 }, cache := { s.cache with gateClosed := s.power.shipPending } } (mv * 1000) dc) 6)))) ∧
  (∀ (s : State) (w : Writer), s.commandReason 0x4432 0 w (s.shipReason 0x50494853) = 0 →
    Leads (.shipMode 0x50494853 w) s (fun t => t.power = { s.power with shipPending := true, usable := 0 } ∧
      t.cache = { s.cache with gateClosed := true } ∧ t.members = s.members ∧ t.pistes = s.pistes ∧ t.journal = s.journal)) ∧
  (∀ s : State, s.power.shipPending = true → s.dirtyBytes = 0 → s.power.supply = .normal →
    Leads .shipModeOpen s (fun t => t.power.packState = 2 ∧ t.power.packSw = true ∧ t.power.charger = 5 ∧ t.power.chgEn = false ∧
      dataStands s t)) ∧
  (∀ (s : State) (uv : Nat) (dc : Int), s.power.packState = 2 → s.power.shipArmed = true → packCutMv s.pack * 1000 ≤ uv →
    uv ≤ packMaxMv s.pack * 1000 →
    exec (.packReconnect uv dc) s = .next (s.left (Chip.supplyRecord (Chip.firstEstimate
      { s.toChip with power := { s.power with packState := 1, shipArmed := false, packSw := false }
                      cache := { s.cache with gateClosed := false } } uv dc) 7)))

/-- R371, R375 to R379, R382: the charger and the pack's estimator. CC becomes CV, and CHARGER_CV in another state does nothing; the rest
at a start ends after 120 s with a rest point when the voltage has stood still, without one when it has moved, and in ship mode arms the
reconnection; a resistance in its bounds moves k an eighth of the way, one out of them, or measured while learning is held, does not; a
pause opens in NORMAL with a window, ends at rest with a rest point and fails otherwise, when its window closes and when none opens within
24 hours; a new pack ends what has been learned. -/
def Obligations.ChargerAndEstimatorAnswerTheirEvents : Prop :=
  (∀ s : State, s.power.charger = 1 → exec .chargerCv s = .next (s.left { s.toChip with
    power := { s.power with charger := 2, chgEn := true, restNs := s.clk.opNs } })) ∧
  (∀ s : State, s.power.charger ≠ 1 → exec .chargerCv s = .next (s.left s.toChip)) ∧
  (∀ (s : State) (uv : Nat) (dc : Int) (moved t0 : Nat), s.power.startRest = some t0 → t0 + 120000 * 1000000 ≤ s.clk.opNs →
    s.power.packState ≠ 2 → 2000 < moved →
    exec (.startRestEnd uv dc moved) s = .next (s.left (Chip.chargerLap
      { s.toChip with power := { s.power with startRest := none, shipArmed := false } }))) ∧
  (∀ (s : State) (uv : Nat) (dc : Int) (moved t0 : Nat), s.power.startRest = some t0 → t0 + 120000 * 1000000 ≤ s.clk.opNs →
    s.power.packState ≠ 2 → s.power.first = false → moved ≤ 2000 →
    exec (.startRestEnd uv dc moved) s = .next (s.left (Chip.chargerLap (Chip.restPoint
      { s.toChip with power := { s.power with startRest := none, shipArmed := false, packUv := uv, tempDc := dc } }
      (packOcvInv s.pack dc ((uv : Rat) / 1000000 + packIdle s.pack * s.power.k * packRs s.pack dc + s.power.vrc)))))) ∧
  (∀ (s : State) (uv : Nat) (dc : Int) (moved t0 : Nat), s.power.startRest = some t0 → t0 + 120000 * 1000000 ≤ s.clk.opNs →
    s.power.packState = 2 →
    exec (.startRestEnd uv dc moved) s = .next (s.left (Chip.chargerLap
      { s.toChip with power := { s.power with startRest := none, shipArmed := true } }))) ∧
  (∀ (s : State) (uv : Nat) (dc : Int) (moved : Nat), (∀ t0, s.power.startRest = some t0 → s.clk.opNs < t0 + 120000 * 1000000) →
    exec (.startRestEnd uv dc moved) s = .next (s.left s.toChip)) ∧
  (∀ (s : State) (uv : Nat) (dc : Int), s.power.learn ≠ 3 →
    (1 : Rat) / 2 ≤ ratio ((uv : Rat) / 1000000) (packIchg s.pack * packRs s.pack dc) →
    ratio ((uv : Rat) / 1000000) (packIchg s.pack * packRs s.pack dc) ≤ 4 →
    Leads (.resistanceStepMeasure uv dc) s (fun t => t.power = { s.power with
      k := s.power.k + (ratio ((uv : Rat) / 1000000) (packIchg s.pack * packRs s.pack dc) - s.power.k) / 8 } ∧ dataStands s t)) ∧
  (∀ (s : State) (uv : Nat) (dc : Int), s.power.learn = 3 ∨
    ratio ((uv : Rat) / 1000000) (packIchg s.pack * packRs s.pack dc) < (1 : Rat) / 2 ∨
    4 < ratio ((uv : Rat) / 1000000) (packIchg s.pack * packRs s.pack dc) →
    exec (.resistanceStepMeasure uv dc) s = .next (s.left s.toChip)) ∧
  (∀ s : State, s.power.pause = 1 → s.val 0x4421 = 1 → s.power.supply = .normal →
    Leads .chargerPauseStart s (fun t => t.power = { s.power with
      pause := 2, pauseNs := some s.clk.opNs, charger := 4, chgEn := false
      restNs := if s.power.charger = 1 ∨ s.power.charger = 2 then s.clk.opNs else s.power.restNs } ∧ dataStands s t)) ∧
  (∀ (s : State) (uv : Nat) (dc : Int) (t0 : Nat), s.power.pause = 2 → s.power.pauseNs = some t0 → t0 + 1800000 * 1000000 ≤ s.clk.opNs →
    (s.atRest = true →
      exec (.chargerPauseEnd uv dc) s = .next (s.left (Chip.chargerLap (Chip.restPoint
        { s.toChip with power := { s.power with pause := 0, pauseNs := none, tempDc := dc } }
        (packOcvInv s.pack dc ((uv : Rat) / 1000000 + packIdle s.pack * s.power.k * packRs s.pack dc + s.power.vrc)))))) ∧
    (s.atRest = false → exec (.chargerPauseEnd uv dc) s = .next (s.left s.pauseFails.chargerLap))) ∧
  (∀ s : State, s.power.pause = 2 → s.val 0x4421 = 0 → exec .pauseWindowFail s = .next (s.left s.pauseFails.chargerLap)) ∧
  (∀ s : State, s.power.pause = 1 → s.power.learn ≠ 3 → s.power.pauseDueNs + 86400000 * 1000000 ≤ s.clk.opNs →
    Leads .pauseWindowFail s (fun t => t.power = { s.power with
      pause := 1, pauseNs := none, learn := 3, learnBefore := s.power.learn } ∧
      dataStands s t)) ∧
  (∀ (s : State) (w : Writer), s.commandReason 0x4431 0 w 0 = 0 →
    Leads (.packReplaced w) s (fun t => t.power.q = packQnom s.pack ∧ t.power.k = 1 ∧ t.power.learn = 0 ∧ t.power.lastRest = none ∧
      dataStands s t))

/-- R364 to R368, R382: how a vault ends. Its cut-off and the loss of a drive it writes to fail it; its completion writes the final
header, flushes the recorder and tells the partner; the figures of a vault test are kept and its handle ends. -/
def Obligations.VaultEnds : Prop :=
  (∀ (s : State) (ms : Nat), s.power.vaultStep = 4 → s.power.supply = .vault →
    Leads (.vaultComplete ms) s (fun t => t.power.supply = .down ∧ t.power.vaultStep = 0 ∧ t.power.wroteMs = ms ∧
      t.pistes = s.pistes ∧ t.members = s.members ∧ t.cache = s.cache ∧ t.journal = s.journal)) ∧
  (∀ s : State, s.power.supply = .vault → s.power.vaultStep ≠ 0 →
    exec .vaultCutoff s = .next (s.left (Chip.vaultFails { s.toChip with power := { s.power with packState := 4 } }))) ∧
  (∀ (s : State) (drive : Nat), s.power.vaultStep ≠ 0 → drive ∈ s.power.vaultDrives →
    exec (.vaultDriveLost drive) s = .next (s.left s.toChip.vaultFails)) ∧
  (∀ (s : State) (rate mib ms slot : Nat), s.power.test = some slot →
    Leads (.vaultTestEnd rate mib ms none) s (fun t => t.power = { s.power with test := none, holdup := false } ∧ dataStands s t))

/-- R387 to R401: a corrected SRAM error at a new place is counted, noted and fills the region's bucket; a second one at the same place
is a hard fault; a corrected LPDDR6 error fills the bucket and enters its page's history. An uncorrectable error is counted, reported
and takes its outcome; an entry of the merge buffer that times out is counted, and one over uncorrectable old bytes takes theirs; a
halted DMA channel restarts and its fault is cleared. -/
def Obligations.MemoryErrorsTakeTheirOutcome : Prop :=
  (∀ (s : State) (region address bit : Nat), 48 ≤ region → region < 64 → (region, address, bit) ∉ s.mem.hard →
    (region, address, bit) ∉ s.mem.corrected → s.mem.scrub.covers region address = false →
    exec (.memoryCorrected region address bit) s = .next (s.left (Chip.fillBucket (Chip.onMem ((s.bump 0x4803).bump 0x4813 region)
      (fun m => { m with corrected := m.corrected ++ [(region, address, bit)] })) region address))) ∧
  (∀ (s : State) (region address bit : Nat), 48 ≤ region → region < 64 → (region, address, bit) ∉ s.mem.hard →
    (region, address, bit) ∈ s.mem.corrected → s.mem.scrub.covers region address = false →
    exec (.memoryCorrected region address bit) s = .next (s.left (((s.bump 0x4803).bump 0x4813 region).hardFault region address bit))) ∧
  (∀ (s : State) (region address bit : Nat), region < 48 → s.mem.scrub.covers region address = false →
    exec (.memoryCorrected region address bit) s = .next (s.left (((((s.setPoison region address false).bump 0x4801).bump 0x4813
      region).fillBucket region address).pageCorrected region (pageOf address)))) ∧
  (∀ (s : State) (region address : Nat), 48 ≤ region → region < 64 → s.mem.scrub.covers region address = false →
    exec (.memoryUncorrectable region address .other none) s = .next (s.left ((((s.bump 0x4804).bump 0x4814 region).faultTake region 0x11
      (some address) false).selfClear region))) ∧
  (∀ (s : State) (entry region address : Nat) (m : MemoryContent), entry < 64 →
    exec (.mergeEntryTimeout entry region address true m) s =
      .next (s.left ((s.bump 0x4805).setPoison region address false)) ∧
    exec (.mergeEntryTimeout entry region address false m) s =
      .next (s.left (((s.bump 0x4805).memoryUncorrectable region address m none).setPoison region address true))) ∧
  (∀ (s : State) (ch : DmaChannel), ch ∈ s.mem.halted → ch ≠ .host →
    Leads (.dmaHaltRestart ch) s (fun t => t.mem = { s.mem with halted := s.mem.halted.filter (fun d => decide (d ≠ ch)) } ∧ dataStands s t)) ∧
  (∀ s : State, .host ∈ s.mem.halted →
    exec (.dmaHaltRestart .host) s = .next (s.left (Chip.hostResumes (Chip.selfClear
      { s.toChip with mem := { s.mem with halted := s.mem.halted.filter (fun d => decide (d ≠ .host)) } } 0x70))))

/-- R402 to R405: a commanded scrub starts, is cancelled and ends; the patrol advances and its passes are counted. -/
def Obligations.ScrubsRunAndEnd : Prop :=
  (∀ (s : State) (b : Bytes) (w : Writer), s.commandReason 0x4840 0 w (s.scrubReason b) = 0 →
    Leads (.scrubStart b w) s (fun t => t.mem = { s.mem with scrub := { Scrub.reset with
      state := 1, target := leAt b 0 1, region := leAt b 1 1, repair := (leAt b 2 1).testBit 0, first := leAt b 8 8
      length := leAt b 16 8, startStride := s.clk.stride } } ∧ dataStands s t)) ∧
  (∀ (s : State) (w : Writer), s.commandReason 0x4843 0 w 0 = 0 → s.mem.scrub.state = 1 →
    Leads (.scrubCancel w) s (fun t => t.mem = { s.mem with scrub := { s.mem.scrub with cancel := true } } ∧ dataStands s t)) ∧
  (∀ s : State, s.mem.scrub.state = 1 → s.mem.scrub.cancel = false →
    Leads .scrubEnd s (fun t => t.mem.scrub.state = 2 ∧ t.mem.scrub.endReason = 0 ∧ t.mem.scrub.endStride = s.clk.stride ∧
      t.mem.scrub.read = s.scrubLines s.mem.scrub ∧ dataStands s t)) ∧
  (∀ (s : State) (lines : Nat), s.val 0x4848 ≠ 0 → s.mem.patrol + 64 * lines < Config.lpddrBytes →
    exec (.patrolScrub lines) s = .next (s.left { s.toChip with mem := { s.mem with patrol := s.mem.patrol + 64 * lines } })) ∧
  (∀ (s : State) (lines : Nat), s.val 0x4848 ≠ 0 → Config.lpddrBytes ≤ s.mem.patrol + 64 * lines →
    exec (.patrolScrub lines) s = .next (s.left (Chip.bump
      { s.toChip with mem := { s.mem with patrol := s.mem.patrol + 64 * lines - Config.lpddrBytes } } 0x4849)))

/-- R407 to R420: a fault message is taken with its timer, and one of a direct kind enters the safe state; an expired timer does; a
fault is cleared by the dictionary, and forced by it. -/
def Obligations.FaultsAreTakenClearedAndForced : Prop :=
  (∀ (s : State) (source kind : Nat) (address : Option Nat), kindOf source kind = true → directKind kind = false →
    exec (.faultMessage source kind address) s = .next (s.left (s.faultTake source kind address false).pumpHost)) ∧
  (∀ (s : State) (source : Nat) (p : PendingFault), s.faults.pending = [(source, p)] → p.started = true → p.left = 0 →
    exec (.faultTimerExpiry source) s = .next (s.left (((s.endFault source 5).bump 0x4C03).enterSafe p.message p.occurrence 1).pumpHost)) ∧
  (∀ (s : State) (value : Nat) (w : Writer), s.commandReason 0x4C11 0 w (s.clearReason value w) = 0 →
    Leads (.faultClear value w) s (fun t => t.faults.pending = s.faults.pending.drop (value % 1024) ∧
      t.faults.occurrences = s.faults.occurrences ∧ t.faults.safe = s.faults.safe ∧ dataStands s t)) ∧
  (∀ (s : State) (source kind : Nat) (w : Writer), kindOf source kind = true → directKind kind = false →
    s.commandReason (0x4C40 + source / 256) (source % 256) w 0 = 0 →
    exec (.faultForce source kind w) s = .next (s.left ((s.logChange (0x4C40 + source / 256) (source % 256) w 0 0 0 kind
      (decide (0x4C40 + source / 256 = 0x4020))).faultTake source kind none true).pumpHost))

/-- R421 to R426: the recorder's buffer is flushed by the dictionary and every 1,024 laps while it holds what is not flushed, and its
sequence number is saved to both flashes. -/
def Obligations.RecorderFlushesAndCheckpoints : Prop :=
  (∀ (s : State) (w : Writer), s.commandReason 0x5040 0 w 0 = 0 →
    exec (.recorderFlush w) s = .next (s.left (s.logChange 0x5040 0 w 0 0 0 1 false).flushRecorder)) ∧
  (∀ s : State, s.recorder.flushed < s.recorder.seq → s.recorder.lastFlushLap + 1024 ≤ s.lap →
    exec .recorderFlushPeriodic s = .next (s.left s.flushRecorder)) ∧
  (∀ s : State, exec .recorderCheckpoint s = .next (s.left { s.toChip with
    recorder := { s.recorder with saved := max s.recorder.saved s.recorder.seq, savedMs := s.nowMs }
    out := s.out ++ [.flashWrite 2] }))

/-- R427 to R450: the starts and the resets. Power and RESET_N set the clock, the straps and the cycle count; the firmware starts the
clock at the selected stride; the wait for members ends; an image is written into the unused flash. -/
def Obligations.StartsAndResetsSetTheClock : Prop :=
  (∀ (s : State) (i : StartInputs), s.start.powered = false → i.railsOk = true → i.referenceOk = true → s.ring.stale = false →
    Leads (.coldPowerOn i) s (fun t => t.clk = { Clock.reset with
      opNs := s.recorder.savedMs * 1000000, cycles := s.clk.cycles + 1, startNs := s.recorder.savedMs * 1000000 } ∧
      t.straps = { memberX4 := i.strapMemberX4, nodeId := i.strapNodeId % 32, bootSel := i.strapBootSel })) ∧
  (∀ (s : State) (us : Nat), 10 ≤ us → s.start.powered = true → s.power.supply ≠ .vault → s.power.supply ≠ .watch →
    s.ring.stale = false → Leads (.resetNAssert us) s (fun t => t.clk = { s.clk with running := false } ∧ t.straps = s.straps)) ∧
  (∀ (s : State) (us : Nat), 10 ≤ us → s.start.powered = true → s.power.supply = .vault ∨ s.power.supply = .watch →
    exec (.resetNAssert us) s = .next (s.resetLeft { s.toChip with
      start := { s.start with resetN := true }, power := { s.power with resetHeld := true } })) ∧
  (∀ (s : State) (i : StartInputs), s.start.resetN = true → s.power.resetHeld = false → s.start.powered = true → s.ring.stale = false →
    Leads (.resetNRelease i) s (fun t => t.clk = { Clock.reset with
      opNs := s.clk.opNs, cycles := s.clk.cycles, startNs := s.clk.opNs, missed := s.clk.missed } ∧
      t.straps = { s.straps with bootSel := i.strapBootSel })) ∧
  (∀ s : State, s.start.powered = true → s.start.phase = 0 → s.clk.running = false → s.start.resetN = false → s.power.vinReset = false →
    Leads .firmwareStart s (fun t => t.clk = { s.clk with
      running := true, ticks := 2048 * 2 ^ s.val 0x1200, stride := 0, opNs := max s.clk.opNs (s.clk.startNs + 150000000) })) ∧
  (∀ s : State, s.start.phase = 2 → s.membersOver = true → s.chooseSource = .retained → s.paired = false →
    exec .memberWaitEnd s = .next (s.left { s.toChip with start := { s.start with phase := 4 } })) ∧
  (∀ (s : State) (w : Writer), s.commandReason 0x5430 0 w (s.unitResetReason 0x52540001) = 0 → s.ring.stale = false →
    Leads (.unitReset 0x52540001 w) s (fun t => t.clk.running = false ∧ t.clk.cycles = s.clk.cycles)) ∧
  (∀ s : State, s.start.powered = true → s.ring.stale = false →
    Leads .railFault s (fun t => t.clk = { s.clk with running := false } ∧ t.straps = s.straps)) ∧
  (∀ (s : State) (b : Bytes) (w : Writer), s.commandReason 0x5420 0 w (chunkReason b) = 0 →
    Leads (.imageChunk b w) s (fun t => t.start = { s.start with written := s.start.written.put (leAt b 0 8) (b.drop 8) } ∧
      dataStands s t)) ∧
  (∀ (s : State) (found : FlashImage) (w : Writer), s.commandReason 0x5421 0 w (if s.imageOk found then 0 else 6) = 0 →
    Leads (.imageCommit found w) s (fun t => t.start = { s.start with
      images := s.start.images.put (1 - s.start.running) found, written := [] }))
end

