-- ==== Sys2Proof/Laws/State.lean ====
section
/-! SUPPORT. What each named update of the state leaves of every part: true by unfolding, so that no later proof unfolds a record
update. -/

namespace Sys2Proof.Machine

variable (c : Chip)

@[simp] theorem Chip.onClk_straps (f : Clock → Clock) : (c.onClk f).straps = c.straps := rfl
@[simp] theorem Chip.onClk_clk (f : Clock → Clock) : (c.onClk f).clk = f c.clk := rfl
@[simp] theorem Chip.onClk_sched (f : Clock → Clock) : (c.onClk f).sched = c.sched := rfl
@[simp] theorem Chip.onClk_members (f : Clock → Clock) : (c.onClk f).members = c.members := rfl
@[simp] theorem Chip.onClk_gathers (f : Clock → Clock) : (c.onClk f).gathers = c.gathers := rfl
@[simp] theorem Chip.onClk_pistes (f : Clock → Clock) : (c.onClk f).pistes = c.pistes := rfl
@[simp] theorem Chip.onClk_cache (f : Clock → Clock) : (c.onClk f).cache = c.cache := rfl
@[simp] theorem Chip.onClk_journal (f : Clock → Clock) : (c.onClk f).journal = c.journal := rfl
@[simp] theorem Chip.onClk_logs (f : Clock → Clock) : (c.onClk f).logs = c.logs := rfl
@[simp] theorem Chip.onClk_cqi (f : Clock → Clock) : (c.onClk f).cqi = c.cqi := rfl
@[simp] theorem Chip.onClk_host (f : Clock → Clock) : (c.onClk f).host = c.host := rfl
@[simp] theorem Chip.onClk_dict (f : Clock → Clock) : (c.onClk f).dict = c.dict := rfl
@[simp] theorem Chip.onClk_pair (f : Clock → Clock) : (c.onClk f).pair = c.pair := rfl
@[simp] theorem Chip.onClk_ring (f : Clock → Clock) : (c.onClk f).ring = c.ring := rfl
@[simp] theorem Chip.onClk_adp (f : Clock → Clock) : (c.onClk f).adp = c.adp := rfl
@[simp] theorem Chip.onClk_power (f : Clock → Clock) : (c.onClk f).power = c.power := rfl
@[simp] theorem Chip.onClk_mem (f : Clock → Clock) : (c.onClk f).mem = c.mem := rfl
@[simp] theorem Chip.onClk_faults (f : Clock → Clock) : (c.onClk f).faults = c.faults := rfl
@[simp] theorem Chip.onClk_recorder (f : Clock → Clock) : (c.onClk f).recorder = c.recorder := rfl
@[simp] theorem Chip.onClk_start (f : Clock → Clock) : (c.onClk f).start = c.start := rfl
@[simp] theorem Chip.onClk_dir (f : Clock → Clock) : (c.onClk f).dir = c.dir := rfl
@[simp] theorem Chip.onClk_out (f : Clock → Clock) : (c.onClk f).out = c.out := rfl
@[simp] theorem Chip.onClk_draws (f : Clock → Clock) : (c.onClk f).draws = c.draws := rfl
@[simp] theorem Chip.onCqi_straps (f : Cqi → Cqi) : (c.onCqi f).straps = c.straps := rfl
@[simp] theorem Chip.onCqi_clk (f : Cqi → Cqi) : (c.onCqi f).clk = c.clk := rfl
@[simp] theorem Chip.onCqi_sched (f : Cqi → Cqi) : (c.onCqi f).sched = c.sched := rfl
@[simp] theorem Chip.onCqi_members (f : Cqi → Cqi) : (c.onCqi f).members = c.members := rfl
@[simp] theorem Chip.onCqi_gathers (f : Cqi → Cqi) : (c.onCqi f).gathers = c.gathers := rfl
@[simp] theorem Chip.onCqi_pistes (f : Cqi → Cqi) : (c.onCqi f).pistes = c.pistes := rfl
@[simp] theorem Chip.onCqi_cache (f : Cqi → Cqi) : (c.onCqi f).cache = c.cache := rfl
@[simp] theorem Chip.onCqi_journal (f : Cqi → Cqi) : (c.onCqi f).journal = c.journal := rfl
@[simp] theorem Chip.onCqi_logs (f : Cqi → Cqi) : (c.onCqi f).logs = c.logs := rfl
@[simp] theorem Chip.onCqi_cqi (f : Cqi → Cqi) : (c.onCqi f).cqi = f c.cqi := rfl
@[simp] theorem Chip.onCqi_host (f : Cqi → Cqi) : (c.onCqi f).host = c.host := rfl
@[simp] theorem Chip.onCqi_dict (f : Cqi → Cqi) : (c.onCqi f).dict = c.dict := rfl
@[simp] theorem Chip.onCqi_pair (f : Cqi → Cqi) : (c.onCqi f).pair = c.pair := rfl
@[simp] theorem Chip.onCqi_ring (f : Cqi → Cqi) : (c.onCqi f).ring = c.ring := rfl
@[simp] theorem Chip.onCqi_adp (f : Cqi → Cqi) : (c.onCqi f).adp = c.adp := rfl
@[simp] theorem Chip.onCqi_power (f : Cqi → Cqi) : (c.onCqi f).power = c.power := rfl
@[simp] theorem Chip.onCqi_mem (f : Cqi → Cqi) : (c.onCqi f).mem = c.mem := rfl
@[simp] theorem Chip.onCqi_faults (f : Cqi → Cqi) : (c.onCqi f).faults = c.faults := rfl
@[simp] theorem Chip.onCqi_recorder (f : Cqi → Cqi) : (c.onCqi f).recorder = c.recorder := rfl
@[simp] theorem Chip.onCqi_start (f : Cqi → Cqi) : (c.onCqi f).start = c.start := rfl
@[simp] theorem Chip.onCqi_dir (f : Cqi → Cqi) : (c.onCqi f).dir = c.dir := rfl
@[simp] theorem Chip.onCqi_out (f : Cqi → Cqi) : (c.onCqi f).out = c.out := rfl
@[simp] theorem Chip.onCqi_draws (f : Cqi → Cqi) : (c.onCqi f).draws = c.draws := rfl
@[simp] theorem Chip.onHost_straps (f : HostPort → HostPort) : (c.onHost f).straps = c.straps := rfl
@[simp] theorem Chip.onHost_clk (f : HostPort → HostPort) : (c.onHost f).clk = c.clk := rfl
@[simp] theorem Chip.onHost_sched (f : HostPort → HostPort) : (c.onHost f).sched = c.sched := rfl
@[simp] theorem Chip.onHost_members (f : HostPort → HostPort) : (c.onHost f).members = c.members := rfl
@[simp] theorem Chip.onHost_gathers (f : HostPort → HostPort) : (c.onHost f).gathers = c.gathers := rfl
@[simp] theorem Chip.onHost_pistes (f : HostPort → HostPort) : (c.onHost f).pistes = c.pistes := rfl
@[simp] theorem Chip.onHost_cache (f : HostPort → HostPort) : (c.onHost f).cache = c.cache := rfl
@[simp] theorem Chip.onHost_journal (f : HostPort → HostPort) : (c.onHost f).journal = c.journal := rfl
@[simp] theorem Chip.onHost_logs (f : HostPort → HostPort) : (c.onHost f).logs = c.logs := rfl
@[simp] theorem Chip.onHost_cqi (f : HostPort → HostPort) : (c.onHost f).cqi = c.cqi := rfl
@[simp] theorem Chip.onHost_host (f : HostPort → HostPort) : (c.onHost f).host = f c.host := rfl
@[simp] theorem Chip.onHost_dict (f : HostPort → HostPort) : (c.onHost f).dict = c.dict := rfl
@[simp] theorem Chip.onHost_pair (f : HostPort → HostPort) : (c.onHost f).pair = c.pair := rfl
@[simp] theorem Chip.onHost_ring (f : HostPort → HostPort) : (c.onHost f).ring = c.ring := rfl
@[simp] theorem Chip.onHost_adp (f : HostPort → HostPort) : (c.onHost f).adp = c.adp := rfl
@[simp] theorem Chip.onHost_power (f : HostPort → HostPort) : (c.onHost f).power = c.power := rfl
@[simp] theorem Chip.onHost_mem (f : HostPort → HostPort) : (c.onHost f).mem = c.mem := rfl
@[simp] theorem Chip.onHost_faults (f : HostPort → HostPort) : (c.onHost f).faults = c.faults := rfl
@[simp] theorem Chip.onHost_recorder (f : HostPort → HostPort) : (c.onHost f).recorder = c.recorder := rfl
@[simp] theorem Chip.onHost_start (f : HostPort → HostPort) : (c.onHost f).start = c.start := rfl
@[simp] theorem Chip.onHost_dir (f : HostPort → HostPort) : (c.onHost f).dir = c.dir := rfl
@[simp] theorem Chip.onHost_out (f : HostPort → HostPort) : (c.onHost f).out = c.out := rfl
@[simp] theorem Chip.onHost_draws (f : HostPort → HostPort) : (c.onHost f).draws = c.draws := rfl
@[simp] theorem Chip.onPair_straps (f : Pair → Pair) : (c.onPair f).straps = c.straps := rfl
@[simp] theorem Chip.onPair_clk (f : Pair → Pair) : (c.onPair f).clk = c.clk := rfl
@[simp] theorem Chip.onPair_sched (f : Pair → Pair) : (c.onPair f).sched = c.sched := rfl
@[simp] theorem Chip.onPair_members (f : Pair → Pair) : (c.onPair f).members = c.members := rfl
@[simp] theorem Chip.onPair_gathers (f : Pair → Pair) : (c.onPair f).gathers = c.gathers := rfl
@[simp] theorem Chip.onPair_pistes (f : Pair → Pair) : (c.onPair f).pistes = c.pistes := rfl
@[simp] theorem Chip.onPair_cache (f : Pair → Pair) : (c.onPair f).cache = c.cache := rfl
@[simp] theorem Chip.onPair_journal (f : Pair → Pair) : (c.onPair f).journal = c.journal := rfl
@[simp] theorem Chip.onPair_logs (f : Pair → Pair) : (c.onPair f).logs = c.logs := rfl
@[simp] theorem Chip.onPair_cqi (f : Pair → Pair) : (c.onPair f).cqi = c.cqi := rfl
@[simp] theorem Chip.onPair_host (f : Pair → Pair) : (c.onPair f).host = c.host := rfl
@[simp] theorem Chip.onPair_dict (f : Pair → Pair) : (c.onPair f).dict = c.dict := rfl
@[simp] theorem Chip.onPair_pair (f : Pair → Pair) : (c.onPair f).pair = f c.pair := rfl
@[simp] theorem Chip.onPair_ring (f : Pair → Pair) : (c.onPair f).ring = c.ring := rfl
@[simp] theorem Chip.onPair_adp (f : Pair → Pair) : (c.onPair f).adp = c.adp := rfl
@[simp] theorem Chip.onPair_power (f : Pair → Pair) : (c.onPair f).power = c.power := rfl
@[simp] theorem Chip.onPair_mem (f : Pair → Pair) : (c.onPair f).mem = c.mem := rfl
@[simp] theorem Chip.onPair_faults (f : Pair → Pair) : (c.onPair f).faults = c.faults := rfl
@[simp] theorem Chip.onPair_recorder (f : Pair → Pair) : (c.onPair f).recorder = c.recorder := rfl
@[simp] theorem Chip.onPair_start (f : Pair → Pair) : (c.onPair f).start = c.start := rfl
@[simp] theorem Chip.onPair_dir (f : Pair → Pair) : (c.onPair f).dir = c.dir := rfl
@[simp] theorem Chip.onPair_out (f : Pair → Pair) : (c.onPair f).out = c.out := rfl
@[simp] theorem Chip.onPair_draws (f : Pair → Pair) : (c.onPair f).draws = c.draws := rfl
@[simp] theorem Chip.onPower_straps (f : Power → Power) : (c.onPower f).straps = c.straps := rfl
@[simp] theorem Chip.onPower_clk (f : Power → Power) : (c.onPower f).clk = c.clk := rfl
@[simp] theorem Chip.onPower_sched (f : Power → Power) : (c.onPower f).sched = c.sched := rfl
@[simp] theorem Chip.onPower_members (f : Power → Power) : (c.onPower f).members = c.members := rfl
@[simp] theorem Chip.onPower_gathers (f : Power → Power) : (c.onPower f).gathers = c.gathers := rfl
@[simp] theorem Chip.onPower_pistes (f : Power → Power) : (c.onPower f).pistes = c.pistes := rfl
@[simp] theorem Chip.onPower_cache (f : Power → Power) : (c.onPower f).cache = c.cache := rfl
@[simp] theorem Chip.onPower_journal (f : Power → Power) : (c.onPower f).journal = c.journal := rfl
@[simp] theorem Chip.onPower_logs (f : Power → Power) : (c.onPower f).logs = c.logs := rfl
@[simp] theorem Chip.onPower_cqi (f : Power → Power) : (c.onPower f).cqi = c.cqi := rfl
@[simp] theorem Chip.onPower_host (f : Power → Power) : (c.onPower f).host = c.host := rfl
@[simp] theorem Chip.onPower_dict (f : Power → Power) : (c.onPower f).dict = c.dict := rfl
@[simp] theorem Chip.onPower_pair (f : Power → Power) : (c.onPower f).pair = c.pair := rfl
@[simp] theorem Chip.onPower_ring (f : Power → Power) : (c.onPower f).ring = c.ring := rfl
@[simp] theorem Chip.onPower_adp (f : Power → Power) : (c.onPower f).adp = c.adp := rfl
@[simp] theorem Chip.onPower_power (f : Power → Power) : (c.onPower f).power = f c.power := rfl
@[simp] theorem Chip.onPower_mem (f : Power → Power) : (c.onPower f).mem = c.mem := rfl
@[simp] theorem Chip.onPower_faults (f : Power → Power) : (c.onPower f).faults = c.faults := rfl
@[simp] theorem Chip.onPower_recorder (f : Power → Power) : (c.onPower f).recorder = c.recorder := rfl
@[simp] theorem Chip.onPower_start (f : Power → Power) : (c.onPower f).start = c.start := rfl
@[simp] theorem Chip.onPower_dir (f : Power → Power) : (c.onPower f).dir = c.dir := rfl
@[simp] theorem Chip.onPower_out (f : Power → Power) : (c.onPower f).out = c.out := rfl
@[simp] theorem Chip.onPower_draws (f : Power → Power) : (c.onPower f).draws = c.draws := rfl
@[simp] theorem Chip.onRing_straps (f : Ring → Ring) : (c.onRing f).straps = c.straps := rfl
@[simp] theorem Chip.onRing_clk (f : Ring → Ring) : (c.onRing f).clk = c.clk := rfl
@[simp] theorem Chip.onRing_sched (f : Ring → Ring) : (c.onRing f).sched = c.sched := rfl
@[simp] theorem Chip.onRing_members (f : Ring → Ring) : (c.onRing f).members = c.members := rfl
@[simp] theorem Chip.onRing_gathers (f : Ring → Ring) : (c.onRing f).gathers = c.gathers := rfl
@[simp] theorem Chip.onRing_pistes (f : Ring → Ring) : (c.onRing f).pistes = c.pistes := rfl
@[simp] theorem Chip.onRing_cache (f : Ring → Ring) : (c.onRing f).cache = c.cache := rfl
@[simp] theorem Chip.onRing_journal (f : Ring → Ring) : (c.onRing f).journal = c.journal := rfl
@[simp] theorem Chip.onRing_logs (f : Ring → Ring) : (c.onRing f).logs = c.logs := rfl
@[simp] theorem Chip.onRing_cqi (f : Ring → Ring) : (c.onRing f).cqi = c.cqi := rfl
@[simp] theorem Chip.onRing_host (f : Ring → Ring) : (c.onRing f).host = c.host := rfl
@[simp] theorem Chip.onRing_dict (f : Ring → Ring) : (c.onRing f).dict = c.dict := rfl
@[simp] theorem Chip.onRing_pair (f : Ring → Ring) : (c.onRing f).pair = c.pair := rfl
@[simp] theorem Chip.onRing_ring (f : Ring → Ring) : (c.onRing f).ring = f c.ring := rfl
@[simp] theorem Chip.onRing_adp (f : Ring → Ring) : (c.onRing f).adp = c.adp := rfl
@[simp] theorem Chip.onRing_power (f : Ring → Ring) : (c.onRing f).power = c.power := rfl
@[simp] theorem Chip.onRing_mem (f : Ring → Ring) : (c.onRing f).mem = c.mem := rfl
@[simp] theorem Chip.onRing_faults (f : Ring → Ring) : (c.onRing f).faults = c.faults := rfl
@[simp] theorem Chip.onRing_recorder (f : Ring → Ring) : (c.onRing f).recorder = c.recorder := rfl
@[simp] theorem Chip.onRing_start (f : Ring → Ring) : (c.onRing f).start = c.start := rfl
@[simp] theorem Chip.onRing_dir (f : Ring → Ring) : (c.onRing f).dir = c.dir := rfl
@[simp] theorem Chip.onRing_out (f : Ring → Ring) : (c.onRing f).out = c.out := rfl
@[simp] theorem Chip.onRing_draws (f : Ring → Ring) : (c.onRing f).draws = c.draws := rfl
@[simp] theorem Chip.onCache_straps (f : Cache → Cache) : (c.onCache f).straps = c.straps := rfl
@[simp] theorem Chip.onCache_clk (f : Cache → Cache) : (c.onCache f).clk = c.clk := rfl
@[simp] theorem Chip.onCache_sched (f : Cache → Cache) : (c.onCache f).sched = c.sched := rfl
@[simp] theorem Chip.onCache_members (f : Cache → Cache) : (c.onCache f).members = c.members := rfl
@[simp] theorem Chip.onCache_gathers (f : Cache → Cache) : (c.onCache f).gathers = c.gathers := rfl
@[simp] theorem Chip.onCache_pistes (f : Cache → Cache) : (c.onCache f).pistes = c.pistes := rfl
@[simp] theorem Chip.onCache_cache (f : Cache → Cache) : (c.onCache f).cache = f c.cache := rfl
@[simp] theorem Chip.onCache_journal (f : Cache → Cache) : (c.onCache f).journal = c.journal := rfl
@[simp] theorem Chip.onCache_logs (f : Cache → Cache) : (c.onCache f).logs = c.logs := rfl
@[simp] theorem Chip.onCache_cqi (f : Cache → Cache) : (c.onCache f).cqi = c.cqi := rfl
@[simp] theorem Chip.onCache_host (f : Cache → Cache) : (c.onCache f).host = c.host := rfl
@[simp] theorem Chip.onCache_dict (f : Cache → Cache) : (c.onCache f).dict = c.dict := rfl
@[simp] theorem Chip.onCache_pair (f : Cache → Cache) : (c.onCache f).pair = c.pair := rfl
@[simp] theorem Chip.onCache_ring (f : Cache → Cache) : (c.onCache f).ring = c.ring := rfl
@[simp] theorem Chip.onCache_adp (f : Cache → Cache) : (c.onCache f).adp = c.adp := rfl
@[simp] theorem Chip.onCache_power (f : Cache → Cache) : (c.onCache f).power = c.power := rfl
@[simp] theorem Chip.onCache_mem (f : Cache → Cache) : (c.onCache f).mem = c.mem := rfl
@[simp] theorem Chip.onCache_faults (f : Cache → Cache) : (c.onCache f).faults = c.faults := rfl
@[simp] theorem Chip.onCache_recorder (f : Cache → Cache) : (c.onCache f).recorder = c.recorder := rfl
@[simp] theorem Chip.onCache_start (f : Cache → Cache) : (c.onCache f).start = c.start := rfl
@[simp] theorem Chip.onCache_dir (f : Cache → Cache) : (c.onCache f).dir = c.dir := rfl
@[simp] theorem Chip.onCache_out (f : Cache → Cache) : (c.onCache f).out = c.out := rfl
@[simp] theorem Chip.onCache_draws (f : Cache → Cache) : (c.onCache f).draws = c.draws := rfl
@[simp] theorem Chip.onJournal_straps (f : Journal → Journal) : (c.onJournal f).straps = c.straps := rfl
@[simp] theorem Chip.onJournal_clk (f : Journal → Journal) : (c.onJournal f).clk = c.clk := rfl
@[simp] theorem Chip.onJournal_sched (f : Journal → Journal) : (c.onJournal f).sched = c.sched := rfl
@[simp] theorem Chip.onJournal_members (f : Journal → Journal) : (c.onJournal f).members = c.members := rfl
@[simp] theorem Chip.onJournal_gathers (f : Journal → Journal) : (c.onJournal f).gathers = c.gathers := rfl
@[simp] theorem Chip.onJournal_pistes (f : Journal → Journal) : (c.onJournal f).pistes = c.pistes := rfl
@[simp] theorem Chip.onJournal_cache (f : Journal → Journal) : (c.onJournal f).cache = c.cache := rfl
@[simp] theorem Chip.onJournal_journal (f : Journal → Journal) : (c.onJournal f).journal = f c.journal := rfl
@[simp] theorem Chip.onJournal_logs (f : Journal → Journal) : (c.onJournal f).logs = c.logs := rfl
@[simp] theorem Chip.onJournal_cqi (f : Journal → Journal) : (c.onJournal f).cqi = c.cqi := rfl
@[simp] theorem Chip.onJournal_host (f : Journal → Journal) : (c.onJournal f).host = c.host := rfl
@[simp] theorem Chip.onJournal_dict (f : Journal → Journal) : (c.onJournal f).dict = c.dict := rfl
@[simp] theorem Chip.onJournal_pair (f : Journal → Journal) : (c.onJournal f).pair = c.pair := rfl
@[simp] theorem Chip.onJournal_ring (f : Journal → Journal) : (c.onJournal f).ring = c.ring := rfl
@[simp] theorem Chip.onJournal_adp (f : Journal → Journal) : (c.onJournal f).adp = c.adp := rfl
@[simp] theorem Chip.onJournal_power (f : Journal → Journal) : (c.onJournal f).power = c.power := rfl
@[simp] theorem Chip.onJournal_mem (f : Journal → Journal) : (c.onJournal f).mem = c.mem := rfl
@[simp] theorem Chip.onJournal_faults (f : Journal → Journal) : (c.onJournal f).faults = c.faults := rfl
@[simp] theorem Chip.onJournal_recorder (f : Journal → Journal) : (c.onJournal f).recorder = c.recorder := rfl
@[simp] theorem Chip.onJournal_start (f : Journal → Journal) : (c.onJournal f).start = c.start := rfl
@[simp] theorem Chip.onJournal_dir (f : Journal → Journal) : (c.onJournal f).dir = c.dir := rfl
@[simp] theorem Chip.onJournal_out (f : Journal → Journal) : (c.onJournal f).out = c.out := rfl
@[simp] theorem Chip.onJournal_draws (f : Journal → Journal) : (c.onJournal f).draws = c.draws := rfl
@[simp] theorem Chip.onSched_straps (f : Scheduler → Scheduler) : (c.onSched f).straps = c.straps := rfl
@[simp] theorem Chip.onSched_clk (f : Scheduler → Scheduler) : (c.onSched f).clk = c.clk := rfl
@[simp] theorem Chip.onSched_sched (f : Scheduler → Scheduler) : (c.onSched f).sched = f c.sched := rfl
@[simp] theorem Chip.onSched_members (f : Scheduler → Scheduler) : (c.onSched f).members = c.members := rfl
@[simp] theorem Chip.onSched_gathers (f : Scheduler → Scheduler) : (c.onSched f).gathers = c.gathers := rfl
@[simp] theorem Chip.onSched_pistes (f : Scheduler → Scheduler) : (c.onSched f).pistes = c.pistes := rfl
@[simp] theorem Chip.onSched_cache (f : Scheduler → Scheduler) : (c.onSched f).cache = c.cache := rfl
@[simp] theorem Chip.onSched_journal (f : Scheduler → Scheduler) : (c.onSched f).journal = c.journal := rfl
@[simp] theorem Chip.onSched_logs (f : Scheduler → Scheduler) : (c.onSched f).logs = c.logs := rfl
@[simp] theorem Chip.onSched_cqi (f : Scheduler → Scheduler) : (c.onSched f).cqi = c.cqi := rfl
@[simp] theorem Chip.onSched_host (f : Scheduler → Scheduler) : (c.onSched f).host = c.host := rfl
@[simp] theorem Chip.onSched_dict (f : Scheduler → Scheduler) : (c.onSched f).dict = c.dict := rfl
@[simp] theorem Chip.onSched_pair (f : Scheduler → Scheduler) : (c.onSched f).pair = c.pair := rfl
@[simp] theorem Chip.onSched_ring (f : Scheduler → Scheduler) : (c.onSched f).ring = c.ring := rfl
@[simp] theorem Chip.onSched_adp (f : Scheduler → Scheduler) : (c.onSched f).adp = c.adp := rfl
@[simp] theorem Chip.onSched_power (f : Scheduler → Scheduler) : (c.onSched f).power = c.power := rfl
@[simp] theorem Chip.onSched_mem (f : Scheduler → Scheduler) : (c.onSched f).mem = c.mem := rfl
@[simp] theorem Chip.onSched_faults (f : Scheduler → Scheduler) : (c.onSched f).faults = c.faults := rfl
@[simp] theorem Chip.onSched_recorder (f : Scheduler → Scheduler) : (c.onSched f).recorder = c.recorder := rfl
@[simp] theorem Chip.onSched_start (f : Scheduler → Scheduler) : (c.onSched f).start = c.start := rfl
@[simp] theorem Chip.onSched_dir (f : Scheduler → Scheduler) : (c.onSched f).dir = c.dir := rfl
@[simp] theorem Chip.onSched_out (f : Scheduler → Scheduler) : (c.onSched f).out = c.out := rfl
@[simp] theorem Chip.onSched_draws (f : Scheduler → Scheduler) : (c.onSched f).draws = c.draws := rfl
@[simp] theorem Chip.onStart_straps (f : Start → Start) : (c.onStart f).straps = c.straps := rfl
@[simp] theorem Chip.onStart_clk (f : Start → Start) : (c.onStart f).clk = c.clk := rfl
@[simp] theorem Chip.onStart_sched (f : Start → Start) : (c.onStart f).sched = c.sched := rfl
@[simp] theorem Chip.onStart_members (f : Start → Start) : (c.onStart f).members = c.members := rfl
@[simp] theorem Chip.onStart_gathers (f : Start → Start) : (c.onStart f).gathers = c.gathers := rfl
@[simp] theorem Chip.onStart_pistes (f : Start → Start) : (c.onStart f).pistes = c.pistes := rfl
@[simp] theorem Chip.onStart_cache (f : Start → Start) : (c.onStart f).cache = c.cache := rfl
@[simp] theorem Chip.onStart_journal (f : Start → Start) : (c.onStart f).journal = c.journal := rfl
@[simp] theorem Chip.onStart_logs (f : Start → Start) : (c.onStart f).logs = c.logs := rfl
@[simp] theorem Chip.onStart_cqi (f : Start → Start) : (c.onStart f).cqi = c.cqi := rfl
@[simp] theorem Chip.onStart_host (f : Start → Start) : (c.onStart f).host = c.host := rfl
@[simp] theorem Chip.onStart_dict (f : Start → Start) : (c.onStart f).dict = c.dict := rfl
@[simp] theorem Chip.onStart_pair (f : Start → Start) : (c.onStart f).pair = c.pair := rfl
@[simp] theorem Chip.onStart_ring (f : Start → Start) : (c.onStart f).ring = c.ring := rfl
@[simp] theorem Chip.onStart_adp (f : Start → Start) : (c.onStart f).adp = c.adp := rfl
@[simp] theorem Chip.onStart_power (f : Start → Start) : (c.onStart f).power = c.power := rfl
@[simp] theorem Chip.onStart_mem (f : Start → Start) : (c.onStart f).mem = c.mem := rfl
@[simp] theorem Chip.onStart_faults (f : Start → Start) : (c.onStart f).faults = c.faults := rfl
@[simp] theorem Chip.onStart_recorder (f : Start → Start) : (c.onStart f).recorder = c.recorder := rfl
@[simp] theorem Chip.onStart_start (f : Start → Start) : (c.onStart f).start = f c.start := rfl
@[simp] theorem Chip.onStart_dir (f : Start → Start) : (c.onStart f).dir = c.dir := rfl
@[simp] theorem Chip.onStart_out (f : Start → Start) : (c.onStart f).out = c.out := rfl
@[simp] theorem Chip.onStart_draws (f : Start → Start) : (c.onStart f).draws = c.draws := rfl
@[simp] theorem Chip.onMem_straps (f : Mem → Mem) : (c.onMem f).straps = c.straps := rfl
@[simp] theorem Chip.onMem_clk (f : Mem → Mem) : (c.onMem f).clk = c.clk := rfl
@[simp] theorem Chip.onMem_sched (f : Mem → Mem) : (c.onMem f).sched = c.sched := rfl
@[simp] theorem Chip.onMem_members (f : Mem → Mem) : (c.onMem f).members = c.members := rfl
@[simp] theorem Chip.onMem_gathers (f : Mem → Mem) : (c.onMem f).gathers = c.gathers := rfl
@[simp] theorem Chip.onMem_pistes (f : Mem → Mem) : (c.onMem f).pistes = c.pistes := rfl
@[simp] theorem Chip.onMem_cache (f : Mem → Mem) : (c.onMem f).cache = c.cache := rfl
@[simp] theorem Chip.onMem_journal (f : Mem → Mem) : (c.onMem f).journal = c.journal := rfl
@[simp] theorem Chip.onMem_logs (f : Mem → Mem) : (c.onMem f).logs = c.logs := rfl
@[simp] theorem Chip.onMem_cqi (f : Mem → Mem) : (c.onMem f).cqi = c.cqi := rfl
@[simp] theorem Chip.onMem_host (f : Mem → Mem) : (c.onMem f).host = c.host := rfl
@[simp] theorem Chip.onMem_dict (f : Mem → Mem) : (c.onMem f).dict = c.dict := rfl
@[simp] theorem Chip.onMem_pair (f : Mem → Mem) : (c.onMem f).pair = c.pair := rfl
@[simp] theorem Chip.onMem_ring (f : Mem → Mem) : (c.onMem f).ring = c.ring := rfl
@[simp] theorem Chip.onMem_adp (f : Mem → Mem) : (c.onMem f).adp = c.adp := rfl
@[simp] theorem Chip.onMem_power (f : Mem → Mem) : (c.onMem f).power = c.power := rfl
@[simp] theorem Chip.onMem_mem (f : Mem → Mem) : (c.onMem f).mem = f c.mem := rfl
@[simp] theorem Chip.onMem_faults (f : Mem → Mem) : (c.onMem f).faults = c.faults := rfl
@[simp] theorem Chip.onMem_recorder (f : Mem → Mem) : (c.onMem f).recorder = c.recorder := rfl
@[simp] theorem Chip.onMem_start (f : Mem → Mem) : (c.onMem f).start = c.start := rfl
@[simp] theorem Chip.onMem_dir (f : Mem → Mem) : (c.onMem f).dir = c.dir := rfl
@[simp] theorem Chip.onMem_out (f : Mem → Mem) : (c.onMem f).out = c.out := rfl
@[simp] theorem Chip.onMem_draws (f : Mem → Mem) : (c.onMem f).draws = c.draws := rfl
@[simp] theorem Chip.onFaults_straps (f : Faults → Faults) : (c.onFaults f).straps = c.straps := rfl
@[simp] theorem Chip.onFaults_clk (f : Faults → Faults) : (c.onFaults f).clk = c.clk := rfl
@[simp] theorem Chip.onFaults_sched (f : Faults → Faults) : (c.onFaults f).sched = c.sched := rfl
@[simp] theorem Chip.onFaults_members (f : Faults → Faults) : (c.onFaults f).members = c.members := rfl
@[simp] theorem Chip.onFaults_gathers (f : Faults → Faults) : (c.onFaults f).gathers = c.gathers := rfl
@[simp] theorem Chip.onFaults_pistes (f : Faults → Faults) : (c.onFaults f).pistes = c.pistes := rfl
@[simp] theorem Chip.onFaults_cache (f : Faults → Faults) : (c.onFaults f).cache = c.cache := rfl
@[simp] theorem Chip.onFaults_journal (f : Faults → Faults) : (c.onFaults f).journal = c.journal := rfl
@[simp] theorem Chip.onFaults_logs (f : Faults → Faults) : (c.onFaults f).logs = c.logs := rfl
@[simp] theorem Chip.onFaults_cqi (f : Faults → Faults) : (c.onFaults f).cqi = c.cqi := rfl
@[simp] theorem Chip.onFaults_host (f : Faults → Faults) : (c.onFaults f).host = c.host := rfl
@[simp] theorem Chip.onFaults_dict (f : Faults → Faults) : (c.onFaults f).dict = c.dict := rfl
@[simp] theorem Chip.onFaults_pair (f : Faults → Faults) : (c.onFaults f).pair = c.pair := rfl
@[simp] theorem Chip.onFaults_ring (f : Faults → Faults) : (c.onFaults f).ring = c.ring := rfl
@[simp] theorem Chip.onFaults_adp (f : Faults → Faults) : (c.onFaults f).adp = c.adp := rfl
@[simp] theorem Chip.onFaults_power (f : Faults → Faults) : (c.onFaults f).power = c.power := rfl
@[simp] theorem Chip.onFaults_mem (f : Faults → Faults) : (c.onFaults f).mem = c.mem := rfl
@[simp] theorem Chip.onFaults_faults (f : Faults → Faults) : (c.onFaults f).faults = f c.faults := rfl
@[simp] theorem Chip.onFaults_recorder (f : Faults → Faults) : (c.onFaults f).recorder = c.recorder := rfl
@[simp] theorem Chip.onFaults_start (f : Faults → Faults) : (c.onFaults f).start = c.start := rfl
@[simp] theorem Chip.onFaults_dir (f : Faults → Faults) : (c.onFaults f).dir = c.dir := rfl
@[simp] theorem Chip.onFaults_out (f : Faults → Faults) : (c.onFaults f).out = c.out := rfl
@[simp] theorem Chip.onFaults_draws (f : Faults → Faults) : (c.onFaults f).draws = c.draws := rfl
@[simp] theorem Chip.onRec_straps (f : Recorder → Recorder) : (c.onRec f).straps = c.straps := rfl
@[simp] theorem Chip.onRec_clk (f : Recorder → Recorder) : (c.onRec f).clk = c.clk := rfl
@[simp] theorem Chip.onRec_sched (f : Recorder → Recorder) : (c.onRec f).sched = c.sched := rfl
@[simp] theorem Chip.onRec_members (f : Recorder → Recorder) : (c.onRec f).members = c.members := rfl
@[simp] theorem Chip.onRec_gathers (f : Recorder → Recorder) : (c.onRec f).gathers = c.gathers := rfl
@[simp] theorem Chip.onRec_pistes (f : Recorder → Recorder) : (c.onRec f).pistes = c.pistes := rfl
@[simp] theorem Chip.onRec_cache (f : Recorder → Recorder) : (c.onRec f).cache = c.cache := rfl
@[simp] theorem Chip.onRec_journal (f : Recorder → Recorder) : (c.onRec f).journal = c.journal := rfl
@[simp] theorem Chip.onRec_logs (f : Recorder → Recorder) : (c.onRec f).logs = c.logs := rfl
@[simp] theorem Chip.onRec_cqi (f : Recorder → Recorder) : (c.onRec f).cqi = c.cqi := rfl
@[simp] theorem Chip.onRec_host (f : Recorder → Recorder) : (c.onRec f).host = c.host := rfl
@[simp] theorem Chip.onRec_dict (f : Recorder → Recorder) : (c.onRec f).dict = c.dict := rfl
@[simp] theorem Chip.onRec_pair (f : Recorder → Recorder) : (c.onRec f).pair = c.pair := rfl
@[simp] theorem Chip.onRec_ring (f : Recorder → Recorder) : (c.onRec f).ring = c.ring := rfl
@[simp] theorem Chip.onRec_adp (f : Recorder → Recorder) : (c.onRec f).adp = c.adp := rfl
@[simp] theorem Chip.onRec_power (f : Recorder → Recorder) : (c.onRec f).power = c.power := rfl
@[simp] theorem Chip.onRec_mem (f : Recorder → Recorder) : (c.onRec f).mem = c.mem := rfl
@[simp] theorem Chip.onRec_faults (f : Recorder → Recorder) : (c.onRec f).faults = c.faults := rfl
@[simp] theorem Chip.onRec_recorder (f : Recorder → Recorder) : (c.onRec f).recorder = f c.recorder := rfl
@[simp] theorem Chip.onRec_start (f : Recorder → Recorder) : (c.onRec f).start = c.start := rfl
@[simp] theorem Chip.onRec_dir (f : Recorder → Recorder) : (c.onRec f).dir = c.dir := rfl
@[simp] theorem Chip.onRec_out (f : Recorder → Recorder) : (c.onRec f).out = c.out := rfl
@[simp] theorem Chip.onRec_draws (f : Recorder → Recorder) : (c.onRec f).draws = c.draws := rfl
@[simp] theorem Chip.onAdp_straps (f : Adp → Adp) : (c.onAdp f).straps = c.straps := rfl
@[simp] theorem Chip.onAdp_clk (f : Adp → Adp) : (c.onAdp f).clk = c.clk := rfl
@[simp] theorem Chip.onAdp_sched (f : Adp → Adp) : (c.onAdp f).sched = c.sched := rfl
@[simp] theorem Chip.onAdp_members (f : Adp → Adp) : (c.onAdp f).members = c.members := rfl
@[simp] theorem Chip.onAdp_gathers (f : Adp → Adp) : (c.onAdp f).gathers = c.gathers := rfl
@[simp] theorem Chip.onAdp_pistes (f : Adp → Adp) : (c.onAdp f).pistes = c.pistes := rfl
@[simp] theorem Chip.onAdp_cache (f : Adp → Adp) : (c.onAdp f).cache = c.cache := rfl
@[simp] theorem Chip.onAdp_journal (f : Adp → Adp) : (c.onAdp f).journal = c.journal := rfl
@[simp] theorem Chip.onAdp_logs (f : Adp → Adp) : (c.onAdp f).logs = c.logs := rfl
@[simp] theorem Chip.onAdp_cqi (f : Adp → Adp) : (c.onAdp f).cqi = c.cqi := rfl
@[simp] theorem Chip.onAdp_host (f : Adp → Adp) : (c.onAdp f).host = c.host := rfl
@[simp] theorem Chip.onAdp_dict (f : Adp → Adp) : (c.onAdp f).dict = c.dict := rfl
@[simp] theorem Chip.onAdp_pair (f : Adp → Adp) : (c.onAdp f).pair = c.pair := rfl
@[simp] theorem Chip.onAdp_ring (f : Adp → Adp) : (c.onAdp f).ring = c.ring := rfl
@[simp] theorem Chip.onAdp_adp (f : Adp → Adp) : (c.onAdp f).adp = f c.adp := rfl
@[simp] theorem Chip.onAdp_power (f : Adp → Adp) : (c.onAdp f).power = c.power := rfl
@[simp] theorem Chip.onAdp_mem (f : Adp → Adp) : (c.onAdp f).mem = c.mem := rfl
@[simp] theorem Chip.onAdp_faults (f : Adp → Adp) : (c.onAdp f).faults = c.faults := rfl
@[simp] theorem Chip.onAdp_recorder (f : Adp → Adp) : (c.onAdp f).recorder = c.recorder := rfl
@[simp] theorem Chip.onAdp_start (f : Adp → Adp) : (c.onAdp f).start = c.start := rfl
@[simp] theorem Chip.onAdp_dir (f : Adp → Adp) : (c.onAdp f).dir = c.dir := rfl
@[simp] theorem Chip.onAdp_out (f : Adp → Adp) : (c.onAdp f).out = c.out := rfl
@[simp] theorem Chip.onAdp_draws (f : Adp → Adp) : (c.onAdp f).draws = c.draws := rfl
@[simp] theorem Chip.onDict_straps (f : Dict → Dict) : (c.onDict f).straps = c.straps := rfl
@[simp] theorem Chip.onDict_clk (f : Dict → Dict) : (c.onDict f).clk = c.clk := rfl
@[simp] theorem Chip.onDict_sched (f : Dict → Dict) : (c.onDict f).sched = c.sched := rfl
@[simp] theorem Chip.onDict_members (f : Dict → Dict) : (c.onDict f).members = c.members := rfl
@[simp] theorem Chip.onDict_gathers (f : Dict → Dict) : (c.onDict f).gathers = c.gathers := rfl
@[simp] theorem Chip.onDict_pistes (f : Dict → Dict) : (c.onDict f).pistes = c.pistes := rfl
@[simp] theorem Chip.onDict_cache (f : Dict → Dict) : (c.onDict f).cache = c.cache := rfl
@[simp] theorem Chip.onDict_journal (f : Dict → Dict) : (c.onDict f).journal = c.journal := rfl
@[simp] theorem Chip.onDict_logs (f : Dict → Dict) : (c.onDict f).logs = c.logs := rfl
@[simp] theorem Chip.onDict_cqi (f : Dict → Dict) : (c.onDict f).cqi = c.cqi := rfl
@[simp] theorem Chip.onDict_host (f : Dict → Dict) : (c.onDict f).host = c.host := rfl
@[simp] theorem Chip.onDict_dict (f : Dict → Dict) : (c.onDict f).dict = f c.dict := rfl
@[simp] theorem Chip.onDict_pair (f : Dict → Dict) : (c.onDict f).pair = c.pair := rfl
@[simp] theorem Chip.onDict_ring (f : Dict → Dict) : (c.onDict f).ring = c.ring := rfl
@[simp] theorem Chip.onDict_adp (f : Dict → Dict) : (c.onDict f).adp = c.adp := rfl
@[simp] theorem Chip.onDict_power (f : Dict → Dict) : (c.onDict f).power = c.power := rfl
@[simp] theorem Chip.onDict_mem (f : Dict → Dict) : (c.onDict f).mem = c.mem := rfl
@[simp] theorem Chip.onDict_faults (f : Dict → Dict) : (c.onDict f).faults = c.faults := rfl
@[simp] theorem Chip.onDict_recorder (f : Dict → Dict) : (c.onDict f).recorder = c.recorder := rfl
@[simp] theorem Chip.onDict_start (f : Dict → Dict) : (c.onDict f).start = c.start := rfl
@[simp] theorem Chip.onDict_dir (f : Dict → Dict) : (c.onDict f).dir = c.dir := rfl
@[simp] theorem Chip.onDict_out (f : Dict → Dict) : (c.onDict f).out = c.out := rfl
@[simp] theorem Chip.onDict_draws (f : Dict → Dict) : (c.onDict f).draws = c.draws := rfl
@[simp] theorem Chip.setMember_straps (k : Nat) (x : Member) : (c.setMember k x).straps = c.straps := rfl
@[simp] theorem Chip.setMember_clk (k : Nat) (x : Member) : (c.setMember k x).clk = c.clk := rfl
@[simp] theorem Chip.setMember_sched (k : Nat) (x : Member) : (c.setMember k x).sched = c.sched := rfl
@[simp] theorem Chip.setMember_members (k : Nat) (x : Member) : (c.setMember k x).members = c.members.put k x := rfl
@[simp] theorem Chip.setMember_gathers (k : Nat) (x : Member) : (c.setMember k x).gathers = c.gathers := rfl
@[simp] theorem Chip.setMember_pistes (k : Nat) (x : Member) : (c.setMember k x).pistes = c.pistes := rfl
@[simp] theorem Chip.setMember_cache (k : Nat) (x : Member) : (c.setMember k x).cache = c.cache := rfl
@[simp] theorem Chip.setMember_journal (k : Nat) (x : Member) : (c.setMember k x).journal = c.journal := rfl
@[simp] theorem Chip.setMember_logs (k : Nat) (x : Member) : (c.setMember k x).logs = c.logs := rfl
@[simp] theorem Chip.setMember_cqi (k : Nat) (x : Member) : (c.setMember k x).cqi = c.cqi := rfl
@[simp] theorem Chip.setMember_host (k : Nat) (x : Member) : (c.setMember k x).host = c.host := rfl
@[simp] theorem Chip.setMember_dict (k : Nat) (x : Member) : (c.setMember k x).dict = c.dict := rfl
@[simp] theorem Chip.setMember_pair (k : Nat) (x : Member) : (c.setMember k x).pair = c.pair := rfl
@[simp] theorem Chip.setMember_ring (k : Nat) (x : Member) : (c.setMember k x).ring = c.ring := rfl
@[simp] theorem Chip.setMember_adp (k : Nat) (x : Member) : (c.setMember k x).adp = c.adp := rfl
@[simp] theorem Chip.setMember_power (k : Nat) (x : Member) : (c.setMember k x).power = c.power := rfl
@[simp] theorem Chip.setMember_mem (k : Nat) (x : Member) : (c.setMember k x).mem = c.mem := rfl
@[simp] theorem Chip.setMember_faults (k : Nat) (x : Member) : (c.setMember k x).faults = c.faults := rfl
@[simp] theorem Chip.setMember_recorder (k : Nat) (x : Member) : (c.setMember k x).recorder = c.recorder := rfl
@[simp] theorem Chip.setMember_start (k : Nat) (x : Member) : (c.setMember k x).start = c.start := rfl
@[simp] theorem Chip.setMember_dir (k : Nat) (x : Member) : (c.setMember k x).dir = c.dir := rfl
@[simp] theorem Chip.setMember_out (k : Nat) (x : Member) : (c.setMember k x).out = c.out := rfl
@[simp] theorem Chip.setMember_draws (k : Nat) (x : Member) : (c.setMember k x).draws = c.draws := rfl
@[simp] theorem Chip.setPiste_straps (k : Nat) (x : Piste) : (c.setPiste k x).straps = c.straps := rfl
@[simp] theorem Chip.setPiste_clk (k : Nat) (x : Piste) : (c.setPiste k x).clk = c.clk := rfl
@[simp] theorem Chip.setPiste_sched (k : Nat) (x : Piste) : (c.setPiste k x).sched = c.sched := rfl
@[simp] theorem Chip.setPiste_members (k : Nat) (x : Piste) : (c.setPiste k x).members = c.members := rfl
@[simp] theorem Chip.setPiste_gathers (k : Nat) (x : Piste) : (c.setPiste k x).gathers = c.gathers := rfl
@[simp] theorem Chip.setPiste_pistes (k : Nat) (x : Piste) : (c.setPiste k x).pistes = c.pistes.put k x := rfl
@[simp] theorem Chip.setPiste_cache (k : Nat) (x : Piste) : (c.setPiste k x).cache = c.cache := rfl
@[simp] theorem Chip.setPiste_journal (k : Nat) (x : Piste) : (c.setPiste k x).journal = c.journal := rfl
@[simp] theorem Chip.setPiste_logs (k : Nat) (x : Piste) : (c.setPiste k x).logs = c.logs := rfl
@[simp] theorem Chip.setPiste_cqi (k : Nat) (x : Piste) : (c.setPiste k x).cqi = c.cqi := rfl
@[simp] theorem Chip.setPiste_host (k : Nat) (x : Piste) : (c.setPiste k x).host = c.host := rfl
@[simp] theorem Chip.setPiste_dict (k : Nat) (x : Piste) : (c.setPiste k x).dict = c.dict := rfl
@[simp] theorem Chip.setPiste_pair (k : Nat) (x : Piste) : (c.setPiste k x).pair = c.pair := rfl
@[simp] theorem Chip.setPiste_ring (k : Nat) (x : Piste) : (c.setPiste k x).ring = c.ring := rfl
@[simp] theorem Chip.setPiste_adp (k : Nat) (x : Piste) : (c.setPiste k x).adp = c.adp := rfl
@[simp] theorem Chip.setPiste_power (k : Nat) (x : Piste) : (c.setPiste k x).power = c.power := rfl
@[simp] theorem Chip.setPiste_mem (k : Nat) (x : Piste) : (c.setPiste k x).mem = c.mem := rfl
@[simp] theorem Chip.setPiste_faults (k : Nat) (x : Piste) : (c.setPiste k x).faults = c.faults := rfl
@[simp] theorem Chip.setPiste_recorder (k : Nat) (x : Piste) : (c.setPiste k x).recorder = c.recorder := rfl
@[simp] theorem Chip.setPiste_start (k : Nat) (x : Piste) : (c.setPiste k x).start = c.start := rfl
@[simp] theorem Chip.setPiste_dir (k : Nat) (x : Piste) : (c.setPiste k x).dir = c.dir := rfl
@[simp] theorem Chip.setPiste_out (k : Nat) (x : Piste) : (c.setPiste k x).out = c.out := rfl
@[simp] theorem Chip.setPiste_draws (k : Nat) (x : Piste) : (c.setPiste k x).draws = c.draws := rfl
@[simp] theorem Chip.updMember_straps (k : Nat) (f : Member → Member) : (c.updMember k f).straps = c.straps := rfl
@[simp] theorem Chip.updMember_clk (k : Nat) (f : Member → Member) : (c.updMember k f).clk = c.clk := rfl
@[simp] theorem Chip.updMember_sched (k : Nat) (f : Member → Member) : (c.updMember k f).sched = c.sched := rfl
@[simp] theorem Chip.updMember_members (k : Nat) (f : Member → Member) : (c.updMember k f).members = c.members.put k (f (c.member k)) := rfl
@[simp] theorem Chip.updMember_gathers (k : Nat) (f : Member → Member) : (c.updMember k f).gathers = c.gathers := rfl
@[simp] theorem Chip.updMember_pistes (k : Nat) (f : Member → Member) : (c.updMember k f).pistes = c.pistes := rfl
@[simp] theorem Chip.updMember_cache (k : Nat) (f : Member → Member) : (c.updMember k f).cache = c.cache := rfl
@[simp] theorem Chip.updMember_journal (k : Nat) (f : Member → Member) : (c.updMember k f).journal = c.journal := rfl
@[simp] theorem Chip.updMember_logs (k : Nat) (f : Member → Member) : (c.updMember k f).logs = c.logs := rfl
@[simp] theorem Chip.updMember_cqi (k : Nat) (f : Member → Member) : (c.updMember k f).cqi = c.cqi := rfl
@[simp] theorem Chip.updMember_host (k : Nat) (f : Member → Member) : (c.updMember k f).host = c.host := rfl
@[simp] theorem Chip.updMember_dict (k : Nat) (f : Member → Member) : (c.updMember k f).dict = c.dict := rfl
@[simp] theorem Chip.updMember_pair (k : Nat) (f : Member → Member) : (c.updMember k f).pair = c.pair := rfl
@[simp] theorem Chip.updMember_ring (k : Nat) (f : Member → Member) : (c.updMember k f).ring = c.ring := rfl
@[simp] theorem Chip.updMember_adp (k : Nat) (f : Member → Member) : (c.updMember k f).adp = c.adp := rfl
@[simp] theorem Chip.updMember_power (k : Nat) (f : Member → Member) : (c.updMember k f).power = c.power := rfl
@[simp] theorem Chip.updMember_mem (k : Nat) (f : Member → Member) : (c.updMember k f).mem = c.mem := rfl
@[simp] theorem Chip.updMember_faults (k : Nat) (f : Member → Member) : (c.updMember k f).faults = c.faults := rfl
@[simp] theorem Chip.updMember_recorder (k : Nat) (f : Member → Member) : (c.updMember k f).recorder = c.recorder := rfl
@[simp] theorem Chip.updMember_start (k : Nat) (f : Member → Member) : (c.updMember k f).start = c.start := rfl
@[simp] theorem Chip.updMember_dir (k : Nat) (f : Member → Member) : (c.updMember k f).dir = c.dir := rfl
@[simp] theorem Chip.updMember_out (k : Nat) (f : Member → Member) : (c.updMember k f).out = c.out := rfl
@[simp] theorem Chip.updMember_draws (k : Nat) (f : Member → Member) : (c.updMember k f).draws = c.draws := rfl
@[simp] theorem Chip.updPiste_straps (k : Nat) (f : Piste → Piste) : (c.updPiste k f).straps = c.straps := rfl
@[simp] theorem Chip.updPiste_clk (k : Nat) (f : Piste → Piste) : (c.updPiste k f).clk = c.clk := rfl
@[simp] theorem Chip.updPiste_sched (k : Nat) (f : Piste → Piste) : (c.updPiste k f).sched = c.sched := rfl
@[simp] theorem Chip.updPiste_members (k : Nat) (f : Piste → Piste) : (c.updPiste k f).members = c.members := rfl
@[simp] theorem Chip.updPiste_gathers (k : Nat) (f : Piste → Piste) : (c.updPiste k f).gathers = c.gathers := rfl
@[simp] theorem Chip.updPiste_pistes (k : Nat) (f : Piste → Piste) : (c.updPiste k f).pistes = c.pistes.put k (f (c.piste k)) := rfl
@[simp] theorem Chip.updPiste_cache (k : Nat) (f : Piste → Piste) : (c.updPiste k f).cache = c.cache := rfl
@[simp] theorem Chip.updPiste_journal (k : Nat) (f : Piste → Piste) : (c.updPiste k f).journal = c.journal := rfl
@[simp] theorem Chip.updPiste_logs (k : Nat) (f : Piste → Piste) : (c.updPiste k f).logs = c.logs := rfl
@[simp] theorem Chip.updPiste_cqi (k : Nat) (f : Piste → Piste) : (c.updPiste k f).cqi = c.cqi := rfl
@[simp] theorem Chip.updPiste_host (k : Nat) (f : Piste → Piste) : (c.updPiste k f).host = c.host := rfl
@[simp] theorem Chip.updPiste_dict (k : Nat) (f : Piste → Piste) : (c.updPiste k f).dict = c.dict := rfl
@[simp] theorem Chip.updPiste_pair (k : Nat) (f : Piste → Piste) : (c.updPiste k f).pair = c.pair := rfl
@[simp] theorem Chip.updPiste_ring (k : Nat) (f : Piste → Piste) : (c.updPiste k f).ring = c.ring := rfl
@[simp] theorem Chip.updPiste_adp (k : Nat) (f : Piste → Piste) : (c.updPiste k f).adp = c.adp := rfl
@[simp] theorem Chip.updPiste_power (k : Nat) (f : Piste → Piste) : (c.updPiste k f).power = c.power := rfl
@[simp] theorem Chip.updPiste_mem (k : Nat) (f : Piste → Piste) : (c.updPiste k f).mem = c.mem := rfl
@[simp] theorem Chip.updPiste_faults (k : Nat) (f : Piste → Piste) : (c.updPiste k f).faults = c.faults := rfl
@[simp] theorem Chip.updPiste_recorder (k : Nat) (f : Piste → Piste) : (c.updPiste k f).recorder = c.recorder := rfl
@[simp] theorem Chip.updPiste_start (k : Nat) (f : Piste → Piste) : (c.updPiste k f).start = c.start := rfl
@[simp] theorem Chip.updPiste_dir (k : Nat) (f : Piste → Piste) : (c.updPiste k f).dir = c.dir := rfl
@[simp] theorem Chip.updPiste_out (k : Nat) (f : Piste → Piste) : (c.updPiste k f).out = c.out := rfl
@[simp] theorem Chip.updPiste_draws (k : Nat) (f : Piste → Piste) : (c.updPiste k f).draws = c.draws := rfl
@[simp] theorem Chip.setEntry_straps (k : Nat) (x : Entry) : (c.setEntry k x).straps = c.straps := rfl
@[simp] theorem Chip.setEntry_clk (k : Nat) (x : Entry) : (c.setEntry k x).clk = c.clk := rfl
@[simp] theorem Chip.setEntry_sched (k : Nat) (x : Entry) : (c.setEntry k x).sched = c.sched := rfl
@[simp] theorem Chip.setEntry_members (k : Nat) (x : Entry) : (c.setEntry k x).members = c.members := rfl
@[simp] theorem Chip.setEntry_gathers (k : Nat) (x : Entry) : (c.setEntry k x).gathers = c.gathers := rfl
@[simp] theorem Chip.setEntry_pistes (k : Nat) (x : Entry) : (c.setEntry k x).pistes = c.pistes := rfl
@[simp] theorem Chip.setEntry_cache (k : Nat) (x : Entry) : (c.setEntry k x).cache = c.cache := rfl
@[simp] theorem Chip.setEntry_logs (k : Nat) (x : Entry) : (c.setEntry k x).logs = c.logs := rfl
@[simp] theorem Chip.setEntry_cqi (k : Nat) (x : Entry) : (c.setEntry k x).cqi = c.cqi := rfl
@[simp] theorem Chip.setEntry_host (k : Nat) (x : Entry) : (c.setEntry k x).host = c.host := rfl
@[simp] theorem Chip.setEntry_dict (k : Nat) (x : Entry) : (c.setEntry k x).dict = c.dict := rfl
@[simp] theorem Chip.setEntry_pair (k : Nat) (x : Entry) : (c.setEntry k x).pair = c.pair := rfl
@[simp] theorem Chip.setEntry_ring (k : Nat) (x : Entry) : (c.setEntry k x).ring = c.ring := rfl
@[simp] theorem Chip.setEntry_adp (k : Nat) (x : Entry) : (c.setEntry k x).adp = c.adp := rfl
@[simp] theorem Chip.setEntry_power (k : Nat) (x : Entry) : (c.setEntry k x).power = c.power := rfl
@[simp] theorem Chip.setEntry_mem (k : Nat) (x : Entry) : (c.setEntry k x).mem = c.mem := rfl
@[simp] theorem Chip.setEntry_faults (k : Nat) (x : Entry) : (c.setEntry k x).faults = c.faults := rfl
@[simp] theorem Chip.setEntry_recorder (k : Nat) (x : Entry) : (c.setEntry k x).recorder = c.recorder := rfl
@[simp] theorem Chip.setEntry_start (k : Nat) (x : Entry) : (c.setEntry k x).start = c.start := rfl
@[simp] theorem Chip.setEntry_dir (k : Nat) (x : Entry) : (c.setEntry k x).dir = c.dir := rfl
@[simp] theorem Chip.setEntry_out (k : Nat) (x : Entry) : (c.setEntry k x).out = c.out := rfl
@[simp] theorem Chip.setEntry_draws (k : Nat) (x : Entry) : (c.setEntry k x).draws = c.draws := rfl
@[simp] theorem Chip.setPort_straps (k : Nat) (x : Port) : (c.setPort k x).straps = c.straps := rfl
@[simp] theorem Chip.setPort_clk (k : Nat) (x : Port) : (c.setPort k x).clk = c.clk := rfl
@[simp] theorem Chip.setPort_sched (k : Nat) (x : Port) : (c.setPort k x).sched = c.sched := rfl
@[simp] theorem Chip.setPort_members (k : Nat) (x : Port) : (c.setPort k x).members = c.members := rfl
@[simp] theorem Chip.setPort_gathers (k : Nat) (x : Port) : (c.setPort k x).gathers = c.gathers := rfl
@[simp] theorem Chip.setPort_pistes (k : Nat) (x : Port) : (c.setPort k x).pistes = c.pistes := rfl
@[simp] theorem Chip.setPort_cache (k : Nat) (x : Port) : (c.setPort k x).cache = c.cache := rfl
@[simp] theorem Chip.setPort_journal (k : Nat) (x : Port) : (c.setPort k x).journal = c.journal := rfl
@[simp] theorem Chip.setPort_logs (k : Nat) (x : Port) : (c.setPort k x).logs = c.logs := rfl
@[simp] theorem Chip.setPort_cqi (k : Nat) (x : Port) : (c.setPort k x).cqi = c.cqi := rfl
@[simp] theorem Chip.setPort_host (k : Nat) (x : Port) : (c.setPort k x).host = c.host := rfl
@[simp] theorem Chip.setPort_dict (k : Nat) (x : Port) : (c.setPort k x).dict = c.dict := rfl
@[simp] theorem Chip.setPort_pair (k : Nat) (x : Port) : (c.setPort k x).pair = c.pair := rfl
@[simp] theorem Chip.setPort_adp (k : Nat) (x : Port) : (c.setPort k x).adp = c.adp := rfl
@[simp] theorem Chip.setPort_power (k : Nat) (x : Port) : (c.setPort k x).power = c.power := rfl
@[simp] theorem Chip.setPort_mem (k : Nat) (x : Port) : (c.setPort k x).mem = c.mem := rfl
@[simp] theorem Chip.setPort_faults (k : Nat) (x : Port) : (c.setPort k x).faults = c.faults := rfl
@[simp] theorem Chip.setPort_recorder (k : Nat) (x : Port) : (c.setPort k x).recorder = c.recorder := rfl
@[simp] theorem Chip.setPort_start (k : Nat) (x : Port) : (c.setPort k x).start = c.start := rfl
@[simp] theorem Chip.setPort_dir (k : Nat) (x : Port) : (c.setPort k x).dir = c.dir := rfl
@[simp] theorem Chip.setPort_out (k : Nat) (x : Port) : (c.setPort k x).out = c.out := rfl
@[simp] theorem Chip.setPort_draws (k : Nat) (x : Port) : (c.setPort k x).draws = c.draws := rfl
@[simp] theorem Chip.updPort_straps (k : Nat) (f : Port → Port) : (c.updPort k f).straps = c.straps := rfl
@[simp] theorem Chip.updPort_clk (k : Nat) (f : Port → Port) : (c.updPort k f).clk = c.clk := rfl
@[simp] theorem Chip.updPort_sched (k : Nat) (f : Port → Port) : (c.updPort k f).sched = c.sched := rfl
@[simp] theorem Chip.updPort_members (k : Nat) (f : Port → Port) : (c.updPort k f).members = c.members := rfl
@[simp] theorem Chip.updPort_gathers (k : Nat) (f : Port → Port) : (c.updPort k f).gathers = c.gathers := rfl
@[simp] theorem Chip.updPort_pistes (k : Nat) (f : Port → Port) : (c.updPort k f).pistes = c.pistes := rfl
@[simp] theorem Chip.updPort_cache (k : Nat) (f : Port → Port) : (c.updPort k f).cache = c.cache := rfl
@[simp] theorem Chip.updPort_journal (k : Nat) (f : Port → Port) : (c.updPort k f).journal = c.journal := rfl
@[simp] theorem Chip.updPort_logs (k : Nat) (f : Port → Port) : (c.updPort k f).logs = c.logs := rfl
@[simp] theorem Chip.updPort_cqi (k : Nat) (f : Port → Port) : (c.updPort k f).cqi = c.cqi := rfl
@[simp] theorem Chip.updPort_host (k : Nat) (f : Port → Port) : (c.updPort k f).host = c.host := rfl
@[simp] theorem Chip.updPort_dict (k : Nat) (f : Port → Port) : (c.updPort k f).dict = c.dict := rfl
@[simp] theorem Chip.updPort_pair (k : Nat) (f : Port → Port) : (c.updPort k f).pair = c.pair := rfl
@[simp] theorem Chip.updPort_adp (k : Nat) (f : Port → Port) : (c.updPort k f).adp = c.adp := rfl
@[simp] theorem Chip.updPort_power (k : Nat) (f : Port → Port) : (c.updPort k f).power = c.power := rfl
@[simp] theorem Chip.updPort_mem (k : Nat) (f : Port → Port) : (c.updPort k f).mem = c.mem := rfl
@[simp] theorem Chip.updPort_faults (k : Nat) (f : Port → Port) : (c.updPort k f).faults = c.faults := rfl
@[simp] theorem Chip.updPort_recorder (k : Nat) (f : Port → Port) : (c.updPort k f).recorder = c.recorder := rfl
@[simp] theorem Chip.updPort_start (k : Nat) (f : Port → Port) : (c.updPort k f).start = c.start := rfl
@[simp] theorem Chip.updPort_dir (k : Nat) (f : Port → Port) : (c.updPort k f).dir = c.dir := rfl
@[simp] theorem Chip.updPort_out (k : Nat) (f : Port → Port) : (c.updPort k f).out = c.out := rfl
@[simp] theorem Chip.updPort_draws (k : Nat) (f : Port → Port) : (c.updPort k f).draws = c.draws := rfl
@[simp] theorem Chip.setQueue_straps (k : Nat) (x : QueuePair) : (c.setQueue k x).straps = c.straps := rfl
@[simp] theorem Chip.setQueue_clk (k : Nat) (x : QueuePair) : (c.setQueue k x).clk = c.clk := rfl
@[simp] theorem Chip.setQueue_sched (k : Nat) (x : QueuePair) : (c.setQueue k x).sched = c.sched := rfl
@[simp] theorem Chip.setQueue_members (k : Nat) (x : QueuePair) : (c.setQueue k x).members = c.members := rfl
@[simp] theorem Chip.setQueue_gathers (k : Nat) (x : QueuePair) : (c.setQueue k x).gathers = c.gathers := rfl
@[simp] theorem Chip.setQueue_pistes (k : Nat) (x : QueuePair) : (c.setQueue k x).pistes = c.pistes := rfl
@[simp] theorem Chip.setQueue_cache (k : Nat) (x : QueuePair) : (c.setQueue k x).cache = c.cache := rfl
@[simp] theorem Chip.setQueue_journal (k : Nat) (x : QueuePair) : (c.setQueue k x).journal = c.journal := rfl
@[simp] theorem Chip.setQueue_logs (k : Nat) (x : QueuePair) : (c.setQueue k x).logs = c.logs := rfl
@[simp] theorem Chip.setQueue_host (k : Nat) (x : QueuePair) : (c.setQueue k x).host = c.host := rfl
@[simp] theorem Chip.setQueue_dict (k : Nat) (x : QueuePair) : (c.setQueue k x).dict = c.dict := rfl
@[simp] theorem Chip.setQueue_pair (k : Nat) (x : QueuePair) : (c.setQueue k x).pair = c.pair := rfl
@[simp] theorem Chip.setQueue_ring (k : Nat) (x : QueuePair) : (c.setQueue k x).ring = c.ring := rfl
@[simp] theorem Chip.setQueue_adp (k : Nat) (x : QueuePair) : (c.setQueue k x).adp = c.adp := rfl
@[simp] theorem Chip.setQueue_power (k : Nat) (x : QueuePair) : (c.setQueue k x).power = c.power := rfl
@[simp] theorem Chip.setQueue_mem (k : Nat) (x : QueuePair) : (c.setQueue k x).mem = c.mem := rfl
@[simp] theorem Chip.setQueue_faults (k : Nat) (x : QueuePair) : (c.setQueue k x).faults = c.faults := rfl
@[simp] theorem Chip.setQueue_recorder (k : Nat) (x : QueuePair) : (c.setQueue k x).recorder = c.recorder := rfl
@[simp] theorem Chip.setQueue_start (k : Nat) (x : QueuePair) : (c.setQueue k x).start = c.start := rfl
@[simp] theorem Chip.setQueue_dir (k : Nat) (x : QueuePair) : (c.setQueue k x).dir = c.dir := rfl
@[simp] theorem Chip.setQueue_out (k : Nat) (x : QueuePair) : (c.setQueue k x).out = c.out := rfl
@[simp] theorem Chip.setQueue_draws (k : Nat) (x : QueuePair) : (c.setQueue k x).draws = c.draws := rfl
@[simp] theorem Chip.updQueue_straps (k : Nat) (f : QueuePair → QueuePair) : (c.updQueue k f).straps = c.straps := rfl
@[simp] theorem Chip.updQueue_clk (k : Nat) (f : QueuePair → QueuePair) : (c.updQueue k f).clk = c.clk := rfl
@[simp] theorem Chip.updQueue_sched (k : Nat) (f : QueuePair → QueuePair) : (c.updQueue k f).sched = c.sched := rfl
@[simp] theorem Chip.updQueue_members (k : Nat) (f : QueuePair → QueuePair) : (c.updQueue k f).members = c.members := rfl
@[simp] theorem Chip.updQueue_gathers (k : Nat) (f : QueuePair → QueuePair) : (c.updQueue k f).gathers = c.gathers := rfl
@[simp] theorem Chip.updQueue_pistes (k : Nat) (f : QueuePair → QueuePair) : (c.updQueue k f).pistes = c.pistes := rfl
@[simp] theorem Chip.updQueue_cache (k : Nat) (f : QueuePair → QueuePair) : (c.updQueue k f).cache = c.cache := rfl
@[simp] theorem Chip.updQueue_journal (k : Nat) (f : QueuePair → QueuePair) : (c.updQueue k f).journal = c.journal := rfl
@[simp] theorem Chip.updQueue_logs (k : Nat) (f : QueuePair → QueuePair) : (c.updQueue k f).logs = c.logs := rfl
@[simp] theorem Chip.updQueue_host (k : Nat) (f : QueuePair → QueuePair) : (c.updQueue k f).host = c.host := rfl
@[simp] theorem Chip.updQueue_dict (k : Nat) (f : QueuePair → QueuePair) : (c.updQueue k f).dict = c.dict := rfl
@[simp] theorem Chip.updQueue_pair (k : Nat) (f : QueuePair → QueuePair) : (c.updQueue k f).pair = c.pair := rfl
@[simp] theorem Chip.updQueue_ring (k : Nat) (f : QueuePair → QueuePair) : (c.updQueue k f).ring = c.ring := rfl
@[simp] theorem Chip.updQueue_adp (k : Nat) (f : QueuePair → QueuePair) : (c.updQueue k f).adp = c.adp := rfl
@[simp] theorem Chip.updQueue_power (k : Nat) (f : QueuePair → QueuePair) : (c.updQueue k f).power = c.power := rfl
@[simp] theorem Chip.updQueue_mem (k : Nat) (f : QueuePair → QueuePair) : (c.updQueue k f).mem = c.mem := rfl
@[simp] theorem Chip.updQueue_faults (k : Nat) (f : QueuePair → QueuePair) : (c.updQueue k f).faults = c.faults := rfl
@[simp] theorem Chip.updQueue_recorder (k : Nat) (f : QueuePair → QueuePair) : (c.updQueue k f).recorder = c.recorder := rfl
@[simp] theorem Chip.updQueue_start (k : Nat) (f : QueuePair → QueuePair) : (c.updQueue k f).start = c.start := rfl
@[simp] theorem Chip.updQueue_dir (k : Nat) (f : QueuePair → QueuePair) : (c.updQueue k f).dir = c.dir := rfl
@[simp] theorem Chip.updQueue_out (k : Nat) (f : QueuePair → QueuePair) : (c.updQueue k f).out = c.out := rfl
@[simp] theorem Chip.updQueue_draws (k : Nat) (f : QueuePair → QueuePair) : (c.updQueue k f).draws = c.draws := rfl
@[simp] theorem Chip.setNode_straps (k : Nat) (x : Node) : (c.setNode k x).straps = c.straps := rfl
@[simp] theorem Chip.setNode_clk (k : Nat) (x : Node) : (c.setNode k x).clk = c.clk := rfl
@[simp] theorem Chip.setNode_sched (k : Nat) (x : Node) : (c.setNode k x).sched = c.sched := rfl
@[simp] theorem Chip.setNode_members (k : Nat) (x : Node) : (c.setNode k x).members = c.members := rfl
@[simp] theorem Chip.setNode_gathers (k : Nat) (x : Node) : (c.setNode k x).gathers = c.gathers := rfl
@[simp] theorem Chip.setNode_pistes (k : Nat) (x : Node) : (c.setNode k x).pistes = c.pistes := rfl
@[simp] theorem Chip.setNode_cache (k : Nat) (x : Node) : (c.setNode k x).cache = c.cache := rfl
@[simp] theorem Chip.setNode_journal (k : Nat) (x : Node) : (c.setNode k x).journal = c.journal := rfl
@[simp] theorem Chip.setNode_logs (k : Nat) (x : Node) : (c.setNode k x).logs = c.logs := rfl
@[simp] theorem Chip.setNode_cqi (k : Nat) (x : Node) : (c.setNode k x).cqi = c.cqi := rfl
@[simp] theorem Chip.setNode_host (k : Nat) (x : Node) : (c.setNode k x).host = c.host := rfl
@[simp] theorem Chip.setNode_dict (k : Nat) (x : Node) : (c.setNode k x).dict = c.dict := rfl
@[simp] theorem Chip.setNode_pair (k : Nat) (x : Node) : (c.setNode k x).pair = c.pair := rfl
@[simp] theorem Chip.setNode_adp (k : Nat) (x : Node) : (c.setNode k x).adp = c.adp := rfl
@[simp] theorem Chip.setNode_power (k : Nat) (x : Node) : (c.setNode k x).power = c.power := rfl
@[simp] theorem Chip.setNode_mem (k : Nat) (x : Node) : (c.setNode k x).mem = c.mem := rfl
@[simp] theorem Chip.setNode_faults (k : Nat) (x : Node) : (c.setNode k x).faults = c.faults := rfl
@[simp] theorem Chip.setNode_recorder (k : Nat) (x : Node) : (c.setNode k x).recorder = c.recorder := rfl
@[simp] theorem Chip.setNode_start (k : Nat) (x : Node) : (c.setNode k x).start = c.start := rfl
@[simp] theorem Chip.setNode_dir (k : Nat) (x : Node) : (c.setNode k x).dir = c.dir := rfl
@[simp] theorem Chip.setNode_out (k : Nat) (x : Node) : (c.setNode k x).out = c.out := rfl
@[simp] theorem Chip.setNode_draws (k : Nat) (x : Node) : (c.setNode k x).draws = c.draws := rfl
@[simp] theorem Chip.updNode_straps (k : Nat) (f : Node → Node) : (c.updNode k f).straps = c.straps := rfl
@[simp] theorem Chip.updNode_clk (k : Nat) (f : Node → Node) : (c.updNode k f).clk = c.clk := rfl
@[simp] theorem Chip.updNode_sched (k : Nat) (f : Node → Node) : (c.updNode k f).sched = c.sched := rfl
@[simp] theorem Chip.updNode_members (k : Nat) (f : Node → Node) : (c.updNode k f).members = c.members := rfl
@[simp] theorem Chip.updNode_gathers (k : Nat) (f : Node → Node) : (c.updNode k f).gathers = c.gathers := rfl
@[simp] theorem Chip.updNode_pistes (k : Nat) (f : Node → Node) : (c.updNode k f).pistes = c.pistes := rfl
@[simp] theorem Chip.updNode_cache (k : Nat) (f : Node → Node) : (c.updNode k f).cache = c.cache := rfl
@[simp] theorem Chip.updNode_journal (k : Nat) (f : Node → Node) : (c.updNode k f).journal = c.journal := rfl
@[simp] theorem Chip.updNode_logs (k : Nat) (f : Node → Node) : (c.updNode k f).logs = c.logs := rfl
@[simp] theorem Chip.updNode_cqi (k : Nat) (f : Node → Node) : (c.updNode k f).cqi = c.cqi := rfl
@[simp] theorem Chip.updNode_host (k : Nat) (f : Node → Node) : (c.updNode k f).host = c.host := rfl
@[simp] theorem Chip.updNode_dict (k : Nat) (f : Node → Node) : (c.updNode k f).dict = c.dict := rfl
@[simp] theorem Chip.updNode_pair (k : Nat) (f : Node → Node) : (c.updNode k f).pair = c.pair := rfl
@[simp] theorem Chip.updNode_adp (k : Nat) (f : Node → Node) : (c.updNode k f).adp = c.adp := rfl
@[simp] theorem Chip.updNode_power (k : Nat) (f : Node → Node) : (c.updNode k f).power = c.power := rfl
@[simp] theorem Chip.updNode_mem (k : Nat) (f : Node → Node) : (c.updNode k f).mem = c.mem := rfl
@[simp] theorem Chip.updNode_faults (k : Nat) (f : Node → Node) : (c.updNode k f).faults = c.faults := rfl
@[simp] theorem Chip.updNode_recorder (k : Nat) (f : Node → Node) : (c.updNode k f).recorder = c.recorder := rfl
@[simp] theorem Chip.updNode_start (k : Nat) (f : Node → Node) : (c.updNode k f).start = c.start := rfl
@[simp] theorem Chip.updNode_dir (k : Nat) (f : Node → Node) : (c.updNode k f).dir = c.dir := rfl
@[simp] theorem Chip.updNode_out (k : Nat) (f : Node → Node) : (c.updNode k f).out = c.out := rfl
@[simp] theorem Chip.updNode_draws (k : Nat) (f : Node → Node) : (c.updNode k f).draws = c.draws := rfl
@[simp] theorem Chip.setHandle_straps (k : Nat) (x : Handle) : (c.setHandle k x).straps = c.straps := rfl
@[simp] theorem Chip.setHandle_clk (k : Nat) (x : Handle) : (c.setHandle k x).clk = c.clk := rfl
@[simp] theorem Chip.setHandle_sched (k : Nat) (x : Handle) : (c.setHandle k x).sched = c.sched := rfl
@[simp] theorem Chip.setHandle_members (k : Nat) (x : Handle) : (c.setHandle k x).members = c.members := rfl
@[simp] theorem Chip.setHandle_gathers (k : Nat) (x : Handle) : (c.setHandle k x).gathers = c.gathers := rfl
@[simp] theorem Chip.setHandle_pistes (k : Nat) (x : Handle) : (c.setHandle k x).pistes = c.pistes := rfl
@[simp] theorem Chip.setHandle_cache (k : Nat) (x : Handle) : (c.setHandle k x).cache = c.cache := rfl
@[simp] theorem Chip.setHandle_journal (k : Nat) (x : Handle) : (c.setHandle k x).journal = c.journal := rfl
@[simp] theorem Chip.setHandle_logs (k : Nat) (x : Handle) : (c.setHandle k x).logs = c.logs := rfl
@[simp] theorem Chip.setHandle_host (k : Nat) (x : Handle) : (c.setHandle k x).host = c.host := rfl
@[simp] theorem Chip.setHandle_dict (k : Nat) (x : Handle) : (c.setHandle k x).dict = c.dict := rfl
@[simp] theorem Chip.setHandle_pair (k : Nat) (x : Handle) : (c.setHandle k x).pair = c.pair := rfl
@[simp] theorem Chip.setHandle_ring (k : Nat) (x : Handle) : (c.setHandle k x).ring = c.ring := rfl
@[simp] theorem Chip.setHandle_adp (k : Nat) (x : Handle) : (c.setHandle k x).adp = c.adp := rfl
@[simp] theorem Chip.setHandle_power (k : Nat) (x : Handle) : (c.setHandle k x).power = c.power := rfl
@[simp] theorem Chip.setHandle_mem (k : Nat) (x : Handle) : (c.setHandle k x).mem = c.mem := rfl
@[simp] theorem Chip.setHandle_faults (k : Nat) (x : Handle) : (c.setHandle k x).faults = c.faults := rfl
@[simp] theorem Chip.setHandle_recorder (k : Nat) (x : Handle) : (c.setHandle k x).recorder = c.recorder := rfl
@[simp] theorem Chip.setHandle_start (k : Nat) (x : Handle) : (c.setHandle k x).start = c.start := rfl
@[simp] theorem Chip.setHandle_dir (k : Nat) (x : Handle) : (c.setHandle k x).dir = c.dir := rfl
@[simp] theorem Chip.setHandle_out (k : Nat) (x : Handle) : (c.setHandle k x).out = c.out := rfl
@[simp] theorem Chip.setHandle_draws (k : Nat) (x : Handle) : (c.setHandle k x).draws = c.draws := rfl
@[simp] theorem Chip.updHandle_straps (k : Nat) (f : Handle → Handle) : (c.updHandle k f).straps = c.straps := rfl
@[simp] theorem Chip.updHandle_clk (k : Nat) (f : Handle → Handle) : (c.updHandle k f).clk = c.clk := rfl
@[simp] theorem Chip.updHandle_sched (k : Nat) (f : Handle → Handle) : (c.updHandle k f).sched = c.sched := rfl
@[simp] theorem Chip.updHandle_members (k : Nat) (f : Handle → Handle) : (c.updHandle k f).members = c.members := rfl
@[simp] theorem Chip.updHandle_gathers (k : Nat) (f : Handle → Handle) : (c.updHandle k f).gathers = c.gathers := rfl
@[simp] theorem Chip.updHandle_pistes (k : Nat) (f : Handle → Handle) : (c.updHandle k f).pistes = c.pistes := rfl
@[simp] theorem Chip.updHandle_cache (k : Nat) (f : Handle → Handle) : (c.updHandle k f).cache = c.cache := rfl
@[simp] theorem Chip.updHandle_journal (k : Nat) (f : Handle → Handle) : (c.updHandle k f).journal = c.journal := rfl
@[simp] theorem Chip.updHandle_logs (k : Nat) (f : Handle → Handle) : (c.updHandle k f).logs = c.logs := rfl
@[simp] theorem Chip.updHandle_host (k : Nat) (f : Handle → Handle) : (c.updHandle k f).host = c.host := rfl
@[simp] theorem Chip.updHandle_dict (k : Nat) (f : Handle → Handle) : (c.updHandle k f).dict = c.dict := rfl
@[simp] theorem Chip.updHandle_pair (k : Nat) (f : Handle → Handle) : (c.updHandle k f).pair = c.pair := rfl
@[simp] theorem Chip.updHandle_ring (k : Nat) (f : Handle → Handle) : (c.updHandle k f).ring = c.ring := rfl
@[simp] theorem Chip.updHandle_adp (k : Nat) (f : Handle → Handle) : (c.updHandle k f).adp = c.adp := rfl
@[simp] theorem Chip.updHandle_power (k : Nat) (f : Handle → Handle) : (c.updHandle k f).power = c.power := rfl
@[simp] theorem Chip.updHandle_mem (k : Nat) (f : Handle → Handle) : (c.updHandle k f).mem = c.mem := rfl
@[simp] theorem Chip.updHandle_faults (k : Nat) (f : Handle → Handle) : (c.updHandle k f).faults = c.faults := rfl
@[simp] theorem Chip.updHandle_recorder (k : Nat) (f : Handle → Handle) : (c.updHandle k f).recorder = c.recorder := rfl
@[simp] theorem Chip.updHandle_start (k : Nat) (f : Handle → Handle) : (c.updHandle k f).start = c.start := rfl
@[simp] theorem Chip.updHandle_dir (k : Nat) (f : Handle → Handle) : (c.updHandle k f).dir = c.dir := rfl
@[simp] theorem Chip.updHandle_out (k : Nat) (f : Handle → Handle) : (c.updHandle k f).out = c.out := rfl
@[simp] theorem Chip.updHandle_draws (k : Nat) (f : Handle → Handle) : (c.updHandle k f).draws = c.draws := rfl
@[simp] theorem Chip.setImage_straps (k : Nat) (x : VaultImage) : (c.setImage k x).straps = c.straps := rfl
@[simp] theorem Chip.setImage_clk (k : Nat) (x : VaultImage) : (c.setImage k x).clk = c.clk := rfl
@[simp] theorem Chip.setImage_sched (k : Nat) (x : VaultImage) : (c.setImage k x).sched = c.sched := rfl
@[simp] theorem Chip.setImage_members (k : Nat) (x : VaultImage) : (c.setImage k x).members = c.members := rfl
@[simp] theorem Chip.setImage_gathers (k : Nat) (x : VaultImage) : (c.setImage k x).gathers = c.gathers := rfl
@[simp] theorem Chip.setImage_pistes (k : Nat) (x : VaultImage) : (c.setImage k x).pistes = c.pistes := rfl
@[simp] theorem Chip.setImage_cache (k : Nat) (x : VaultImage) : (c.setImage k x).cache = c.cache := rfl
@[simp] theorem Chip.setImage_journal (k : Nat) (x : VaultImage) : (c.setImage k x).journal = c.journal := rfl
@[simp] theorem Chip.setImage_logs (k : Nat) (x : VaultImage) : (c.setImage k x).logs = c.logs := rfl
@[simp] theorem Chip.setImage_cqi (k : Nat) (x : VaultImage) : (c.setImage k x).cqi = c.cqi := rfl
@[simp] theorem Chip.setImage_host (k : Nat) (x : VaultImage) : (c.setImage k x).host = c.host := rfl
@[simp] theorem Chip.setImage_dict (k : Nat) (x : VaultImage) : (c.setImage k x).dict = c.dict := rfl
@[simp] theorem Chip.setImage_pair (k : Nat) (x : VaultImage) : (c.setImage k x).pair = c.pair := rfl
@[simp] theorem Chip.setImage_ring (k : Nat) (x : VaultImage) : (c.setImage k x).ring = c.ring := rfl
@[simp] theorem Chip.setImage_adp (k : Nat) (x : VaultImage) : (c.setImage k x).adp = c.adp := rfl
@[simp] theorem Chip.setImage_mem (k : Nat) (x : VaultImage) : (c.setImage k x).mem = c.mem := rfl
@[simp] theorem Chip.setImage_faults (k : Nat) (x : VaultImage) : (c.setImage k x).faults = c.faults := rfl
@[simp] theorem Chip.setImage_recorder (k : Nat) (x : VaultImage) : (c.setImage k x).recorder = c.recorder := rfl
@[simp] theorem Chip.setImage_start (k : Nat) (x : VaultImage) : (c.setImage k x).start = c.start := rfl
@[simp] theorem Chip.setImage_dir (k : Nat) (x : VaultImage) : (c.setImage k x).dir = c.dir := rfl
@[simp] theorem Chip.setImage_out (k : Nat) (x : VaultImage) : (c.setImage k x).out = c.out := rfl
@[simp] theorem Chip.setImage_draws (k : Nat) (x : VaultImage) : (c.setImage k x).draws = c.draws := rfl
@[simp] theorem Chip.updEntry_straps (k : Nat) (f : Entry → Entry) : (c.updEntry k f).straps = c.straps := rfl
@[simp] theorem Chip.updEntry_clk (k : Nat) (f : Entry → Entry) : (c.updEntry k f).clk = c.clk := rfl
@[simp] theorem Chip.updEntry_sched (k : Nat) (f : Entry → Entry) : (c.updEntry k f).sched = c.sched := rfl
@[simp] theorem Chip.updEntry_members (k : Nat) (f : Entry → Entry) : (c.updEntry k f).members = c.members := rfl
@[simp] theorem Chip.updEntry_gathers (k : Nat) (f : Entry → Entry) : (c.updEntry k f).gathers = c.gathers := rfl
@[simp] theorem Chip.updEntry_pistes (k : Nat) (f : Entry → Entry) : (c.updEntry k f).pistes = c.pistes := rfl
@[simp] theorem Chip.updEntry_cache (k : Nat) (f : Entry → Entry) : (c.updEntry k f).cache = c.cache := rfl
@[simp] theorem Chip.updEntry_logs (k : Nat) (f : Entry → Entry) : (c.updEntry k f).logs = c.logs := rfl
@[simp] theorem Chip.updEntry_cqi (k : Nat) (f : Entry → Entry) : (c.updEntry k f).cqi = c.cqi := rfl
@[simp] theorem Chip.updEntry_host (k : Nat) (f : Entry → Entry) : (c.updEntry k f).host = c.host := rfl
@[simp] theorem Chip.updEntry_dict (k : Nat) (f : Entry → Entry) : (c.updEntry k f).dict = c.dict := rfl
@[simp] theorem Chip.updEntry_pair (k : Nat) (f : Entry → Entry) : (c.updEntry k f).pair = c.pair := rfl
@[simp] theorem Chip.updEntry_ring (k : Nat) (f : Entry → Entry) : (c.updEntry k f).ring = c.ring := rfl
@[simp] theorem Chip.updEntry_adp (k : Nat) (f : Entry → Entry) : (c.updEntry k f).adp = c.adp := rfl
@[simp] theorem Chip.updEntry_power (k : Nat) (f : Entry → Entry) : (c.updEntry k f).power = c.power := rfl
@[simp] theorem Chip.updEntry_mem (k : Nat) (f : Entry → Entry) : (c.updEntry k f).mem = c.mem := rfl
@[simp] theorem Chip.updEntry_faults (k : Nat) (f : Entry → Entry) : (c.updEntry k f).faults = c.faults := rfl
@[simp] theorem Chip.updEntry_recorder (k : Nat) (f : Entry → Entry) : (c.updEntry k f).recorder = c.recorder := rfl
@[simp] theorem Chip.updEntry_start (k : Nat) (f : Entry → Entry) : (c.updEntry k f).start = c.start := rfl
@[simp] theorem Chip.updEntry_dir (k : Nat) (f : Entry → Entry) : (c.updEntry k f).dir = c.dir := rfl
@[simp] theorem Chip.updEntry_out (k : Nat) (f : Entry → Entry) : (c.updEntry k f).out = c.out := rfl
@[simp] theorem Chip.updEntry_draws (k : Nat) (f : Entry → Entry) : (c.updEntry k f).draws = c.draws := rfl
@[simp] theorem Chip.setRegion_straps (k : Nat) (x : Region) : (c.setRegion k x).straps = c.straps := rfl
@[simp] theorem Chip.setRegion_clk (k : Nat) (x : Region) : (c.setRegion k x).clk = c.clk := rfl
@[simp] theorem Chip.setRegion_sched (k : Nat) (x : Region) : (c.setRegion k x).sched = c.sched := rfl
@[simp] theorem Chip.setRegion_members (k : Nat) (x : Region) : (c.setRegion k x).members = c.members := rfl
@[simp] theorem Chip.setRegion_gathers (k : Nat) (x : Region) : (c.setRegion k x).gathers = c.gathers := rfl
@[simp] theorem Chip.setRegion_pistes (k : Nat) (x : Region) : (c.setRegion k x).pistes = c.pistes := rfl
@[simp] theorem Chip.setRegion_cache (k : Nat) (x : Region) : (c.setRegion k x).cache = c.cache := rfl
@[simp] theorem Chip.setRegion_journal (k : Nat) (x : Region) : (c.setRegion k x).journal = c.journal := rfl
@[simp] theorem Chip.setRegion_logs (k : Nat) (x : Region) : (c.setRegion k x).logs = c.logs := rfl
@[simp] theorem Chip.setRegion_cqi (k : Nat) (x : Region) : (c.setRegion k x).cqi = c.cqi := rfl
@[simp] theorem Chip.setRegion_host (k : Nat) (x : Region) : (c.setRegion k x).host = c.host := rfl
@[simp] theorem Chip.setRegion_dict (k : Nat) (x : Region) : (c.setRegion k x).dict = c.dict := rfl
@[simp] theorem Chip.setRegion_pair (k : Nat) (x : Region) : (c.setRegion k x).pair = c.pair := rfl
@[simp] theorem Chip.setRegion_ring (k : Nat) (x : Region) : (c.setRegion k x).ring = c.ring := rfl
@[simp] theorem Chip.setRegion_adp (k : Nat) (x : Region) : (c.setRegion k x).adp = c.adp := rfl
@[simp] theorem Chip.setRegion_power (k : Nat) (x : Region) : (c.setRegion k x).power = c.power := rfl
@[simp] theorem Chip.setRegion_faults (k : Nat) (x : Region) : (c.setRegion k x).faults = c.faults := rfl
@[simp] theorem Chip.setRegion_recorder (k : Nat) (x : Region) : (c.setRegion k x).recorder = c.recorder := rfl
@[simp] theorem Chip.setRegion_start (k : Nat) (x : Region) : (c.setRegion k x).start = c.start := rfl
@[simp] theorem Chip.setRegion_dir (k : Nat) (x : Region) : (c.setRegion k x).dir = c.dir := rfl
@[simp] theorem Chip.setRegion_out (k : Nat) (x : Region) : (c.setRegion k x).out = c.out := rfl
@[simp] theorem Chip.setRegion_draws (k : Nat) (x : Region) : (c.setRegion k x).draws = c.draws := rfl
@[simp] theorem Chip.emit_straps (o : Output) : (c.emit o).straps = c.straps := rfl
@[simp] theorem Chip.emit_clk (o : Output) : (c.emit o).clk = c.clk := rfl
@[simp] theorem Chip.emit_sched (o : Output) : (c.emit o).sched = c.sched := rfl
@[simp] theorem Chip.emit_members (o : Output) : (c.emit o).members = c.members := rfl
@[simp] theorem Chip.emit_gathers (o : Output) : (c.emit o).gathers = c.gathers := rfl
@[simp] theorem Chip.emit_pistes (o : Output) : (c.emit o).pistes = c.pistes := rfl
@[simp] theorem Chip.emit_cache (o : Output) : (c.emit o).cache = c.cache := rfl
@[simp] theorem Chip.emit_journal (o : Output) : (c.emit o).journal = c.journal := rfl
@[simp] theorem Chip.emit_logs (o : Output) : (c.emit o).logs = c.logs := rfl
@[simp] theorem Chip.emit_cqi (o : Output) : (c.emit o).cqi = c.cqi := rfl
@[simp] theorem Chip.emit_host (o : Output) : (c.emit o).host = c.host := rfl
@[simp] theorem Chip.emit_dict (o : Output) : (c.emit o).dict = c.dict := rfl
@[simp] theorem Chip.emit_pair (o : Output) : (c.emit o).pair = c.pair := rfl
@[simp] theorem Chip.emit_ring (o : Output) : (c.emit o).ring = c.ring := rfl
@[simp] theorem Chip.emit_adp (o : Output) : (c.emit o).adp = c.adp := rfl
@[simp] theorem Chip.emit_power (o : Output) : (c.emit o).power = c.power := rfl
@[simp] theorem Chip.emit_mem (o : Output) : (c.emit o).mem = c.mem := rfl
@[simp] theorem Chip.emit_faults (o : Output) : (c.emit o).faults = c.faults := rfl
@[simp] theorem Chip.emit_recorder (o : Output) : (c.emit o).recorder = c.recorder := rfl
@[simp] theorem Chip.emit_start (o : Output) : (c.emit o).start = c.start := rfl
@[simp] theorem Chip.emit_dir (o : Output) : (c.emit o).dir = c.dir := rfl
@[simp] theorem Chip.emit_out (o : Output) : (c.emit o).out = c.out ++ [o] := rfl
@[simp] theorem Chip.emit_draws (o : Output) : (c.emit o).draws = c.draws := rfl
@[simp] theorem Chip.setVal_straps (i n v : Nat) : (c.setVal i n v).straps = c.straps := rfl
@[simp] theorem Chip.setVal_clk (i n v : Nat) : (c.setVal i n v).clk = c.clk := rfl
@[simp] theorem Chip.setVal_sched (i n v : Nat) : (c.setVal i n v).sched = c.sched := rfl
@[simp] theorem Chip.setVal_members (i n v : Nat) : (c.setVal i n v).members = c.members := rfl
@[simp] theorem Chip.setVal_gathers (i n v : Nat) : (c.setVal i n v).gathers = c.gathers := rfl
@[simp] theorem Chip.setVal_pistes (i n v : Nat) : (c.setVal i n v).pistes = c.pistes := rfl
@[simp] theorem Chip.setVal_cache (i n v : Nat) : (c.setVal i n v).cache = c.cache := rfl
@[simp] theorem Chip.setVal_journal (i n v : Nat) : (c.setVal i n v).journal = c.journal := rfl
@[simp] theorem Chip.setVal_logs (i n v : Nat) : (c.setVal i n v).logs = c.logs := rfl
@[simp] theorem Chip.setVal_cqi (i n v : Nat) : (c.setVal i n v).cqi = c.cqi := rfl
@[simp] theorem Chip.setVal_host (i n v : Nat) : (c.setVal i n v).host = c.host := rfl
@[simp] theorem Chip.setVal_pair (i n v : Nat) : (c.setVal i n v).pair = c.pair := rfl
@[simp] theorem Chip.setVal_ring (i n v : Nat) : (c.setVal i n v).ring = c.ring := rfl
@[simp] theorem Chip.setVal_adp (i n v : Nat) : (c.setVal i n v).adp = c.adp := rfl
@[simp] theorem Chip.setVal_power (i n v : Nat) : (c.setVal i n v).power = c.power := rfl
@[simp] theorem Chip.setVal_mem (i n v : Nat) : (c.setVal i n v).mem = c.mem := rfl
@[simp] theorem Chip.setVal_faults (i n v : Nat) : (c.setVal i n v).faults = c.faults := rfl
@[simp] theorem Chip.setVal_recorder (i n v : Nat) : (c.setVal i n v).recorder = c.recorder := rfl
@[simp] theorem Chip.setVal_start (i n v : Nat) : (c.setVal i n v).start = c.start := rfl
@[simp] theorem Chip.setVal_dir (i n v : Nat) : (c.setVal i n v).dir = c.dir := rfl
@[simp] theorem Chip.setVal_out (i n v : Nat) : (c.setVal i n v).out = c.out := rfl
@[simp] theorem Chip.setVal_draws (i n v : Nat) : (c.setVal i n v).draws = c.draws := rfl
@[simp] theorem Chip.setOctets_straps (i n : Nat) (v : Bytes) : (c.setOctets i n v).straps = c.straps := rfl
@[simp] theorem Chip.setOctets_clk (i n : Nat) (v : Bytes) : (c.setOctets i n v).clk = c.clk := rfl
@[simp] theorem Chip.setOctets_sched (i n : Nat) (v : Bytes) : (c.setOctets i n v).sched = c.sched := rfl
@[simp] theorem Chip.setOctets_members (i n : Nat) (v : Bytes) : (c.setOctets i n v).members = c.members := rfl
@[simp] theorem Chip.setOctets_gathers (i n : Nat) (v : Bytes) : (c.setOctets i n v).gathers = c.gathers := rfl
@[simp] theorem Chip.setOctets_pistes (i n : Nat) (v : Bytes) : (c.setOctets i n v).pistes = c.pistes := rfl
@[simp] theorem Chip.setOctets_cache (i n : Nat) (v : Bytes) : (c.setOctets i n v).cache = c.cache := rfl
@[simp] theorem Chip.setOctets_journal (i n : Nat) (v : Bytes) : (c.setOctets i n v).journal = c.journal := rfl
@[simp] theorem Chip.setOctets_logs (i n : Nat) (v : Bytes) : (c.setOctets i n v).logs = c.logs := rfl
@[simp] theorem Chip.setOctets_cqi (i n : Nat) (v : Bytes) : (c.setOctets i n v).cqi = c.cqi := rfl
@[simp] theorem Chip.setOctets_host (i n : Nat) (v : Bytes) : (c.setOctets i n v).host = c.host := rfl
@[simp] theorem Chip.setOctets_pair (i n : Nat) (v : Bytes) : (c.setOctets i n v).pair = c.pair := rfl
@[simp] theorem Chip.setOctets_ring (i n : Nat) (v : Bytes) : (c.setOctets i n v).ring = c.ring := rfl
@[simp] theorem Chip.setOctets_adp (i n : Nat) (v : Bytes) : (c.setOctets i n v).adp = c.adp := rfl
@[simp] theorem Chip.setOctets_power (i n : Nat) (v : Bytes) : (c.setOctets i n v).power = c.power := rfl
@[simp] theorem Chip.setOctets_mem (i n : Nat) (v : Bytes) : (c.setOctets i n v).mem = c.mem := rfl
@[simp] theorem Chip.setOctets_faults (i n : Nat) (v : Bytes) : (c.setOctets i n v).faults = c.faults := rfl
@[simp] theorem Chip.setOctets_recorder (i n : Nat) (v : Bytes) : (c.setOctets i n v).recorder = c.recorder := rfl
@[simp] theorem Chip.setOctets_start (i n : Nat) (v : Bytes) : (c.setOctets i n v).start = c.start := rfl
@[simp] theorem Chip.setOctets_dir (i n : Nat) (v : Bytes) : (c.setOctets i n v).dir = c.dir := rfl
@[simp] theorem Chip.setOctets_out (i n : Nat) (v : Bytes) : (c.setOctets i n v).out = c.out := rfl
@[simp] theorem Chip.setOctets_draws (i n : Nat) (v : Bytes) : (c.setOctets i n v).draws = c.draws := rfl
@[simp] theorem Chip.bump_straps (i n v : Nat) : (c.bump i n v).straps = c.straps := rfl
@[simp] theorem Chip.bump_clk (i n v : Nat) : (c.bump i n v).clk = c.clk := rfl
@[simp] theorem Chip.bump_sched (i n v : Nat) : (c.bump i n v).sched = c.sched := rfl
@[simp] theorem Chip.bump_members (i n v : Nat) : (c.bump i n v).members = c.members := rfl
@[simp] theorem Chip.bump_gathers (i n v : Nat) : (c.bump i n v).gathers = c.gathers := rfl
@[simp] theorem Chip.bump_pistes (i n v : Nat) : (c.bump i n v).pistes = c.pistes := rfl
@[simp] theorem Chip.bump_cache (i n v : Nat) : (c.bump i n v).cache = c.cache := rfl
@[simp] theorem Chip.bump_journal (i n v : Nat) : (c.bump i n v).journal = c.journal := rfl
@[simp] theorem Chip.bump_logs (i n v : Nat) : (c.bump i n v).logs = c.logs := rfl
@[simp] theorem Chip.bump_cqi (i n v : Nat) : (c.bump i n v).cqi = c.cqi := rfl
@[simp] theorem Chip.bump_host (i n v : Nat) : (c.bump i n v).host = c.host := rfl
@[simp] theorem Chip.bump_pair (i n v : Nat) : (c.bump i n v).pair = c.pair := rfl
@[simp] theorem Chip.bump_ring (i n v : Nat) : (c.bump i n v).ring = c.ring := rfl
@[simp] theorem Chip.bump_adp (i n v : Nat) : (c.bump i n v).adp = c.adp := rfl
@[simp] theorem Chip.bump_power (i n v : Nat) : (c.bump i n v).power = c.power := rfl
@[simp] theorem Chip.bump_mem (i n v : Nat) : (c.bump i n v).mem = c.mem := rfl
@[simp] theorem Chip.bump_faults (i n v : Nat) : (c.bump i n v).faults = c.faults := rfl
@[simp] theorem Chip.bump_recorder (i n v : Nat) : (c.bump i n v).recorder = c.recorder := rfl
@[simp] theorem Chip.bump_start (i n v : Nat) : (c.bump i n v).start = c.start := rfl
@[simp] theorem Chip.bump_dir (i n v : Nat) : (c.bump i n v).dir = c.dir := rfl
@[simp] theorem Chip.bump_out (i n v : Nat) : (c.bump i n v).out = c.out := rfl
@[simp] theorem Chip.bump_draws (i n v : Nat) : (c.bump i n v).draws = c.draws := rfl
@[simp] theorem Chip.leadsTo_straps (d : AfterEffect) : (c.leadsTo d).straps = c.straps := rfl
@[simp] theorem Chip.leadsTo_clk (d : AfterEffect) : (c.leadsTo d).clk = c.clk := rfl
@[simp] theorem Chip.leadsTo_sched (d : AfterEffect) : (c.leadsTo d).sched = c.sched := rfl
@[simp] theorem Chip.leadsTo_members (d : AfterEffect) : (c.leadsTo d).members = c.members := rfl
@[simp] theorem Chip.leadsTo_gathers (d : AfterEffect) : (c.leadsTo d).gathers = c.gathers := rfl
@[simp] theorem Chip.leadsTo_pistes (d : AfterEffect) : (c.leadsTo d).pistes = c.pistes := rfl
@[simp] theorem Chip.leadsTo_cache (d : AfterEffect) : (c.leadsTo d).cache = c.cache := rfl
@[simp] theorem Chip.leadsTo_journal (d : AfterEffect) : (c.leadsTo d).journal = c.journal := rfl
@[simp] theorem Chip.leadsTo_logs (d : AfterEffect) : (c.leadsTo d).logs = c.logs := rfl
@[simp] theorem Chip.leadsTo_cqi (d : AfterEffect) : (c.leadsTo d).cqi = c.cqi := rfl
@[simp] theorem Chip.leadsTo_host (d : AfterEffect) : (c.leadsTo d).host = c.host := rfl
@[simp] theorem Chip.leadsTo_dict (d : AfterEffect) : (c.leadsTo d).dict = c.dict := rfl
@[simp] theorem Chip.leadsTo_pair (d : AfterEffect) : (c.leadsTo d).pair = c.pair := rfl
@[simp] theorem Chip.leadsTo_ring (d : AfterEffect) : (c.leadsTo d).ring = c.ring := rfl
@[simp] theorem Chip.leadsTo_adp (d : AfterEffect) : (c.leadsTo d).adp = c.adp := rfl
@[simp] theorem Chip.leadsTo_power (d : AfterEffect) : (c.leadsTo d).power = c.power := rfl
@[simp] theorem Chip.leadsTo_mem (d : AfterEffect) : (c.leadsTo d).mem = c.mem := rfl
@[simp] theorem Chip.leadsTo_faults (d : AfterEffect) : (c.leadsTo d).faults = c.faults := rfl
@[simp] theorem Chip.leadsTo_recorder (d : AfterEffect) : (c.leadsTo d).recorder = c.recorder := rfl
@[simp] theorem Chip.leadsTo_start (d : AfterEffect) : (c.leadsTo d).start = { c.start with due := d } := rfl
@[simp] theorem Chip.leadsTo_dir (d : AfterEffect) : (c.leadsTo d).dir = c.dir := rfl
@[simp] theorem Chip.leadsTo_out (d : AfterEffect) : (c.leadsTo d).out = c.out := rfl
@[simp] theorem Chip.leadsTo_draws (d : AfterEffect) : (c.leadsTo d).draws = c.draws := rfl
@[simp] theorem Chip.ringChanged_straps : (c.ringChanged).straps = c.straps := rfl
@[simp] theorem Chip.ringChanged_clk : (c.ringChanged).clk = c.clk := rfl
@[simp] theorem Chip.ringChanged_sched : (c.ringChanged).sched = c.sched := rfl
@[simp] theorem Chip.ringChanged_members : (c.ringChanged).members = c.members := rfl
@[simp] theorem Chip.ringChanged_gathers : (c.ringChanged).gathers = c.gathers := rfl
@[simp] theorem Chip.ringChanged_pistes : (c.ringChanged).pistes = c.pistes := rfl
@[simp] theorem Chip.ringChanged_cache : (c.ringChanged).cache = c.cache := rfl
@[simp] theorem Chip.ringChanged_journal : (c.ringChanged).journal = c.journal := rfl
@[simp] theorem Chip.ringChanged_logs : (c.ringChanged).logs = c.logs := rfl
@[simp] theorem Chip.ringChanged_cqi : (c.ringChanged).cqi = c.cqi := rfl
@[simp] theorem Chip.ringChanged_host : (c.ringChanged).host = c.host := rfl
@[simp] theorem Chip.ringChanged_dict : (c.ringChanged).dict = c.dict := rfl
@[simp] theorem Chip.ringChanged_pair : (c.ringChanged).pair = c.pair := rfl
@[simp] theorem Chip.ringChanged_adp : (c.ringChanged).adp = c.adp := rfl
@[simp] theorem Chip.ringChanged_power : (c.ringChanged).power = c.power := rfl
@[simp] theorem Chip.ringChanged_mem : (c.ringChanged).mem = c.mem := rfl
@[simp] theorem Chip.ringChanged_faults : (c.ringChanged).faults = c.faults := rfl
@[simp] theorem Chip.ringChanged_recorder : (c.ringChanged).recorder = c.recorder := rfl
@[simp] theorem Chip.ringChanged_start : (c.ringChanged).start = c.start := rfl
@[simp] theorem Chip.ringChanged_dir : (c.ringChanged).dir = c.dir := rfl
@[simp] theorem Chip.ringChanged_out : (c.ringChanged).out = c.out := rfl
@[simp] theorem Chip.ringChanged_draws : (c.ringChanged).draws = c.draws := rfl
@[simp] theorem Chip.aside_straps (f : Chip → Chip) : (c.aside f).straps = c.straps := rfl
@[simp] theorem Chip.aside_clk (f : Chip → Chip) : (c.aside f).clk = c.clk := rfl
@[simp] theorem Chip.aside_sched (f : Chip → Chip) : (c.aside f).sched = (f c).sched := rfl
@[simp] theorem Chip.aside_members (f : Chip → Chip) : (c.aside f).members = (f c).members := rfl
@[simp] theorem Chip.aside_gathers (f : Chip → Chip) : (c.aside f).gathers = (f c).gathers := rfl
@[simp] theorem Chip.aside_pistes (f : Chip → Chip) : (c.aside f).pistes = (f c).pistes := rfl
@[simp] theorem Chip.aside_cache (f : Chip → Chip) : (c.aside f).cache = (f c).cache := rfl
@[simp] theorem Chip.aside_journal (f : Chip → Chip) : (c.aside f).journal = (f c).journal := rfl
@[simp] theorem Chip.aside_logs (f : Chip → Chip) : (c.aside f).logs = (f c).logs := rfl
@[simp] theorem Chip.aside_cqi (f : Chip → Chip) : (c.aside f).cqi = (f c).cqi := rfl
@[simp] theorem Chip.aside_host (f : Chip → Chip) : (c.aside f).host = (f c).host := rfl
@[simp] theorem Chip.aside_dict (f : Chip → Chip) : (c.aside f).dict = (f c).dict := rfl
@[simp] theorem Chip.aside_pair (f : Chip → Chip) : (c.aside f).pair = (f c).pair := rfl
@[simp] theorem Chip.aside_ring (f : Chip → Chip) : (c.aside f).ring = (f c).ring := rfl
@[simp] theorem Chip.aside_adp (f : Chip → Chip) : (c.aside f).adp = (f c).adp := rfl
@[simp] theorem Chip.aside_power (f : Chip → Chip) : (c.aside f).power = (f c).power := rfl
@[simp] theorem Chip.aside_mem (f : Chip → Chip) : (c.aside f).mem = (f c).mem := rfl
@[simp] theorem Chip.aside_faults (f : Chip → Chip) : (c.aside f).faults = (f c).faults := rfl
@[simp] theorem Chip.aside_recorder (f : Chip → Chip) : (c.aside f).recorder = (f c).recorder := rfl
@[simp] theorem Chip.aside_start (f : Chip → Chip) : (c.aside f).start = (f c).start := rfl
@[simp] theorem Chip.aside_dir (f : Chip → Chip) : (c.aside f).dir = (f c).dir := rfl
@[simp] theorem Chip.aside_out (f : Chip → Chip) : (c.aside f).out = (f c).out := rfl
@[simp] theorem Chip.aside_draws (f : Chip → Chip) : (c.aside f).draws = (f c).draws := rfl

end Sys2Proof.Machine
end

