-- ==== Sys2Proof/Laws/Effect.lean ====
section
/-! SUPPORT. What the reporting of a command leaves alone: the mirror's stream, the Utofer ports and the change counts touch four
parts of the chip only, and records, events and completions touch five. -/

namespace Sys2Proof.Machine

theorem Chip.each_keeps {α β : Type} (g : Chip → β) (f : Chip → α → Chip) (h : ∀ c x, g (f c x) = g c) (l : List α) (c : Chip) :
    g (c.each l f) = g c := by
  unfold Chip.each
  induction l generalizing c with
  | nil => rfl
  | cons a r ih => rw [List.foldl_cons, ih, h]

/-! ### What the stream, the ports and the counts touch -/

/-- Everything but the ports of the ring and its count of flits without a path, the change counts of the dictionary, what leaves the chip, and the stream's number and
queue. -/
def Chip.wired (c : Chip) : Chip :=
  { c with ring := { c.ring with ports := [], msgId := 0, unrouted := 0 }, dict := { c.dict with changes := [] }, out := []
           pair := { c.pair with mirrorSeq := 0, mirrorQueue := [] } }

theorem Chip.mirrorItem_wired (c : Chip) (i : BulkItem) : (c.mirrorItem i).wired = c.wired := by
  unfold Chip.mirrorItem; split <;> rfl

theorem mirrorTables_wired (old new : Chip) : (mirrorTables old new).wired = new.wired := by
  unfold mirrorTables
  split
  · rfl
  · dsimp only
    have h1 : ∀ {α : Type} (l : List α) (f : Chip → α → Chip), (∀ c x, (f c x).wired = c.wired) → ∀ c : Chip,
        (c.each l f).wired = c.wired := fun l f h c => Chip.each_keeps Chip.wired f h l c
    have key : ∀ (b : Prop) [Decidable b] (c d : Chip) (i : BulkItem), c.wired = d.wired →
        (if b then c.mirrorItem i else c).wired = d.wired := by
      intro b _ c d i h; split <;> simp [Chip.mirrorItem_wired, h]
    apply key
    rw [h1 _ _ (fun c x => h1 _ _ (fun c x => Chip.mirrorItem_wired c _) c), h1 _ _ (fun c x => Chip.mirrorItem_wired c _),
      h1 _ _ (fun c x => Chip.mirrorItem_wired c _), h1 _ _ (fun c x => Chip.mirrorItem_wired c _),
      h1 _ _ (fun c x => Chip.mirrorItem_wired c _), h1 _ _ (fun c x => Chip.mirrorItem_wired c _)]
    refine h1 _ _ (fun c x => ?_) _
    split
    · exact Chip.mirrorItem_wired c _
    · rfl

theorem Chip.putFlit_wired (c : Chip) (p : Nat) (f : TxFlit) (n : Nat) (k : Bool) : (c.putFlit p f n k).wired = c.wired := by
  unfold Chip.putFlit; rfl

theorem Chip.queueFlits_wired (c : Chip) (p : Nat) (l : List TxFlit) : (c.queueFlits p l).wired = c.wired := by
  unfold Chip.queueFlits
  refine Chip.each_keeps Chip.wired _ (fun c x => ?_) l c
  split
  · split
    · exact Chip.putFlit_wired ..
    · rfl
  · rfl

theorem Chip.sendWire_wired (c : Chip) (w : Wire) : (c.sendWire w).wired = c.wired := by
  unfold Chip.sendWire
  dsimp only
  split
  · rfl
  · rw [Chip.each_keeps Chip.wired _ (fun c x => Chip.queueFlits_wired c x _)]
    split <;> rfl

theorem Chip.pumpPort_wired (n : Nat) (c : Chip) (p : Nat) : (Chip.pumpPort n c p).wired = c.wired := by
  induction n generalizing c with
  | zero => rfl
  | succ n ih =>
    unfold Chip.pumpPort
    dsimp only
    split
    · rfl
    · split
      · rfl
      · rw [ih, Chip.putFlit_wired]; rfl

theorem Chip.sendUtofer_wired (old new : Chip) : (Chip.sendUtofer old new).wired = new.wired := by
  unfold Chip.sendUtofer
  dsimp only
  rw [Chip.each_keeps Chip.wired _ (fun c x => Chip.pumpPort_wired _ c x), Chip.each_keeps Chip.wired _ Chip.sendWire_wired]

theorem Chip.of_wired {β : Type} (g : Chip → β) (hg : ∀ c : Chip, g c.wired = g c) {a b : Chip} (h : a.wired = b.wired) : g a = g b := by
  rw [← hg a, h, hg b]

theorem Chip.wired_aside {a b : Chip} (h : a.wired = b.wired) : ({ a with clk := b.clk, straps := b.straps } : Chip).wired = b.wired := by
  have hc : a.clk = b.clk := Chip.of_wired Chip.clk (fun _ => rfl) h
  have hs : a.straps = b.straps := Chip.of_wired Chip.straps (fun _ => rfl) h
  rw [← hc, ← hs]
  exact h

/-- What a command leaves differs from its own effect in those four places alone. -/
theorem Chip.afterCommand_wired (old new : Chip) : (Chip.afterCommand old new).wired = new.wired := by
  refine Chip.wired_aside (a := countChanges old (Chip.sendUtofer old (mirrorTables old new))) ?_
  rw [show (countChanges old (Chip.sendUtofer old (mirrorTables old new))).wired =
    (Chip.sendUtofer old (mirrorTables old new)).wired from rfl, Chip.sendUtofer_wired, mirrorTables_wired]

section
variable (old new : Chip)
@[simp] theorem Chip.afterCommand_clk : (Chip.afterCommand old new).clk = new.clk := rfl
@[simp] theorem Chip.afterCommand_straps : (Chip.afterCommand old new).straps = new.straps := rfl
@[simp] theorem Chip.afterCommand_sched : (Chip.afterCommand old new).sched = new.sched :=
  Chip.of_wired Chip.sched (fun _ => rfl) (Chip.afterCommand_wired old new)
@[simp] theorem Chip.afterCommand_members : (Chip.afterCommand old new).members = new.members :=
  Chip.of_wired Chip.members (fun _ => rfl) (Chip.afterCommand_wired old new)
@[simp] theorem Chip.afterCommand_gathers : (Chip.afterCommand old new).gathers = new.gathers :=
  Chip.of_wired Chip.gathers (fun _ => rfl) (Chip.afterCommand_wired old new)
@[simp] theorem Chip.afterCommand_pistes : (Chip.afterCommand old new).pistes = new.pistes :=
  Chip.of_wired Chip.pistes (fun _ => rfl) (Chip.afterCommand_wired old new)
@[simp] theorem Chip.afterCommand_cache : (Chip.afterCommand old new).cache = new.cache :=
  Chip.of_wired Chip.cache (fun _ => rfl) (Chip.afterCommand_wired old new)
@[simp] theorem Chip.afterCommand_journal : (Chip.afterCommand old new).journal = new.journal :=
  Chip.of_wired Chip.journal (fun _ => rfl) (Chip.afterCommand_wired old new)
@[simp] theorem Chip.afterCommand_logs : (Chip.afterCommand old new).logs = new.logs :=
  Chip.of_wired Chip.logs (fun _ => rfl) (Chip.afterCommand_wired old new)
@[simp] theorem Chip.afterCommand_cqi : (Chip.afterCommand old new).cqi = new.cqi :=
  Chip.of_wired Chip.cqi (fun _ => rfl) (Chip.afterCommand_wired old new)
@[simp] theorem Chip.afterCommand_host : (Chip.afterCommand old new).host = new.host :=
  Chip.of_wired Chip.host (fun _ => rfl) (Chip.afterCommand_wired old new)
@[simp] theorem Chip.afterCommand_adp : (Chip.afterCommand old new).adp = new.adp :=
  Chip.of_wired Chip.adp (fun _ => rfl) (Chip.afterCommand_wired old new)
@[simp] theorem Chip.afterCommand_power : (Chip.afterCommand old new).power = new.power :=
  Chip.of_wired Chip.power (fun _ => rfl) (Chip.afterCommand_wired old new)
@[simp] theorem Chip.afterCommand_mem : (Chip.afterCommand old new).mem = new.mem :=
  Chip.of_wired Chip.mem (fun _ => rfl) (Chip.afterCommand_wired old new)
@[simp] theorem Chip.afterCommand_faults : (Chip.afterCommand old new).faults = new.faults :=
  Chip.of_wired Chip.faults (fun _ => rfl) (Chip.afterCommand_wired old new)
@[simp] theorem Chip.afterCommand_recorder : (Chip.afterCommand old new).recorder = new.recorder :=
  Chip.of_wired Chip.recorder (fun _ => rfl) (Chip.afterCommand_wired old new)
@[simp] theorem Chip.afterCommand_start : (Chip.afterCommand old new).start = new.start :=
  Chip.of_wired Chip.start (fun _ => rfl) (Chip.afterCommand_wired old new)
@[simp] theorem Chip.afterCommand_dir : (Chip.afterCommand old new).dir = new.dir :=
  Chip.of_wired Chip.dir (fun _ => rfl) (Chip.afterCommand_wired old new)
@[simp] theorem Chip.afterCommand_draws : (Chip.afterCommand old new).draws = new.draws :=
  Chip.of_wired Chip.draws (fun _ => rfl) (Chip.afterCommand_wired old new)

@[simp] theorem Chip.afterCommand_values : (Chip.afterCommand old new).dict.values = new.dict.values :=
  Chip.of_wired (fun c : Chip => c.dict.values) (fun _ => rfl) (Chip.afterCommand_wired old new)
@[simp] theorem Chip.afterCommand_keys : (Chip.afterCommand old new).dict.keys = new.dict.keys :=
  Chip.of_wired (fun c : Chip => c.dict.keys) (fun _ => rfl) (Chip.afterCommand_wired old new)
@[simp] theorem Chip.afterCommand_uncommitted : (Chip.afterCommand old new).dict.uncommitted = new.dict.uncommitted :=
  Chip.of_wired (fun c : Chip => c.dict.uncommitted) (fun _ => rfl) (Chip.afterCommand_wired old new)
@[simp] theorem Chip.afterCommand_pair_role : (Chip.afterCommand old new).pair.role = new.pair.role :=
  Chip.of_wired (fun c : Chip => c.pair.role) (fun _ => rfl) (Chip.afterCommand_wired old new)
@[simp] theorem Chip.afterCommand_pair_pairId : (Chip.afterCommand old new).pair.pairId = new.pair.pairId :=
  Chip.of_wired (fun c : Chip => c.pair.pairId) (fun _ => rfl) (Chip.afterCommand_wired old new)
@[simp] theorem Chip.afterCommand_pair_epoch : (Chip.afterCommand old new).pair.epoch = new.pair.epoch :=
  Chip.of_wired (fun c : Chip => c.pair.epoch) (fun _ => rfl) (Chip.afterCommand_wired old new)
@[simp] theorem Chip.afterCommand_pair_partnerSerial : (Chip.afterCommand old new).pair.partnerSerial = new.pair.partnerSerial :=
  Chip.of_wired (fun c : Chip => c.pair.partnerSerial) (fun _ => rfl) (Chip.afterCommand_wired old new)
@[simp] theorem Chip.afterCommand_pair_sync : (Chip.afterCommand old new).pair.sync = new.pair.sync :=
  Chip.of_wired (fun c : Chip => c.pair.sync) (fun _ => rfl) (Chip.afterCommand_wired old new)
@[simp] theorem Chip.afterCommand_pair_peerSync : (Chip.afterCommand old new).pair.peerSync = new.pair.peerSync :=
  Chip.of_wired (fun c : Chip => c.pair.peerSync) (fun _ => rfl) (Chip.afterCommand_wired old new)
@[simp] theorem Chip.afterCommand_pair_formed : (Chip.afterCommand old new).pair.formed = new.pair.formed :=
  Chip.of_wired (fun c : Chip => c.pair.formed) (fun _ => rfl) (Chip.afterCommand_wired old new)
@[simp] theorem Chip.afterCommand_pair_refused : (Chip.afterCommand old new).pair.refused = new.pair.refused :=
  Chip.of_wired (fun c : Chip => c.pair.refused) (fun _ => rfl) (Chip.afterCommand_wired old new)
@[simp] theorem Chip.afterCommand_pair_lastHb : (Chip.afterCommand old new).pair.lastHb = new.pair.lastHb :=
  Chip.of_wired (fun c : Chip => c.pair.lastHb) (fun _ => rfl) (Chip.afterCommand_wired old new)
@[simp] theorem Chip.afterCommand_pair_sinceHb : (Chip.afterCommand old new).pair.sinceHb = new.pair.sinceHb :=
  Chip.of_wired (fun c : Chip => c.pair.sinceHb) (fun _ => rfl) (Chip.afterCommand_wired old new)
@[simp] theorem Chip.afterCommand_pair_silent : (Chip.afterCommand old new).pair.silent = new.pair.silent :=
  Chip.of_wired (fun c : Chip => c.pair.silent) (fun _ => rfl) (Chip.afterCommand_wired old new)
@[simp] theorem Chip.afterCommand_pair_leaseNs : (Chip.afterCommand old new).pair.leaseNs = new.pair.leaseNs :=
  Chip.of_wired (fun c : Chip => c.pair.leaseNs) (fun _ => rfl) (Chip.afterCommand_wired old new)
@[simp] theorem Chip.afterCommand_pair_pursue : (Chip.afterCommand old new).pair.pursue = new.pair.pursue :=
  Chip.of_wired (fun c : Chip => c.pair.pursue) (fun _ => rfl) (Chip.afterCommand_wired old new)
@[simp] theorem Chip.afterCommand_pair_writeStop : (Chip.afterCommand old new).pair.writeStop = new.pair.writeStop :=
  Chip.of_wired (fun c : Chip => c.pair.writeStop) (fun _ => rfl) (Chip.afterCommand_wired old new)
@[simp] theorem Chip.afterCommand_pair_soleDue : (Chip.afterCommand old new).pair.soleDue = new.pair.soleDue :=
  Chip.of_wired (fun c : Chip => c.pair.soleDue) (fun _ => rfl) (Chip.afterCommand_wired old new)
@[simp] theorem Chip.afterCommand_pair_grantNs : (Chip.afterCommand old new).pair.grantNs = new.pair.grantNs :=
  Chip.of_wired (fun c : Chip => c.pair.grantNs) (fun _ => rfl) (Chip.afterCommand_wired old new)
@[simp] theorem Chip.afterCommand_pair_takeoverNs : (Chip.afterCommand old new).pair.takeoverNs = new.pair.takeoverNs :=
  Chip.of_wired (fun c : Chip => c.pair.takeoverNs) (fun _ => rfl) (Chip.afterCommand_wired old new)
@[simp] theorem Chip.afterCommand_pair_serving : (Chip.afterCommand old new).pair.serving = new.pair.serving :=
  Chip.of_wired (fun c : Chip => c.pair.serving) (fun _ => rfl) (Chip.afterCommand_wired old new)
@[simp] theorem Chip.afterCommand_pair_handover : (Chip.afterCommand old new).pair.handover = new.pair.handover :=
  Chip.of_wired (fun c : Chip => c.pair.handover) (fun _ => rfl) (Chip.afterCommand_wired old new)
@[simp] theorem Chip.afterCommand_pair_leaving : (Chip.afterCommand old new).pair.leaving = new.pair.leaving :=
  Chip.of_wired (fun c : Chip => c.pair.leaving) (fun _ => rfl) (Chip.afterCommand_wired old new)
@[simp] theorem Chip.afterCommand_pair_mirrorAcc : (Chip.afterCommand old new).pair.mirrorAcc = new.pair.mirrorAcc :=
  Chip.of_wired (fun c : Chip => c.pair.mirrorAcc) (fun _ => rfl) (Chip.afterCommand_wired old new)
@[simp] theorem Chip.afterCommand_pair_recvSeq : (Chip.afterCommand old new).pair.recvSeq = new.pair.recvSeq :=
  Chip.of_wired (fun c : Chip => c.pair.recvSeq) (fun _ => rfl) (Chip.afterCommand_wired old new)
@[simp] theorem Chip.afterCommand_pair_toldSeq : (Chip.afterCommand old new).pair.toldSeq = new.pair.toldSeq :=
  Chip.of_wired (fun c : Chip => c.pair.toldSeq) (fun _ => rfl) (Chip.afterCommand_wired old new)
@[simp] theorem Chip.afterCommand_pair_bulkEnded : (Chip.afterCommand old new).pair.bulkEnded = new.pair.bulkEnded :=
  Chip.of_wired (fun c : Chip => c.pair.bulkEnded) (fun _ => rfl) (Chip.afterCommand_wired old new)
@[simp] theorem Chip.afterCommand_pair_watchNs : (Chip.afterCommand old new).pair.watchNs = new.pair.watchNs :=
  Chip.of_wired (fun c : Chip => c.pair.watchNs) (fun _ => rfl) (Chip.afterCommand_wired old new)
@[simp] theorem Chip.afterCommand_pair_watchHbNs : (Chip.afterCommand old new).pair.watchHbNs = new.pair.watchHbNs :=
  Chip.of_wired (fun c : Chip => c.pair.watchHbNs) (fun _ => rfl) (Chip.afterCommand_wired old new)
@[simp] theorem Chip.afterCommand_pair_judges : (Chip.afterCommand old new).pair.judges = new.pair.judges :=
  Chip.of_wired (fun c : Chip => c.pair.judges) (fun _ => rfl) (Chip.afterCommand_wired old new)
@[simp] theorem Chip.afterCommand_ring_rstate : (Chip.afterCommand old new).ring.rstate = new.ring.rstate :=
  Chip.of_wired (fun c : Chip => c.ring.rstate) (fun _ => rfl) (Chip.afterCommand_wired old new)
@[simp] theorem Chip.afterCommand_ring_nodes : (Chip.afterCommand old new).ring.nodes = new.ring.nodes :=
  Chip.of_wired (fun c : Chip => c.ring.nodes) (fun _ => rfl) (Chip.afterCommand_wired old new)
@[simp] theorem Chip.afterCommand_ring_members : (Chip.afterCommand old new).ring.members = new.ring.members :=
  Chip.of_wired (fun c : Chip => c.ring.members) (fun _ => rfl) (Chip.afterCommand_wired old new)
@[simp] theorem Chip.afterCommand_ring_refused : (Chip.afterCommand old new).ring.refused = new.ring.refused :=
  Chip.of_wired (fun c : Chip => c.ring.refused) (fun _ => rfl) (Chip.afterCommand_wired old new)
@[simp] theorem Chip.afterCommand_ring_twice : (Chip.afterCommand old new).ring.twice = new.ring.twice :=
  Chip.of_wired (fun c : Chip => c.ring.twice) (fun _ => rfl) (Chip.afterCommand_wired old new)
@[simp] theorem Chip.afterCommand_ring_span : (Chip.afterCommand old new).ring.span = new.ring.span :=
  Chip.of_wired (fun c : Chip => c.ring.span) (fun _ => rfl) (Chip.afterCommand_wired old new)
@[simp] theorem Chip.afterCommand_ring_aliases : (Chip.afterCommand old new).ring.aliases = new.ring.aliases :=
  Chip.of_wired (fun c : Chip => c.ring.aliases) (fun _ => rfl) (Chip.afterCommand_wired old new)
@[simp] theorem Chip.afterCommand_ring_claims : (Chip.afterCommand old new).ring.claims = new.ring.claims :=
  Chip.of_wired (fun c : Chip => c.ring.claims) (fun _ => rfl) (Chip.afterCommand_wired old new)
@[simp] theorem Chip.afterCommand_ring_checks : (Chip.afterCommand old new).ring.checks = new.ring.checks :=
  Chip.of_wired (fun c : Chip => c.ring.checks) (fun _ => rfl) (Chip.afterCommand_wired old new)
@[simp] theorem Chip.afterCommand_ring_reads : (Chip.afterCommand old new).ring.reads = new.ring.reads :=
  Chip.of_wired (fun c : Chip => c.ring.reads) (fun _ => rfl) (Chip.afterCommand_wired old new)
@[simp] theorem Chip.afterCommand_ring_rosterDue : (Chip.afterCommand old new).ring.rosterDue = new.ring.rosterDue :=
  Chip.of_wired (fun c : Chip => c.ring.rosterDue) (fun _ => rfl) (Chip.afterCommand_wired old new)
@[simp] theorem Chip.afterCommand_ring_stale : (Chip.afterCommand old new).ring.stale = new.ring.stale :=
  Chip.of_wired (fun c : Chip => c.ring.stale) (fun _ => rfl) (Chip.afterCommand_wired old new)
@[simp] theorem Chip.afterCommand_log : (Chip.afterCommand old new).dict.log = new.dict.log :=
  Chip.of_wired (fun c : Chip => c.dict.log) (fun _ => rfl) (Chip.afterCommand_wired old new)
@[simp] theorem Chip.afterCommand_rights : (Chip.afterCommand old new).dict.rights = new.dict.rights :=
  Chip.of_wired (fun c : Chip => c.dict.rights) (fun _ => rfl) (Chip.afterCommand_wired old new)
end

end Sys2Proof.Machine
end

