-- ==== Sys2Proof/Laws/Sent.lean ====
section
/-! SUPPORT. What has left the chip stays: the reporting of a command only adds to it. -/

namespace Sys2Proof.Machine

theorem Chip.each_sent {α : Type} (f : Chip → α → Chip) (h : ∀ c x, c.out <+: (f c x).out) (l : List α) (c : Chip) :
    c.out <+: (c.each l f).out := by
  unfold Chip.each
  induction l generalizing c with
  | nil => exact List.prefix_rfl
  | cons a r ih => exact (h c a).trans (ih (f c a))

theorem Chip.putFlit_sent (c : Chip) (p : Nat) (f : TxFlit) (n : Nat) (k : Bool) : c.out <+: (c.putFlit p f n k).out :=
  List.prefix_append ..

theorem Chip.queueFlits_sent (c : Chip) (p : Nat) (l : List TxFlit) : c.out <+: (c.queueFlits p l).out := by
  unfold Chip.queueFlits
  refine Chip.each_sent _ (fun c x => ?_) l c
  split
  · split
    · exact Chip.putFlit_sent ..
    · exact List.prefix_rfl
  · exact List.prefix_rfl

theorem Chip.sendWire_sent (c : Chip) (w : Wire) : c.out <+: (c.sendWire w).out := by
  unfold Chip.sendWire
  dsimp only
  split
  · exact List.prefix_append ..
  · refine List.IsPrefix.trans ?_ (Chip.each_sent _ (fun c x => Chip.queueFlits_sent c x _) _ _)
    split <;> exact List.prefix_rfl

theorem Chip.pumpPort_sent (n : Nat) (c : Chip) (p : Nat) : c.out <+: (Chip.pumpPort n c p).out := by
  induction n generalizing c with
  | zero => exact List.prefix_rfl
  | succ n ih =>
    unfold Chip.pumpPort
    dsimp only
    split
    · exact List.prefix_rfl
    · split
      · exact List.prefix_rfl
      · refine List.IsPrefix.trans ?_ (ih _)
        exact Chip.putFlit_sent (c.setPort p _) ..

theorem Chip.mirrorItem_out (c : Chip) (i : BulkItem) : (c.mirrorItem i).out = c.out := by
  unfold Chip.mirrorItem; split <;> rfl

theorem mirrorTables_out (old new : Chip) : (mirrorTables old new).out = new.out := by
  unfold mirrorTables
  split
  · rfl
  · dsimp only
    have h1 : ∀ {α : Type} (l : List α) (f : Chip → α → Chip), (∀ c x, (f c x).out = c.out) → ∀ c : Chip,
        (c.each l f).out = c.out := fun l f h c => Chip.each_keeps Chip.out f h l c
    have key : ∀ (b : Prop) [Decidable b] (c d : Chip) (i : BulkItem), c.out = d.out →
        (if b then c.mirrorItem i else c).out = d.out := by
      intro b _ c d i h; split <;> simp [Chip.mirrorItem_out, h]
    apply key
    rw [h1 _ _ (fun c x => h1 _ _ (fun c x => Chip.mirrorItem_out c _) c), h1 _ _ (fun c x => Chip.mirrorItem_out c _),
      h1 _ _ (fun c x => Chip.mirrorItem_out c _), h1 _ _ (fun c x => Chip.mirrorItem_out c _),
      h1 _ _ (fun c x => Chip.mirrorItem_out c _), h1 _ _ (fun c x => Chip.mirrorItem_out c _)]
    refine h1 _ _ (fun c x => ?_) _
    split
    · exact Chip.mirrorItem_out c _
    · rfl

/-- What a command's own effect has sent is among what has left the chip. -/
theorem Chip.afterCommand_sent (old new : Chip) : new.out <+: (Chip.afterCommand old new).out := by
  have h := mirrorTables_out old new
  show new.out <+: (Chip.sendUtofer old (mirrorTables old new)).out
  rw [← h]
  unfold Chip.sendUtofer
  dsimp only
  exact (Chip.each_sent _ Chip.sendWire_sent _ _).trans (Chip.each_sent _ (fun c x => Chip.pumpPort_sent _ c x) _ _)

theorem Chip.afterCommand_mem_out (old new : Chip) (o : Output) (h : o ∈ new.out) : o ∈ (Chip.afterCommand old new).out :=
  (Chip.afterCommand_sent old new).subset h

end Sys2Proof.Machine
end

