-- ==== Sys2Proof/Laws/Left.lean ====
section
/-! SUPPORT. What the state a command leaves holds, part by part: its own effect, but for the change counts, the ports of the ring, what
has left the chip and the mirror stream; and for a command outside the clock's families the stride clock and the straps as they stood. -/

namespace Sys2Proof.Machine

section
variable (s : State) (c : Chip)
@[simp] theorem State.leaves_pending : (s.leaves c).pending = s.pending := rfl
@[simp] theorem State.left_pending : (s.left c).pending = s.pending := rfl
@[simp] theorem State.leaves_clk : (s.leaves c).clk = c.clk := rfl
@[simp] theorem State.left_clk : (s.left c).clk = s.clk := rfl
@[simp] theorem State.leaves_straps : (s.leaves c).straps = c.straps := rfl
@[simp] theorem State.left_straps : (s.left c).straps = s.straps := rfl
@[simp] theorem State.leaves_sched : (s.leaves c).sched = c.sched := Chip.afterCommand_sched ..
@[simp] theorem State.left_sched : (s.left c).sched = c.sched := Chip.afterCommand_sched ..
@[simp] theorem State.leaves_members : (s.leaves c).members = c.members := Chip.afterCommand_members ..
@[simp] theorem State.left_members : (s.left c).members = c.members := Chip.afterCommand_members ..
@[simp] theorem State.leaves_gathers : (s.leaves c).gathers = c.gathers := Chip.afterCommand_gathers ..
@[simp] theorem State.left_gathers : (s.left c).gathers = c.gathers := Chip.afterCommand_gathers ..
@[simp] theorem State.leaves_pistes : (s.leaves c).pistes = c.pistes := Chip.afterCommand_pistes ..
@[simp] theorem State.left_pistes : (s.left c).pistes = c.pistes := Chip.afterCommand_pistes ..
@[simp] theorem State.leaves_cache : (s.leaves c).cache = c.cache := Chip.afterCommand_cache ..
@[simp] theorem State.left_cache : (s.left c).cache = c.cache := Chip.afterCommand_cache ..
@[simp] theorem State.leaves_journal : (s.leaves c).journal = c.journal := Chip.afterCommand_journal ..
@[simp] theorem State.left_journal : (s.left c).journal = c.journal := Chip.afterCommand_journal ..
@[simp] theorem State.leaves_logs : (s.leaves c).logs = c.logs := Chip.afterCommand_logs ..
@[simp] theorem State.left_logs : (s.left c).logs = c.logs := Chip.afterCommand_logs ..
@[simp] theorem State.leaves_cqi : (s.leaves c).cqi = c.cqi := Chip.afterCommand_cqi ..
@[simp] theorem State.left_cqi : (s.left c).cqi = c.cqi := Chip.afterCommand_cqi ..
@[simp] theorem State.leaves_host : (s.leaves c).host = c.host := Chip.afterCommand_host ..
@[simp] theorem State.left_host : (s.left c).host = c.host := Chip.afterCommand_host ..
@[simp] theorem State.leaves_adp : (s.leaves c).adp = c.adp := Chip.afterCommand_adp ..
@[simp] theorem State.left_adp : (s.left c).adp = c.adp := Chip.afterCommand_adp ..
@[simp] theorem State.leaves_power : (s.leaves c).power = c.power := Chip.afterCommand_power ..
@[simp] theorem State.left_power : (s.left c).power = c.power := Chip.afterCommand_power ..
@[simp] theorem State.leaves_mem : (s.leaves c).mem = c.mem := Chip.afterCommand_mem ..
@[simp] theorem State.left_mem : (s.left c).mem = c.mem := Chip.afterCommand_mem ..
@[simp] theorem State.leaves_faults : (s.leaves c).faults = c.faults := Chip.afterCommand_faults ..
@[simp] theorem State.left_faults : (s.left c).faults = c.faults := Chip.afterCommand_faults ..
@[simp] theorem State.leaves_recorder : (s.leaves c).recorder = c.recorder := Chip.afterCommand_recorder ..
@[simp] theorem State.left_recorder : (s.left c).recorder = c.recorder := Chip.afterCommand_recorder ..
@[simp] theorem State.leaves_start : (s.leaves c).start = c.start := Chip.afterCommand_start ..
@[simp] theorem State.left_start : (s.left c).start = c.start := Chip.afterCommand_start ..
@[simp] theorem State.leaves_dir : (s.leaves c).dir = c.dir := Chip.afterCommand_dir ..
@[simp] theorem State.left_dir : (s.left c).dir = c.dir := Chip.afterCommand_dir ..
@[simp] theorem State.leaves_draws : (s.leaves c).draws = c.draws := Chip.afterCommand_draws ..
@[simp] theorem State.left_draws : (s.left c).draws = c.draws := Chip.afterCommand_draws ..
@[simp] theorem State.leaves_values : (s.leaves c).dict.values = c.dict.values := Chip.afterCommand_values ..
@[simp] theorem State.left_values : (s.left c).dict.values = c.dict.values := Chip.afterCommand_values ..
@[simp] theorem State.leaves_keys : (s.leaves c).dict.keys = c.dict.keys := Chip.afterCommand_keys ..
@[simp] theorem State.left_keys : (s.left c).dict.keys = c.dict.keys := Chip.afterCommand_keys ..
@[simp] theorem State.leaves_uncommitted : (s.leaves c).dict.uncommitted = c.dict.uncommitted := Chip.afterCommand_uncommitted ..
@[simp] theorem State.left_uncommitted : (s.left c).dict.uncommitted = c.dict.uncommitted := Chip.afterCommand_uncommitted ..
@[simp] theorem State.leaves_pair_role : (s.leaves c).pair.role = c.pair.role := Chip.afterCommand_pair_role ..
@[simp] theorem State.left_pair_role : (s.left c).pair.role = c.pair.role := Chip.afterCommand_pair_role ..
@[simp] theorem State.leaves_pair_pairId : (s.leaves c).pair.pairId = c.pair.pairId := Chip.afterCommand_pair_pairId ..
@[simp] theorem State.left_pair_pairId : (s.left c).pair.pairId = c.pair.pairId := Chip.afterCommand_pair_pairId ..
@[simp] theorem State.leaves_pair_epoch : (s.leaves c).pair.epoch = c.pair.epoch := Chip.afterCommand_pair_epoch ..
@[simp] theorem State.left_pair_epoch : (s.left c).pair.epoch = c.pair.epoch := Chip.afterCommand_pair_epoch ..
@[simp] theorem State.leaves_pair_partnerSerial : (s.leaves c).pair.partnerSerial = c.pair.partnerSerial := Chip.afterCommand_pair_partnerSerial ..
@[simp] theorem State.left_pair_partnerSerial : (s.left c).pair.partnerSerial = c.pair.partnerSerial := Chip.afterCommand_pair_partnerSerial ..
@[simp] theorem State.leaves_pair_sync : (s.leaves c).pair.sync = c.pair.sync := Chip.afterCommand_pair_sync ..
@[simp] theorem State.left_pair_sync : (s.left c).pair.sync = c.pair.sync := Chip.afterCommand_pair_sync ..
@[simp] theorem State.leaves_pair_peerSync : (s.leaves c).pair.peerSync = c.pair.peerSync := Chip.afterCommand_pair_peerSync ..
@[simp] theorem State.left_pair_peerSync : (s.left c).pair.peerSync = c.pair.peerSync := Chip.afterCommand_pair_peerSync ..
@[simp] theorem State.leaves_pair_formed : (s.leaves c).pair.formed = c.pair.formed := Chip.afterCommand_pair_formed ..
@[simp] theorem State.left_pair_formed : (s.left c).pair.formed = c.pair.formed := Chip.afterCommand_pair_formed ..
@[simp] theorem State.leaves_pair_refused : (s.leaves c).pair.refused = c.pair.refused := Chip.afterCommand_pair_refused ..
@[simp] theorem State.left_pair_refused : (s.left c).pair.refused = c.pair.refused := Chip.afterCommand_pair_refused ..
@[simp] theorem State.leaves_pair_lastHb : (s.leaves c).pair.lastHb = c.pair.lastHb := Chip.afterCommand_pair_lastHb ..
@[simp] theorem State.left_pair_lastHb : (s.left c).pair.lastHb = c.pair.lastHb := Chip.afterCommand_pair_lastHb ..
@[simp] theorem State.leaves_pair_sinceHb : (s.leaves c).pair.sinceHb = c.pair.sinceHb := Chip.afterCommand_pair_sinceHb ..
@[simp] theorem State.left_pair_sinceHb : (s.left c).pair.sinceHb = c.pair.sinceHb := Chip.afterCommand_pair_sinceHb ..
@[simp] theorem State.leaves_pair_silent : (s.leaves c).pair.silent = c.pair.silent := Chip.afterCommand_pair_silent ..
@[simp] theorem State.left_pair_silent : (s.left c).pair.silent = c.pair.silent := Chip.afterCommand_pair_silent ..
@[simp] theorem State.leaves_pair_leaseNs : (s.leaves c).pair.leaseNs = c.pair.leaseNs := Chip.afterCommand_pair_leaseNs ..
@[simp] theorem State.left_pair_leaseNs : (s.left c).pair.leaseNs = c.pair.leaseNs := Chip.afterCommand_pair_leaseNs ..
@[simp] theorem State.leaves_pair_pursue : (s.leaves c).pair.pursue = c.pair.pursue := Chip.afterCommand_pair_pursue ..
@[simp] theorem State.left_pair_pursue : (s.left c).pair.pursue = c.pair.pursue := Chip.afterCommand_pair_pursue ..
@[simp] theorem State.leaves_pair_writeStop : (s.leaves c).pair.writeStop = c.pair.writeStop := Chip.afterCommand_pair_writeStop ..
@[simp] theorem State.left_pair_writeStop : (s.left c).pair.writeStop = c.pair.writeStop := Chip.afterCommand_pair_writeStop ..
@[simp] theorem State.leaves_pair_soleDue : (s.leaves c).pair.soleDue = c.pair.soleDue := Chip.afterCommand_pair_soleDue ..
@[simp] theorem State.left_pair_soleDue : (s.left c).pair.soleDue = c.pair.soleDue := Chip.afterCommand_pair_soleDue ..
@[simp] theorem State.leaves_pair_grantNs : (s.leaves c).pair.grantNs = c.pair.grantNs := Chip.afterCommand_pair_grantNs ..
@[simp] theorem State.left_pair_grantNs : (s.left c).pair.grantNs = c.pair.grantNs := Chip.afterCommand_pair_grantNs ..
@[simp] theorem State.leaves_pair_takeoverNs : (s.leaves c).pair.takeoverNs = c.pair.takeoverNs := Chip.afterCommand_pair_takeoverNs ..
@[simp] theorem State.left_pair_takeoverNs : (s.left c).pair.takeoverNs = c.pair.takeoverNs := Chip.afterCommand_pair_takeoverNs ..
@[simp] theorem State.leaves_pair_serving : (s.leaves c).pair.serving = c.pair.serving := Chip.afterCommand_pair_serving ..
@[simp] theorem State.left_pair_serving : (s.left c).pair.serving = c.pair.serving := Chip.afterCommand_pair_serving ..
@[simp] theorem State.leaves_pair_handover : (s.leaves c).pair.handover = c.pair.handover := Chip.afterCommand_pair_handover ..
@[simp] theorem State.left_pair_handover : (s.left c).pair.handover = c.pair.handover := Chip.afterCommand_pair_handover ..
@[simp] theorem State.leaves_pair_leaving : (s.leaves c).pair.leaving = c.pair.leaving := Chip.afterCommand_pair_leaving ..
@[simp] theorem State.left_pair_leaving : (s.left c).pair.leaving = c.pair.leaving := Chip.afterCommand_pair_leaving ..
@[simp] theorem State.leaves_pair_mirrorAcc : (s.leaves c).pair.mirrorAcc = c.pair.mirrorAcc := Chip.afterCommand_pair_mirrorAcc ..
@[simp] theorem State.left_pair_mirrorAcc : (s.left c).pair.mirrorAcc = c.pair.mirrorAcc := Chip.afterCommand_pair_mirrorAcc ..
@[simp] theorem State.leaves_pair_recvSeq : (s.leaves c).pair.recvSeq = c.pair.recvSeq := Chip.afterCommand_pair_recvSeq ..
@[simp] theorem State.left_pair_recvSeq : (s.left c).pair.recvSeq = c.pair.recvSeq := Chip.afterCommand_pair_recvSeq ..
@[simp] theorem State.leaves_pair_toldSeq : (s.leaves c).pair.toldSeq = c.pair.toldSeq := Chip.afterCommand_pair_toldSeq ..
@[simp] theorem State.left_pair_toldSeq : (s.left c).pair.toldSeq = c.pair.toldSeq := Chip.afterCommand_pair_toldSeq ..
@[simp] theorem State.leaves_pair_bulkEnded : (s.leaves c).pair.bulkEnded = c.pair.bulkEnded := Chip.afterCommand_pair_bulkEnded ..
@[simp] theorem State.left_pair_bulkEnded : (s.left c).pair.bulkEnded = c.pair.bulkEnded := Chip.afterCommand_pair_bulkEnded ..
@[simp] theorem State.leaves_pair_watchNs : (s.leaves c).pair.watchNs = c.pair.watchNs := Chip.afterCommand_pair_watchNs ..
@[simp] theorem State.left_pair_watchNs : (s.left c).pair.watchNs = c.pair.watchNs := Chip.afterCommand_pair_watchNs ..
@[simp] theorem State.leaves_pair_watchHbNs : (s.leaves c).pair.watchHbNs = c.pair.watchHbNs := Chip.afterCommand_pair_watchHbNs ..
@[simp] theorem State.left_pair_watchHbNs : (s.left c).pair.watchHbNs = c.pair.watchHbNs := Chip.afterCommand_pair_watchHbNs ..
@[simp] theorem State.leaves_pair_judges : (s.leaves c).pair.judges = c.pair.judges := Chip.afterCommand_pair_judges ..
@[simp] theorem State.left_pair_judges : (s.left c).pair.judges = c.pair.judges := Chip.afterCommand_pair_judges ..
@[simp] theorem State.leaves_ring_rstate : (s.leaves c).ring.rstate = c.ring.rstate := Chip.afterCommand_ring_rstate ..
@[simp] theorem State.left_ring_rstate : (s.left c).ring.rstate = c.ring.rstate := Chip.afterCommand_ring_rstate ..
@[simp] theorem State.leaves_ring_nodes : (s.leaves c).ring.nodes = c.ring.nodes := Chip.afterCommand_ring_nodes ..
@[simp] theorem State.left_ring_nodes : (s.left c).ring.nodes = c.ring.nodes := Chip.afterCommand_ring_nodes ..
@[simp] theorem State.leaves_ring_members : (s.leaves c).ring.members = c.ring.members := Chip.afterCommand_ring_members ..
@[simp] theorem State.left_ring_members : (s.left c).ring.members = c.ring.members := Chip.afterCommand_ring_members ..
@[simp] theorem State.leaves_ring_refused : (s.leaves c).ring.refused = c.ring.refused := Chip.afterCommand_ring_refused ..
@[simp] theorem State.left_ring_refused : (s.left c).ring.refused = c.ring.refused := Chip.afterCommand_ring_refused ..
@[simp] theorem State.leaves_ring_twice : (s.leaves c).ring.twice = c.ring.twice := Chip.afterCommand_ring_twice ..
@[simp] theorem State.left_ring_twice : (s.left c).ring.twice = c.ring.twice := Chip.afterCommand_ring_twice ..
@[simp] theorem State.leaves_ring_span : (s.leaves c).ring.span = c.ring.span := Chip.afterCommand_ring_span ..
@[simp] theorem State.left_ring_span : (s.left c).ring.span = c.ring.span := Chip.afterCommand_ring_span ..
@[simp] theorem State.leaves_ring_aliases : (s.leaves c).ring.aliases = c.ring.aliases := Chip.afterCommand_ring_aliases ..
@[simp] theorem State.left_ring_aliases : (s.left c).ring.aliases = c.ring.aliases := Chip.afterCommand_ring_aliases ..
@[simp] theorem State.leaves_ring_claims : (s.leaves c).ring.claims = c.ring.claims := Chip.afterCommand_ring_claims ..
@[simp] theorem State.left_ring_claims : (s.left c).ring.claims = c.ring.claims := Chip.afterCommand_ring_claims ..
@[simp] theorem State.leaves_ring_checks : (s.leaves c).ring.checks = c.ring.checks := Chip.afterCommand_ring_checks ..
@[simp] theorem State.left_ring_checks : (s.left c).ring.checks = c.ring.checks := Chip.afterCommand_ring_checks ..
@[simp] theorem State.leaves_ring_reads : (s.leaves c).ring.reads = c.ring.reads := Chip.afterCommand_ring_reads ..
@[simp] theorem State.left_ring_reads : (s.left c).ring.reads = c.ring.reads := Chip.afterCommand_ring_reads ..
@[simp] theorem State.leaves_ring_rosterDue : (s.leaves c).ring.rosterDue = c.ring.rosterDue := Chip.afterCommand_ring_rosterDue ..
@[simp] theorem State.left_ring_rosterDue : (s.left c).ring.rosterDue = c.ring.rosterDue := Chip.afterCommand_ring_rosterDue ..
@[simp] theorem State.leaves_ring_stale : (s.leaves c).ring.stale = c.ring.stale := Chip.afterCommand_ring_stale ..
@[simp] theorem State.left_ring_stale : (s.left c).ring.stale = c.ring.stale := Chip.afterCommand_ring_stale ..
@[simp] theorem State.leaves_log : (s.leaves c).dict.log = c.dict.log := Chip.afterCommand_log ..
@[simp] theorem State.left_log : (s.left c).dict.log = c.dict.log := Chip.afterCommand_log ..
@[simp] theorem State.leaves_rights : (s.leaves c).dict.rights = c.dict.rights := Chip.afterCommand_rights ..
@[simp] theorem State.left_rights : (s.left c).dict.rights = c.dict.rights := Chip.afterCommand_rights ..
end

/-- A command outside the clock's families goes on, and leaves its own effect. -/
theorem State.effect_left (s : State) (f : Chip → Chip) : s.effect f = .next (s.left (f s.toChip)) := rfl

/-- A command of the clock's families goes on, and leaves its own effect. -/
theorem State.clockEffect_leaves (s : State) (f : Chip → Chip) : s.clockEffect f = .next (s.leaves (f s.toChip)) := rfl

/-- A command of the ring goes on, and leaves its own effect, the ring settled. -/
theorem State.ringEffect_left (s : State) (f : Chip → Chip) : s.ringEffect f = .next (s.ringLeft (f s.toChip)) := rfl

/-- A command that may lead to a reset goes on, and leaves its own effect, the ring settled and the reset performed. -/
theorem State.resetEffect_left (s : State) (f : Chip → Chip) : s.resetEffect f = .next (s.resetLeft (f s.toChip)) := rfl

end Sys2Proof.Machine
end

