-- ==== Sys2Proof/Laws/Exec.lean ====
section
/-! SUPPORT. What any command can do, said once: it goes on, it keeps the waiting commands, and outside the clock's families it has an
effect that leaves the stride clock and the straps as they stand. -/

namespace Sys2Proof.Machine

/-- A command outside the clock's families is an effect. -/
theorem exec_effect (i : Instr) (s : State) (h : movesClock i = false) : ∃ f, exec i s = s.effect f := by
  cases i <;> first
    | exact absurd h Bool.noConfusion
    | exact ⟨_, rfl⟩

/-- Every command is an effect of the clock's form. -/
theorem exec_clockEffect (i : Instr) (s : State) : ∃ f, exec i s = s.clockEffect f := by
  by_cases h : movesClock i = true
  · have ring : ∀ (o : Host.Outcome State Fault Refusal) (f : Chip → Chip), o = s.ringEffect f → ∃ g, o = s.clockEffect g :=
      fun _ f e => ⟨fun c => (c.aside f).ringSettle, e⟩
    have reset : ∀ (o : Host.Outcome State Fault Refusal) (f : Chip → Chip), o = s.resetEffect f → ∃ g, o = s.clockEffect g :=
      fun _ f e => ⟨fun c => ((c.aside f).ringSettle).resetSettle, e⟩
    cases i <;> first | exact Bool.noConfusion h | clear h
    case ringHb => exact ring _ _ rfl
    case ringMemberLost => exact ring _ _ rfl
    case echoReply => exact ring _ _ rfl
    case hello => exact ring _ _ rfl
    case roster => exact ring _ _ rfl
    case nodeAlias => exact ring _ _ rfl
    case utoferLinkUp => exact ring _ _ rfl
    case pLinkUp => exact ring _ _ rfl
    case utoferRecoveryTimeout => exact ring _ _ rfl
    case coldPowerOn => exact reset _ _ rfl
    case resetNAssert => exact reset _ _ rfl
    case resetNRelease => exact reset _ _ rfl
    case unitReset => exact reset _ _ rfl
    case unitResetMsg => exact reset _ _ rfl
    case railFault => exact reset _ _ rfl
    case vinReset => exact reset _ _ rfl
    case vinResetRelease => exact reset _ _ rfl
    case vaultInputRecovered => exact reset _ _ rfl
    case dictWrite => exact reset _ _ rfl
    case windowWrite => exact reset _ _ rfl
    case mailboxWrite => exact reset _ _ rfl
    case adpWrite => exact reset _ _ rfl
    case pairWrite => exact reset _ _ rfl
    case dictWriteOther => exact reset _ _ rfl
    case strideBoundary x => exact ⟨fun c => c.strideBoundary x, rfl⟩
    case lapBoundary x => exact ⟨fun c => c.lapBoundary x, rfl⟩
    case timebaseUnlock => exact ⟨fun c => c.timebaseUnlock.ringUpdate, rfl⟩
    case timebaseRelock => exact ⟨fun c => c.timebaseRelock.ringUpdate, rfl⟩
    case marker p m a => exact ⟨fun c => (c.timeMarker p m a).aside Chip.noteLocked, rfl⟩
    case markerLoss => exact ⟨fun c => c.onClk Clock.markerLoss, rfl⟩
    case holdoverExpiry => exact ⟨fun c => c.onClk Clock.holdoverExpiry, rfl⟩
    case pacerElection => exact ⟨fun c => c.pacerElection.aside Chip.noteLocked, rfl⟩
    case slotPowerGroup => exact ⟨fun c => c.groupTime.aside Chip.powerGroup, rfl⟩
    case firmwareStart => exact ⟨Chip.firmwareStart, rfl⟩
  · obtain ⟨f, e⟩ := exec_effect i s (by simpa using h)
    exact ⟨_, e⟩

/-- Every command goes on and keeps the waiting commands. -/
theorem exec_pending (i : Instr) (s : State) : ∃ c, exec i s = .next (s.leaves c) := by
  obtain ⟨f, e⟩ := exec_clockEffect i s
  exact ⟨_, e⟩

end Sys2Proof.Machine
end

