-- ==== Sys2Proof/Laws/Maps.lean ====
section
/-! SUPPORT. The basic laws of the sorted association lists: reading after writing, and the canonical form every operation keeps. -/

namespace Sys2Proof.Machine

variable {β : Type}

theorem KMap.find_put_same (m : KMap β) (k : Nat) (v : β) : KMap.find (KMap.put m k v) k = some v := by
  induction m with
  | nil => simp [KMap.put, KMap.find]
  | cons p r ih =>
    obtain ⟨a, b⟩ := p
    simp only [KMap.put]
    split
    · simp [KMap.find]
    · split <;> simp_all [KMap.find]

theorem KMap.find_put_other (m : KMap β) (k j : Nat) (v : β) (h : j ≠ k) : KMap.find (KMap.put m k v) j = KMap.find m j := by
  induction m with
  | nil => simp [KMap.put, KMap.find, Ne.symm h]
  | cons p r ih =>
    obtain ⟨a, b⟩ := p
    simp only [KMap.put]
    split
    · simp [KMap.find, Ne.symm h]
    · split
      · next h1 => subst h1; simp [KMap.find, Ne.symm h]
      · simp [KMap.find, ih]

@[simp] theorem KMap.getD_put_same (m : KMap β) (k : Nat) (v d : β) : KMap.getD (KMap.put m k v) k d = v := by
  simp [KMap.getD, KMap.find_put_same]

theorem KMap.getD_put_other (m : KMap β) (k j : Nat) (v d : β) (h : j ≠ k) : KMap.getD (KMap.put m k v) j d = KMap.getD m j d := by
  simp [KMap.getD, KMap.find_put_other m k j v h]

theorem KMap.find_drop_other (m : KMap β) (k j : Nat) (h : j ≠ k) : KMap.find (KMap.drop m k) j = KMap.find m j := by
  induction m with
  | nil => rfl
  | cons p r ih =>
    obtain ⟨a, b⟩ := p
    simp only [KMap.drop]
    split
    · next h1 => subst h1; simp [KMap.find, Ne.symm h, ih]
    · simp [KMap.find, ih]

theorem KMap.find_drop_same (m : KMap β) (k : Nat) : KMap.find (KMap.drop m k) k = none := by
  induction m with
  | nil => rfl
  | cons p r ih =>
    obtain ⟨a, b⟩ := p
    simp only [KMap.drop]
    split
    · exact ih
    · next h1 => simp [KMap.find, h1, ih]

/-- A stored value is read back. -/
theorem KMap.getD_store_same [DecidableEq β] (m : KMap β) (k : Nat) (v d : β) : KMap.getD (KMap.store m k v d) k d = v := by
  unfold KMap.store
  split
  · rename_i h; unfold KMap.getD; rw [KMap.find_drop_same]; exact h.symm
  · exact KMap.getD_put_same _ _ _ _

/-- Storing leaves every other key's value. -/
theorem KMap.getD_store_other [DecidableEq β] (m : KMap β) (k j : Nat) (v d : β) (h : j ≠ k) :
    KMap.getD (KMap.store m k v d) j d = KMap.getD m j d := by
  unfold KMap.store
  split
  · unfold KMap.getD; rw [KMap.find_drop_other _ _ _ h]
  · exact KMap.getD_put_other _ _ _ _ _ h

/-- The canonical form as a statement about every pair of neighbours. -/
theorem KMap.wf_iff_pairwise (m : KMap β) : KMap.wf m = true ↔ m.Pairwise (fun p q => p.1 < q.1) := by
  induction m with
  | nil => simp [KMap.wf]
  | cons p r ih =>
    cases r with
    | nil => simp [KMap.wf]
    | cons q r =>
      rw [KMap.wf, Bool.and_eq_true, decide_eq_true_iff, ih, List.pairwise_cons (a := p)]
      constructor
      · rintro ⟨h, hr⟩
        refine ⟨?_, hr⟩
        intro x hx
        rcases List.mem_cons.mp hx with rfl | hx
        · exact h
        · exact lt_trans h ((List.pairwise_cons.mp hr).1 x hx)
      · rintro ⟨h, hr⟩
        exact ⟨h q (by simp), hr⟩

end Sys2Proof.Machine
end

