-- ==== Sys2Proof/Laws/Quiet.lean ====
section
/-! SUPPORT. Records, change-log records, events, completions, counters and what is sent touch the queue interface, the dictionary, the
recorder, the mirror's stream and what has left the chip, and nothing else. -/

namespace Sys2Proof.Machine

/-- The chip without the parts that reporting touches. -/
def Chip.quiet (c : Chip) : Chip :=
  { c with cqi := Cqi.reset, dict := Dict.reset, recorder := Recorder.reset, out := []
           pair := { c.pair with mirrorSeq := 0, mirrorQueue := [] } }

theorem Chip.of_quiet {β : Type} (g : Chip → β) (hg : ∀ c : Chip, g c.quiet = g c) {a b : Chip} (h : a.quiet = b.quiet) : g a = g b := by
  rw [← hg a, h, hg b]

theorem Chip.each_quiet {α : Type} (f : Chip → α → Chip) (h : ∀ c x, (f c x).quiet = c.quiet) (l : List α) (c : Chip) :
    (c.each l f).quiet = c.quiet := Chip.each_keeps Chip.quiet f h l c

section
variable (c : Chip)
@[simp] theorem Chip.onCqi_quiet (f : Cqi → Cqi) : (c.onCqi f).quiet = c.quiet := rfl
@[simp] theorem Chip.onDict_quiet (f : Dict → Dict) : (c.onDict f).quiet = c.quiet := rfl
@[simp] theorem Chip.onRec_quiet (f : Recorder → Recorder) : (c.onRec f).quiet = c.quiet := rfl
@[simp] theorem Chip.emit_quiet (o : Output) : (c.emit o).quiet = c.quiet := rfl
@[simp] theorem Chip.setVal_quiet (i n v : Nat) : (c.setVal i n v).quiet = c.quiet := rfl
@[simp] theorem Chip.bump_quiet (i n v : Nat) : (c.bump i n v).quiet = c.quiet := rfl
@[simp] theorem Chip.updQueue_quiet (q : Nat) (f : QueuePair → QueuePair) : (c.updQueue q f).quiet = c.quiet := rfl
@[simp] theorem Chip.setQueue_quiet (q : Nat) (x : QueuePair) : (c.setQueue q x).quiet = c.quiet := rfl
@[simp] theorem Chip.updDeferred_quiet (n : Nat) (f : Deferred → Deferred) : (c.updDeferred n f).quiet = c.quiet := rfl
@[simp] theorem Chip.mirrorSend_quiet (i : BulkItem) : (c.mirrorSend i).1.quiet = c.quiet := rfl
@[simp] theorem Chip.storeRecord_quiet (r : Rec) : (c.storeRecord r).quiet = c.quiet := rfl
@[simp] theorem Chip.suppressRecord_quiet (n : Nat) : (c.suppressRecord n).quiet = c.quiet := rfl
end

@[simp] theorem Chip.record_quiet (c : Chip) (code : Nat) (named : Option Nat) (body : Bytes) :
    (c.record code named body).quiet = c.quiet := by
  simp only [Chip.record, apply_ite Chip.quiet, Chip.storeRecord_quiet, Chip.onRec_quiet, Chip.suppressRecord_quiet, ite_self]

@[simp] theorem Chip.logNew_quiet (c : Chip) (x : ChangeRec) : (c.logNew x).quiet = c.quiet := by
  rw [Chip.logNew, Chip.record_quiet, Chip.onDict_quiet]

@[simp] theorem Chip.logAgain_quiet (c : Chip) (r : ChangeRec) : (c.logAgain r).quiet = c.quiet := by
  rw [Chip.logAgain, Chip.onDict_quiet]

@[simp] theorem Chip.logChange_quiet (c : Chip) (index sub : Nat) (w : Writer) (reason detail old new : Nat) (secret : Bool) :
    (c.logChange index sub w reason detail old new secret).quiet = c.quiet := by
  have h : (if reason = 0 then c else c.onDict (fun d => { d with refused := d.refused + 1 })).quiet = c.quiet := by
    rw [apply_ite Chip.quiet, Chip.onDict_quiet, ite_self]
  rw [← h]
  unfold Chip.logChange
  dsimp only
  split
  · simp only [apply_ite Chip.quiet, Chip.logNew_quiet, Chip.logAgain_quiet, ite_self]
  · simp only [apply_ite Chip.quiet, Chip.logNew_quiet]

@[simp] theorem Chip.hostWriteFuel_quiet (n : Nat) (c : Chip) (a : Nat) (b : Bytes) (r : Bool) :
    (Chip.hostWriteFuel n c a b r).quiet = c.quiet := by
  induction n generalizing c a b with
  | zero => rfl
  | succ n ih =>
    unfold Chip.hostWriteFuel
    split
    · rfl
    · simp [ih]

@[simp] theorem Chip.hostWrite_quiet (c : Chip) (a : Nat) (b : Bytes) (r : Bool) : (c.hostWrite a b r).quiet = c.quiet :=
  Chip.hostWriteFuel_quiet ..

@[simp] theorem Chip.hostWrites_quiet (c : Chip) (l : List (Nat × Bytes)) (r : Bool) :
    (c.each l (fun c w => c.hostWrite w.1 w.2 r)).quiet = c.quiet := Chip.each_quiet _ (fun _ _ => Chip.hostWrite_quiet ..) _ _

@[simp] theorem Chip.postEntry_quiet (c : Chip) (e : CqEntry) : (c.postEntry e).quiet = c.quiet := by
  unfold Chip.postEntry
  dsimp only
  repeat' split
  all_goals simp

@[simp] theorem Chip.awaitMark_quiet (c : Chip) (l : List CqEntry) (e : CqEntry) : (c.awaitMark l e).2.quiet = c.quiet := by
  unfold Chip.awaitMark
  dsimp only
  repeat' split
  all_goals simp

@[simp] theorem Chip.pump_quiet (c : Chip) : c.pump.quiet = c.quiet := by
  unfold Chip.pump
  have h : ∀ (k l : List CqEntry) (a : Chip × List Nat), (l.foldl (fun (a : Chip × List Nat) e =>
      if e.ring ∈ a.2 then (a.1.onCqi (fun k => { k with held := k.held ++ [e] }), a.2)
      else if a.1.canPost e.ring then
        let w := a.1.awaitMark k e
        if w.1 then (w.2.onCqi (fun k => { k with held := k.held ++ [e] }), e.ring :: a.2) else (w.2.postEntry e, a.2)
      else (a.1.onCqi (fun k => { k with held := k.held ++ [e] }), e.ring :: a.2)) a).1.quiet = a.1.quiet := by
    intro k l
    induction l with
    | nil => intro a; rfl
    | cons x r ih =>
      intro a
      rw [List.foldl_cons, ih]
      dsimp only
      repeat' split
      all_goals simp
  exact h _ _ _

@[simp] theorem Chip.queueEvent_quiet (c : Chip) (code result : Nat) (h : Option Nat) (r : Option (Nat × Bytes)) :
    (c.queueEvent code result h r).quiet = c.quiet := by
  unfold Chip.queueEvent
  dsimp only
  split <;> simp

@[simp] theorem Chip.flushHeld_quiet (c : Chip) : c.flushHeld.quiet = c.quiet := by
  unfold Chip.flushHeld Chip.reportDrops
  split <;> simp

@[simp] theorem Chip.event_quiet (c : Chip) (code result : Nat) : (c.event code result).quiet = c.quiet := by
  unfold Chip.event; simp

@[simp] theorem Chip.complete_quiet (c : Chip) (queue cid acc status result : Nat) (p : Option Nat) (data : List (Nat × Bytes)) :
    (c.complete queue cid acc status result p data).quiet = c.quiet := by
  unfold Chip.complete; simp

@[simp] theorem Chip.memberEvent_quiet (c : Chip) (slot code extra : Nat) : (c.memberEvent slot code extra).quiet = c.quiet := by
  unfold Chip.memberEvent; simp

@[simp] theorem Chip.deferError_quiet (c : Chip) (p kind first count source : Nat) :
    (c.deferError p kind first count source).quiet = c.quiet := by
  unfold Chip.deferError
  dsimp only
  split <;> simp

/-! ### The parts each of them leaves -/

section
variable (c : Chip)
@[simp] theorem Chip.record_straps (code : Nat) (named : Option Nat) (body : Bytes) : (c.record code named body).straps = c.straps :=
  Chip.of_quiet Chip.straps (fun _ => rfl) (by simp)
@[simp] theorem Chip.record_clk (code : Nat) (named : Option Nat) (body : Bytes) : (c.record code named body).clk = c.clk :=
  Chip.of_quiet Chip.clk (fun _ => rfl) (by simp)
@[simp] theorem Chip.record_sched (code : Nat) (named : Option Nat) (body : Bytes) : (c.record code named body).sched = c.sched :=
  Chip.of_quiet Chip.sched (fun _ => rfl) (by simp)
@[simp] theorem Chip.record_members (code : Nat) (named : Option Nat) (body : Bytes) : (c.record code named body).members = c.members :=
  Chip.of_quiet Chip.members (fun _ => rfl) (by simp)
@[simp] theorem Chip.record_gathers (code : Nat) (named : Option Nat) (body : Bytes) : (c.record code named body).gathers = c.gathers :=
  Chip.of_quiet Chip.gathers (fun _ => rfl) (by simp)
@[simp] theorem Chip.record_pistes (code : Nat) (named : Option Nat) (body : Bytes) : (c.record code named body).pistes = c.pistes :=
  Chip.of_quiet Chip.pistes (fun _ => rfl) (by simp)
@[simp] theorem Chip.record_cache (code : Nat) (named : Option Nat) (body : Bytes) : (c.record code named body).cache = c.cache :=
  Chip.of_quiet Chip.cache (fun _ => rfl) (by simp)
@[simp] theorem Chip.record_journal (code : Nat) (named : Option Nat) (body : Bytes) : (c.record code named body).journal = c.journal :=
  Chip.of_quiet Chip.journal (fun _ => rfl) (by simp)
@[simp] theorem Chip.record_logs (code : Nat) (named : Option Nat) (body : Bytes) : (c.record code named body).logs = c.logs :=
  Chip.of_quiet Chip.logs (fun _ => rfl) (by simp)
@[simp] theorem Chip.record_host (code : Nat) (named : Option Nat) (body : Bytes) : (c.record code named body).host = c.host :=
  Chip.of_quiet Chip.host (fun _ => rfl) (by simp)
@[simp] theorem Chip.record_ring (code : Nat) (named : Option Nat) (body : Bytes) : (c.record code named body).ring = c.ring :=
  Chip.of_quiet Chip.ring (fun _ => rfl) (by simp)
@[simp] theorem Chip.record_adp (code : Nat) (named : Option Nat) (body : Bytes) : (c.record code named body).adp = c.adp :=
  Chip.of_quiet Chip.adp (fun _ => rfl) (by simp)
@[simp] theorem Chip.record_power (code : Nat) (named : Option Nat) (body : Bytes) : (c.record code named body).power = c.power :=
  Chip.of_quiet Chip.power (fun _ => rfl) (by simp)
@[simp] theorem Chip.record_mem (code : Nat) (named : Option Nat) (body : Bytes) : (c.record code named body).mem = c.mem :=
  Chip.of_quiet Chip.mem (fun _ => rfl) (by simp)
@[simp] theorem Chip.record_faults (code : Nat) (named : Option Nat) (body : Bytes) : (c.record code named body).faults = c.faults :=
  Chip.of_quiet Chip.faults (fun _ => rfl) (by simp)
@[simp] theorem Chip.record_start (code : Nat) (named : Option Nat) (body : Bytes) : (c.record code named body).start = c.start :=
  Chip.of_quiet Chip.start (fun _ => rfl) (by simp)
@[simp] theorem Chip.record_dir (code : Nat) (named : Option Nat) (body : Bytes) : (c.record code named body).dir = c.dir :=
  Chip.of_quiet Chip.dir (fun _ => rfl) (by simp)
@[simp] theorem Chip.record_draws (code : Nat) (named : Option Nat) (body : Bytes) : (c.record code named body).draws = c.draws :=
  Chip.of_quiet Chip.draws (fun _ => rfl) (by simp)
@[simp] theorem Chip.logChange_straps (index sub : Nat) (w : Writer) (reason detail old new : Nat) (secret : Bool) : (c.logChange index sub w reason detail old new secret).straps = c.straps :=
  Chip.of_quiet Chip.straps (fun _ => rfl) (by simp)
@[simp] theorem Chip.logChange_clk (index sub : Nat) (w : Writer) (reason detail old new : Nat) (secret : Bool) : (c.logChange index sub w reason detail old new secret).clk = c.clk :=
  Chip.of_quiet Chip.clk (fun _ => rfl) (by simp)
@[simp] theorem Chip.logChange_sched (index sub : Nat) (w : Writer) (reason detail old new : Nat) (secret : Bool) : (c.logChange index sub w reason detail old new secret).sched = c.sched :=
  Chip.of_quiet Chip.sched (fun _ => rfl) (by simp)
@[simp] theorem Chip.logChange_members (index sub : Nat) (w : Writer) (reason detail old new : Nat) (secret : Bool) : (c.logChange index sub w reason detail old new secret).members = c.members :=
  Chip.of_quiet Chip.members (fun _ => rfl) (by simp)
@[simp] theorem Chip.logChange_gathers (index sub : Nat) (w : Writer) (reason detail old new : Nat) (secret : Bool) : (c.logChange index sub w reason detail old new secret).gathers = c.gathers :=
  Chip.of_quiet Chip.gathers (fun _ => rfl) (by simp)
@[simp] theorem Chip.logChange_pistes (index sub : Nat) (w : Writer) (reason detail old new : Nat) (secret : Bool) : (c.logChange index sub w reason detail old new secret).pistes = c.pistes :=
  Chip.of_quiet Chip.pistes (fun _ => rfl) (by simp)
@[simp] theorem Chip.logChange_cache (index sub : Nat) (w : Writer) (reason detail old new : Nat) (secret : Bool) : (c.logChange index sub w reason detail old new secret).cache = c.cache :=
  Chip.of_quiet Chip.cache (fun _ => rfl) (by simp)
@[simp] theorem Chip.logChange_journal (index sub : Nat) (w : Writer) (reason detail old new : Nat) (secret : Bool) : (c.logChange index sub w reason detail old new secret).journal = c.journal :=
  Chip.of_quiet Chip.journal (fun _ => rfl) (by simp)
@[simp] theorem Chip.logChange_logs (index sub : Nat) (w : Writer) (reason detail old new : Nat) (secret : Bool) : (c.logChange index sub w reason detail old new secret).logs = c.logs :=
  Chip.of_quiet Chip.logs (fun _ => rfl) (by simp)
@[simp] theorem Chip.logChange_host (index sub : Nat) (w : Writer) (reason detail old new : Nat) (secret : Bool) : (c.logChange index sub w reason detail old new secret).host = c.host :=
  Chip.of_quiet Chip.host (fun _ => rfl) (by simp)
@[simp] theorem Chip.logChange_ring (index sub : Nat) (w : Writer) (reason detail old new : Nat) (secret : Bool) : (c.logChange index sub w reason detail old new secret).ring = c.ring :=
  Chip.of_quiet Chip.ring (fun _ => rfl) (by simp)
@[simp] theorem Chip.logChange_adp (index sub : Nat) (w : Writer) (reason detail old new : Nat) (secret : Bool) : (c.logChange index sub w reason detail old new secret).adp = c.adp :=
  Chip.of_quiet Chip.adp (fun _ => rfl) (by simp)
@[simp] theorem Chip.logChange_power (index sub : Nat) (w : Writer) (reason detail old new : Nat) (secret : Bool) : (c.logChange index sub w reason detail old new secret).power = c.power :=
  Chip.of_quiet Chip.power (fun _ => rfl) (by simp)
@[simp] theorem Chip.logChange_mem (index sub : Nat) (w : Writer) (reason detail old new : Nat) (secret : Bool) : (c.logChange index sub w reason detail old new secret).mem = c.mem :=
  Chip.of_quiet Chip.mem (fun _ => rfl) (by simp)
@[simp] theorem Chip.logChange_faults (index sub : Nat) (w : Writer) (reason detail old new : Nat) (secret : Bool) : (c.logChange index sub w reason detail old new secret).faults = c.faults :=
  Chip.of_quiet Chip.faults (fun _ => rfl) (by simp)
@[simp] theorem Chip.logChange_start (index sub : Nat) (w : Writer) (reason detail old new : Nat) (secret : Bool) : (c.logChange index sub w reason detail old new secret).start = c.start :=
  Chip.of_quiet Chip.start (fun _ => rfl) (by simp)
@[simp] theorem Chip.logChange_dir (index sub : Nat) (w : Writer) (reason detail old new : Nat) (secret : Bool) : (c.logChange index sub w reason detail old new secret).dir = c.dir :=
  Chip.of_quiet Chip.dir (fun _ => rfl) (by simp)
@[simp] theorem Chip.logChange_draws (index sub : Nat) (w : Writer) (reason detail old new : Nat) (secret : Bool) : (c.logChange index sub w reason detail old new secret).draws = c.draws :=
  Chip.of_quiet Chip.draws (fun _ => rfl) (by simp)
@[simp] theorem Chip.event_straps (code result : Nat) : (c.event code result).straps = c.straps :=
  Chip.of_quiet Chip.straps (fun _ => rfl) (by simp)
@[simp] theorem Chip.event_clk (code result : Nat) : (c.event code result).clk = c.clk :=
  Chip.of_quiet Chip.clk (fun _ => rfl) (by simp)
@[simp] theorem Chip.event_sched (code result : Nat) : (c.event code result).sched = c.sched :=
  Chip.of_quiet Chip.sched (fun _ => rfl) (by simp)
@[simp] theorem Chip.event_members (code result : Nat) : (c.event code result).members = c.members :=
  Chip.of_quiet Chip.members (fun _ => rfl) (by simp)
@[simp] theorem Chip.event_gathers (code result : Nat) : (c.event code result).gathers = c.gathers :=
  Chip.of_quiet Chip.gathers (fun _ => rfl) (by simp)
@[simp] theorem Chip.event_pistes (code result : Nat) : (c.event code result).pistes = c.pistes :=
  Chip.of_quiet Chip.pistes (fun _ => rfl) (by simp)
@[simp] theorem Chip.event_cache (code result : Nat) : (c.event code result).cache = c.cache :=
  Chip.of_quiet Chip.cache (fun _ => rfl) (by simp)
@[simp] theorem Chip.event_journal (code result : Nat) : (c.event code result).journal = c.journal :=
  Chip.of_quiet Chip.journal (fun _ => rfl) (by simp)
@[simp] theorem Chip.event_logs (code result : Nat) : (c.event code result).logs = c.logs :=
  Chip.of_quiet Chip.logs (fun _ => rfl) (by simp)
@[simp] theorem Chip.event_host (code result : Nat) : (c.event code result).host = c.host :=
  Chip.of_quiet Chip.host (fun _ => rfl) (by simp)
@[simp] theorem Chip.event_ring (code result : Nat) : (c.event code result).ring = c.ring :=
  Chip.of_quiet Chip.ring (fun _ => rfl) (by simp)
@[simp] theorem Chip.event_adp (code result : Nat) : (c.event code result).adp = c.adp :=
  Chip.of_quiet Chip.adp (fun _ => rfl) (by simp)
@[simp] theorem Chip.event_power (code result : Nat) : (c.event code result).power = c.power :=
  Chip.of_quiet Chip.power (fun _ => rfl) (by simp)
@[simp] theorem Chip.event_mem (code result : Nat) : (c.event code result).mem = c.mem :=
  Chip.of_quiet Chip.mem (fun _ => rfl) (by simp)
@[simp] theorem Chip.event_faults (code result : Nat) : (c.event code result).faults = c.faults :=
  Chip.of_quiet Chip.faults (fun _ => rfl) (by simp)
@[simp] theorem Chip.event_start (code result : Nat) : (c.event code result).start = c.start :=
  Chip.of_quiet Chip.start (fun _ => rfl) (by simp)
@[simp] theorem Chip.event_dir (code result : Nat) : (c.event code result).dir = c.dir :=
  Chip.of_quiet Chip.dir (fun _ => rfl) (by simp)
@[simp] theorem Chip.event_draws (code result : Nat) : (c.event code result).draws = c.draws :=
  Chip.of_quiet Chip.draws (fun _ => rfl) (by simp)
@[simp] theorem Chip.flushHeld_straps : c.flushHeld.straps = c.straps :=
  Chip.of_quiet Chip.straps (fun _ => rfl) (by simp)
@[simp] theorem Chip.flushHeld_clk : c.flushHeld.clk = c.clk :=
  Chip.of_quiet Chip.clk (fun _ => rfl) (by simp)
@[simp] theorem Chip.flushHeld_sched : c.flushHeld.sched = c.sched :=
  Chip.of_quiet Chip.sched (fun _ => rfl) (by simp)
@[simp] theorem Chip.flushHeld_members : c.flushHeld.members = c.members :=
  Chip.of_quiet Chip.members (fun _ => rfl) (by simp)
@[simp] theorem Chip.flushHeld_gathers : c.flushHeld.gathers = c.gathers :=
  Chip.of_quiet Chip.gathers (fun _ => rfl) (by simp)
@[simp] theorem Chip.flushHeld_pistes : c.flushHeld.pistes = c.pistes :=
  Chip.of_quiet Chip.pistes (fun _ => rfl) (by simp)
@[simp] theorem Chip.flushHeld_cache : c.flushHeld.cache = c.cache :=
  Chip.of_quiet Chip.cache (fun _ => rfl) (by simp)
@[simp] theorem Chip.flushHeld_journal : c.flushHeld.journal = c.journal :=
  Chip.of_quiet Chip.journal (fun _ => rfl) (by simp)
@[simp] theorem Chip.flushHeld_logs : c.flushHeld.logs = c.logs :=
  Chip.of_quiet Chip.logs (fun _ => rfl) (by simp)
@[simp] theorem Chip.flushHeld_host : c.flushHeld.host = c.host :=
  Chip.of_quiet Chip.host (fun _ => rfl) (by simp)
@[simp] theorem Chip.flushHeld_ring : c.flushHeld.ring = c.ring :=
  Chip.of_quiet Chip.ring (fun _ => rfl) (by simp)
@[simp] theorem Chip.flushHeld_adp : c.flushHeld.adp = c.adp :=
  Chip.of_quiet Chip.adp (fun _ => rfl) (by simp)
@[simp] theorem Chip.flushHeld_power : c.flushHeld.power = c.power :=
  Chip.of_quiet Chip.power (fun _ => rfl) (by simp)
@[simp] theorem Chip.flushHeld_mem : c.flushHeld.mem = c.mem :=
  Chip.of_quiet Chip.mem (fun _ => rfl) (by simp)
@[simp] theorem Chip.flushHeld_faults : c.flushHeld.faults = c.faults :=
  Chip.of_quiet Chip.faults (fun _ => rfl) (by simp)
@[simp] theorem Chip.flushHeld_start : c.flushHeld.start = c.start :=
  Chip.of_quiet Chip.start (fun _ => rfl) (by simp)
@[simp] theorem Chip.flushHeld_dir : c.flushHeld.dir = c.dir :=
  Chip.of_quiet Chip.dir (fun _ => rfl) (by simp)
@[simp] theorem Chip.flushHeld_draws : c.flushHeld.draws = c.draws :=
  Chip.of_quiet Chip.draws (fun _ => rfl) (by simp)
@[simp] theorem Chip.hostWrite_straps (a : Nat) (b : Bytes) (r : Bool) : (c.hostWrite a b r).straps = c.straps :=
  Chip.of_quiet Chip.straps (fun _ => rfl) (by simp)
@[simp] theorem Chip.hostWrite_clk (a : Nat) (b : Bytes) (r : Bool) : (c.hostWrite a b r).clk = c.clk :=
  Chip.of_quiet Chip.clk (fun _ => rfl) (by simp)
@[simp] theorem Chip.hostWrite_sched (a : Nat) (b : Bytes) (r : Bool) : (c.hostWrite a b r).sched = c.sched :=
  Chip.of_quiet Chip.sched (fun _ => rfl) (by simp)
@[simp] theorem Chip.hostWrite_members (a : Nat) (b : Bytes) (r : Bool) : (c.hostWrite a b r).members = c.members :=
  Chip.of_quiet Chip.members (fun _ => rfl) (by simp)
@[simp] theorem Chip.hostWrite_gathers (a : Nat) (b : Bytes) (r : Bool) : (c.hostWrite a b r).gathers = c.gathers :=
  Chip.of_quiet Chip.gathers (fun _ => rfl) (by simp)
@[simp] theorem Chip.hostWrite_pistes (a : Nat) (b : Bytes) (r : Bool) : (c.hostWrite a b r).pistes = c.pistes :=
  Chip.of_quiet Chip.pistes (fun _ => rfl) (by simp)
@[simp] theorem Chip.hostWrite_cache (a : Nat) (b : Bytes) (r : Bool) : (c.hostWrite a b r).cache = c.cache :=
  Chip.of_quiet Chip.cache (fun _ => rfl) (by simp)
@[simp] theorem Chip.hostWrite_journal (a : Nat) (b : Bytes) (r : Bool) : (c.hostWrite a b r).journal = c.journal :=
  Chip.of_quiet Chip.journal (fun _ => rfl) (by simp)
@[simp] theorem Chip.hostWrite_logs (a : Nat) (b : Bytes) (r : Bool) : (c.hostWrite a b r).logs = c.logs :=
  Chip.of_quiet Chip.logs (fun _ => rfl) (by simp)
@[simp] theorem Chip.hostWrite_host (a : Nat) (b : Bytes) (r : Bool) : (c.hostWrite a b r).host = c.host :=
  Chip.of_quiet Chip.host (fun _ => rfl) (by simp)
@[simp] theorem Chip.hostWrite_ring (a : Nat) (b : Bytes) (r : Bool) : (c.hostWrite a b r).ring = c.ring :=
  Chip.of_quiet Chip.ring (fun _ => rfl) (by simp)
@[simp] theorem Chip.hostWrite_adp (a : Nat) (b : Bytes) (r : Bool) : (c.hostWrite a b r).adp = c.adp :=
  Chip.of_quiet Chip.adp (fun _ => rfl) (by simp)
@[simp] theorem Chip.hostWrite_power (a : Nat) (b : Bytes) (r : Bool) : (c.hostWrite a b r).power = c.power :=
  Chip.of_quiet Chip.power (fun _ => rfl) (by simp)
@[simp] theorem Chip.hostWrite_mem (a : Nat) (b : Bytes) (r : Bool) : (c.hostWrite a b r).mem = c.mem :=
  Chip.of_quiet Chip.mem (fun _ => rfl) (by simp)
@[simp] theorem Chip.hostWrite_faults (a : Nat) (b : Bytes) (r : Bool) : (c.hostWrite a b r).faults = c.faults :=
  Chip.of_quiet Chip.faults (fun _ => rfl) (by simp)
@[simp] theorem Chip.hostWrite_start (a : Nat) (b : Bytes) (r : Bool) : (c.hostWrite a b r).start = c.start :=
  Chip.of_quiet Chip.start (fun _ => rfl) (by simp)
@[simp] theorem Chip.hostWrite_dir (a : Nat) (b : Bytes) (r : Bool) : (c.hostWrite a b r).dir = c.dir :=
  Chip.of_quiet Chip.dir (fun _ => rfl) (by simp)
@[simp] theorem Chip.hostWrite_draws (a : Nat) (b : Bytes) (r : Bool) : (c.hostWrite a b r).draws = c.draws :=
  Chip.of_quiet Chip.draws (fun _ => rfl) (by simp)
@[simp] theorem Chip.complete_straps (queue cid acc status result : Nat) (p : Option Nat) (data : List (Nat × Bytes)) : (c.complete queue cid acc status result p data).straps = c.straps :=
  Chip.of_quiet Chip.straps (fun _ => rfl) (by simp)
@[simp] theorem Chip.complete_clk (queue cid acc status result : Nat) (p : Option Nat) (data : List (Nat × Bytes)) : (c.complete queue cid acc status result p data).clk = c.clk :=
  Chip.of_quiet Chip.clk (fun _ => rfl) (by simp)
@[simp] theorem Chip.complete_sched (queue cid acc status result : Nat) (p : Option Nat) (data : List (Nat × Bytes)) : (c.complete queue cid acc status result p data).sched = c.sched :=
  Chip.of_quiet Chip.sched (fun _ => rfl) (by simp)
@[simp] theorem Chip.complete_members (queue cid acc status result : Nat) (p : Option Nat) (data : List (Nat × Bytes)) : (c.complete queue cid acc status result p data).members = c.members :=
  Chip.of_quiet Chip.members (fun _ => rfl) (by simp)
@[simp] theorem Chip.complete_gathers (queue cid acc status result : Nat) (p : Option Nat) (data : List (Nat × Bytes)) : (c.complete queue cid acc status result p data).gathers = c.gathers :=
  Chip.of_quiet Chip.gathers (fun _ => rfl) (by simp)
@[simp] theorem Chip.complete_pistes (queue cid acc status result : Nat) (p : Option Nat) (data : List (Nat × Bytes)) : (c.complete queue cid acc status result p data).pistes = c.pistes :=
  Chip.of_quiet Chip.pistes (fun _ => rfl) (by simp)
@[simp] theorem Chip.complete_cache (queue cid acc status result : Nat) (p : Option Nat) (data : List (Nat × Bytes)) : (c.complete queue cid acc status result p data).cache = c.cache :=
  Chip.of_quiet Chip.cache (fun _ => rfl) (by simp)
@[simp] theorem Chip.complete_journal (queue cid acc status result : Nat) (p : Option Nat) (data : List (Nat × Bytes)) : (c.complete queue cid acc status result p data).journal = c.journal :=
  Chip.of_quiet Chip.journal (fun _ => rfl) (by simp)
@[simp] theorem Chip.complete_logs (queue cid acc status result : Nat) (p : Option Nat) (data : List (Nat × Bytes)) : (c.complete queue cid acc status result p data).logs = c.logs :=
  Chip.of_quiet Chip.logs (fun _ => rfl) (by simp)
@[simp] theorem Chip.complete_host (queue cid acc status result : Nat) (p : Option Nat) (data : List (Nat × Bytes)) : (c.complete queue cid acc status result p data).host = c.host :=
  Chip.of_quiet Chip.host (fun _ => rfl) (by simp)
@[simp] theorem Chip.complete_ring (queue cid acc status result : Nat) (p : Option Nat) (data : List (Nat × Bytes)) : (c.complete queue cid acc status result p data).ring = c.ring :=
  Chip.of_quiet Chip.ring (fun _ => rfl) (by simp)
@[simp] theorem Chip.complete_adp (queue cid acc status result : Nat) (p : Option Nat) (data : List (Nat × Bytes)) : (c.complete queue cid acc status result p data).adp = c.adp :=
  Chip.of_quiet Chip.adp (fun _ => rfl) (by simp)
@[simp] theorem Chip.complete_power (queue cid acc status result : Nat) (p : Option Nat) (data : List (Nat × Bytes)) : (c.complete queue cid acc status result p data).power = c.power :=
  Chip.of_quiet Chip.power (fun _ => rfl) (by simp)
@[simp] theorem Chip.complete_mem (queue cid acc status result : Nat) (p : Option Nat) (data : List (Nat × Bytes)) : (c.complete queue cid acc status result p data).mem = c.mem :=
  Chip.of_quiet Chip.mem (fun _ => rfl) (by simp)
@[simp] theorem Chip.complete_faults (queue cid acc status result : Nat) (p : Option Nat) (data : List (Nat × Bytes)) : (c.complete queue cid acc status result p data).faults = c.faults :=
  Chip.of_quiet Chip.faults (fun _ => rfl) (by simp)
@[simp] theorem Chip.complete_start (queue cid acc status result : Nat) (p : Option Nat) (data : List (Nat × Bytes)) : (c.complete queue cid acc status result p data).start = c.start :=
  Chip.of_quiet Chip.start (fun _ => rfl) (by simp)
@[simp] theorem Chip.complete_dir (queue cid acc status result : Nat) (p : Option Nat) (data : List (Nat × Bytes)) : (c.complete queue cid acc status result p data).dir = c.dir :=
  Chip.of_quiet Chip.dir (fun _ => rfl) (by simp)
@[simp] theorem Chip.complete_draws (queue cid acc status result : Nat) (p : Option Nat) (data : List (Nat × Bytes)) : (c.complete queue cid acc status result p data).draws = c.draws :=
  Chip.of_quiet Chip.draws (fun _ => rfl) (by simp)
@[simp] theorem Chip.memberEvent_straps (slot code extra : Nat) : (c.memberEvent slot code extra).straps = c.straps :=
  Chip.of_quiet Chip.straps (fun _ => rfl) (by simp)
@[simp] theorem Chip.memberEvent_clk (slot code extra : Nat) : (c.memberEvent slot code extra).clk = c.clk :=
  Chip.of_quiet Chip.clk (fun _ => rfl) (by simp)
@[simp] theorem Chip.memberEvent_sched (slot code extra : Nat) : (c.memberEvent slot code extra).sched = c.sched :=
  Chip.of_quiet Chip.sched (fun _ => rfl) (by simp)
@[simp] theorem Chip.memberEvent_members (slot code extra : Nat) : (c.memberEvent slot code extra).members = c.members :=
  Chip.of_quiet Chip.members (fun _ => rfl) (by simp)
@[simp] theorem Chip.memberEvent_gathers (slot code extra : Nat) : (c.memberEvent slot code extra).gathers = c.gathers :=
  Chip.of_quiet Chip.gathers (fun _ => rfl) (by simp)
@[simp] theorem Chip.memberEvent_pistes (slot code extra : Nat) : (c.memberEvent slot code extra).pistes = c.pistes :=
  Chip.of_quiet Chip.pistes (fun _ => rfl) (by simp)
@[simp] theorem Chip.memberEvent_cache (slot code extra : Nat) : (c.memberEvent slot code extra).cache = c.cache :=
  Chip.of_quiet Chip.cache (fun _ => rfl) (by simp)
@[simp] theorem Chip.memberEvent_journal (slot code extra : Nat) : (c.memberEvent slot code extra).journal = c.journal :=
  Chip.of_quiet Chip.journal (fun _ => rfl) (by simp)
@[simp] theorem Chip.memberEvent_logs (slot code extra : Nat) : (c.memberEvent slot code extra).logs = c.logs :=
  Chip.of_quiet Chip.logs (fun _ => rfl) (by simp)
@[simp] theorem Chip.memberEvent_host (slot code extra : Nat) : (c.memberEvent slot code extra).host = c.host :=
  Chip.of_quiet Chip.host (fun _ => rfl) (by simp)
@[simp] theorem Chip.memberEvent_ring (slot code extra : Nat) : (c.memberEvent slot code extra).ring = c.ring :=
  Chip.of_quiet Chip.ring (fun _ => rfl) (by simp)
@[simp] theorem Chip.memberEvent_adp (slot code extra : Nat) : (c.memberEvent slot code extra).adp = c.adp :=
  Chip.of_quiet Chip.adp (fun _ => rfl) (by simp)
@[simp] theorem Chip.memberEvent_power (slot code extra : Nat) : (c.memberEvent slot code extra).power = c.power :=
  Chip.of_quiet Chip.power (fun _ => rfl) (by simp)
@[simp] theorem Chip.memberEvent_mem (slot code extra : Nat) : (c.memberEvent slot code extra).mem = c.mem :=
  Chip.of_quiet Chip.mem (fun _ => rfl) (by simp)
@[simp] theorem Chip.memberEvent_faults (slot code extra : Nat) : (c.memberEvent slot code extra).faults = c.faults :=
  Chip.of_quiet Chip.faults (fun _ => rfl) (by simp)
@[simp] theorem Chip.memberEvent_start (slot code extra : Nat) : (c.memberEvent slot code extra).start = c.start :=
  Chip.of_quiet Chip.start (fun _ => rfl) (by simp)
@[simp] theorem Chip.memberEvent_dir (slot code extra : Nat) : (c.memberEvent slot code extra).dir = c.dir :=
  Chip.of_quiet Chip.dir (fun _ => rfl) (by simp)
@[simp] theorem Chip.memberEvent_draws (slot code extra : Nat) : (c.memberEvent slot code extra).draws = c.draws :=
  Chip.of_quiet Chip.draws (fun _ => rfl) (by simp)
@[simp] theorem Chip.deferError_straps (p kind first count source : Nat) : (c.deferError p kind first count source).straps = c.straps :=
  Chip.of_quiet Chip.straps (fun _ => rfl) (by simp)
@[simp] theorem Chip.deferError_clk (p kind first count source : Nat) : (c.deferError p kind first count source).clk = c.clk :=
  Chip.of_quiet Chip.clk (fun _ => rfl) (by simp)
@[simp] theorem Chip.deferError_sched (p kind first count source : Nat) : (c.deferError p kind first count source).sched = c.sched :=
  Chip.of_quiet Chip.sched (fun _ => rfl) (by simp)
@[simp] theorem Chip.deferError_members (p kind first count source : Nat) : (c.deferError p kind first count source).members = c.members :=
  Chip.of_quiet Chip.members (fun _ => rfl) (by simp)
@[simp] theorem Chip.deferError_gathers (p kind first count source : Nat) : (c.deferError p kind first count source).gathers = c.gathers :=
  Chip.of_quiet Chip.gathers (fun _ => rfl) (by simp)
@[simp] theorem Chip.deferError_pistes (p kind first count source : Nat) : (c.deferError p kind first count source).pistes = c.pistes :=
  Chip.of_quiet Chip.pistes (fun _ => rfl) (by simp)
@[simp] theorem Chip.deferError_cache (p kind first count source : Nat) : (c.deferError p kind first count source).cache = c.cache :=
  Chip.of_quiet Chip.cache (fun _ => rfl) (by simp)
@[simp] theorem Chip.deferError_journal (p kind first count source : Nat) : (c.deferError p kind first count source).journal = c.journal :=
  Chip.of_quiet Chip.journal (fun _ => rfl) (by simp)
@[simp] theorem Chip.deferError_logs (p kind first count source : Nat) : (c.deferError p kind first count source).logs = c.logs :=
  Chip.of_quiet Chip.logs (fun _ => rfl) (by simp)
@[simp] theorem Chip.deferError_host (p kind first count source : Nat) : (c.deferError p kind first count source).host = c.host :=
  Chip.of_quiet Chip.host (fun _ => rfl) (by simp)
@[simp] theorem Chip.deferError_ring (p kind first count source : Nat) : (c.deferError p kind first count source).ring = c.ring :=
  Chip.of_quiet Chip.ring (fun _ => rfl) (by simp)
@[simp] theorem Chip.deferError_adp (p kind first count source : Nat) : (c.deferError p kind first count source).adp = c.adp :=
  Chip.of_quiet Chip.adp (fun _ => rfl) (by simp)
@[simp] theorem Chip.deferError_power (p kind first count source : Nat) : (c.deferError p kind first count source).power = c.power :=
  Chip.of_quiet Chip.power (fun _ => rfl) (by simp)
@[simp] theorem Chip.deferError_mem (p kind first count source : Nat) : (c.deferError p kind first count source).mem = c.mem :=
  Chip.of_quiet Chip.mem (fun _ => rfl) (by simp)
@[simp] theorem Chip.deferError_faults (p kind first count source : Nat) : (c.deferError p kind first count source).faults = c.faults :=
  Chip.of_quiet Chip.faults (fun _ => rfl) (by simp)
@[simp] theorem Chip.deferError_start (p kind first count source : Nat) : (c.deferError p kind first count source).start = c.start :=
  Chip.of_quiet Chip.start (fun _ => rfl) (by simp)
@[simp] theorem Chip.deferError_dir (p kind first count source : Nat) : (c.deferError p kind first count source).dir = c.dir :=
  Chip.of_quiet Chip.dir (fun _ => rfl) (by simp)
@[simp] theorem Chip.deferError_draws (p kind first count source : Nat) : (c.deferError p kind first count source).draws = c.draws :=
  Chip.of_quiet Chip.draws (fun _ => rfl) (by simp)
end

end Sys2Proof.Machine
end

