-- ==== Sys2Proof/Machine/Buffers.lean ====
section
/-! DEFINITION. The on-chip memories that carry payload: the stride buffers, in which every byte stands on its way between the host
port, the members, LPDDR6, the Utofer ports and the engines, and the local memories of the engines (R9, R10, Table 1.1). -/

namespace Sys2Proof.Machine

/-- Stride buffers: 64 MiB, 48 ports of 32 bytes per clock (Table 1.1). -/
def strideBufferBytes : Nat := 64 * 2 ^ 20
def strideBufferPorts : Nat := 48
def strideBufferPortBytes : Nat := 32

/-- Local memory of an engine (Table 1.1). -/
def engineLocalBytes : Nat := 512 * 1024

/-- What of the stride buffers may be allocated: all but the slices withdrawn (R399). -/
def Chip.bufferBytes (c : Chip) : Nat := strideBufferBytes - 4096 * c.mem.withdrawn.length

/-- Bytes of a list of blocks. -/
def blocksBytes (l : List Bytes) : Nat := (l.map List.length).sum

/-- Columns that a gather holds until its stripe-mates are there. -/
def Gather.staged (g : Gather) : Nat := (g.got.map (fun t => blocksBytes t.2)).sum

/-- Blocks of a host command on their way: write data until it stands in the cache, READ data until it has left. -/
def Cmd.staged (x : Cmd) : Nat :=
  match x.stage with
  | .fetching | .reading | .moving => blocksBytes (x.data.map Prod.snd)
  | _ => 0

/-- Write data of a member command. -/
def MCmd.staged (m : MCmd) : Nat :=
  match m.op with
  | .writeBlocks _ _ data _ => blocksBytes data
  | _ => 0

/-- Columns that an entry has computed or read for its writes. -/
def Entry.staged (e : Entry) : Nat := ((e.columns ++ e.oldCols).map (fun t => blocksBytes t.2)).sum

/-- Payload in the stride buffers (R10): no path leads past them. [DESIGN CHOICE, notes/assumptions/97.md] -/
def Chip.staged (c : Chip) : Nat :=
  (c.gathers.map (fun g => g.2.staged)).sum + (c.cqi.cmds.map Cmd.staged).sum + (c.journal.entries.map (fun e => e.2.staged)).sum +
    (c.members.map (fun m => ((m.2.outstanding ++ m.2.queues.flatten).map MCmd.staged).sum)).sum

/-- Input bytes in an engine's local memory: those of the steps it works on (R30). -/
def Chip.engineStaged (c : Chip) (e : Nat) : Nat := ((c.engine e).running.map (fun x => x.bytes)).sum

end Sys2Proof.Machine
end

