-- ==== Sys2Proof/Machine/Ecc.lean ====
section
/-! DEFINITION. The codes of the memories: the Reed-Solomon code, the address check and the poison bit of an LPDDR6 line (R386, R388,
Table 14.1), the merge of a narrow write into an old line (R390), and the Hsiao SEC-DED code of an SRAM word (R387). -/

namespace Sys2Proof.Machine

/-! ### LPDDR6 lines (R386) -/

/-- A polynomial, highest power first, times (x + r). -/
def polyTimes (p : List Byte) (r : Byte) : List Byte := List.zipWith (· ^^^ ·) (p ++ [0]) (0 :: p.map (gmul r))

/-- The code's generator, with the roots g^0 to g^3, below its leading 1. -/
def lineGenerator : List Byte := ((List.range 4).foldl (fun p i => polyTimes p (gpow i)) [1]).drop 1

/-- One symbol through the division by the generator. -/
def lineDivide (s : List Byte) (x : Byte) : List Byte :=
  List.zipWith (fun t g => t ^^^ gmul (x ^^^ s.headD 0) g) (s.drop 1 ++ [0]) lineGenerator

/-- The four check symbols of 68 information symbols; the first symbol is the highest power. [DESIGN CHOICE, notes/assumptions/96.md] -/
def lineCheck (info : Bytes) : Bytes := info.foldl lineDivide [0, 0, 0, 0]

/-- XOR of the five bytes of line-address bits 39:6. -/
def addrCheck (address : Nat) : Byte := (leBytes 5 (address / 64 % 2 ^ 34)).foldl (· ^^^ ·) 0

/-- A line as it is stored: its 64 bytes, and its metadata of Table 14.1. -/
structure MemLine where
  data : Bytes
  check : Bytes
  addr : Byte
  poison : Bool
deriving DecidableEq, Repr, Inhabited

/-- The information symbols: the data, then metadata bytes 4 to 7. -/
def MemLine.info (l : MemLine) : Bytes := l.data ++ [l.addr, if l.poison then 1 else 0, 0, 0]

/-- The 8 metadata bytes. -/
def MemLine.metadata (l : MemLine) : Bytes := l.check ++ l.info.drop 64

/-- A line written whole at an address. -/
def MemLine.made (address : Nat) (data : Bytes) (poison : Bool) : MemLine :=
  let l : MemLine := { data := fit 64 data, check := [], addr := addrCheck address, poison }
  { l with check := lineCheck l.info }

/-- The value of a codeword's polynomial at g^i: 0 for every i below 4 in a line without an error. -/
def syndrome (word : Bytes) (i : Nat) : Byte := word.foldl (fun a x => gmul a (gpow i) ^^^ x) 0

/-- What a read of a line or a word gives: whole, with one symbol or bit put right, or uncorrectable (R388). -/
inductive EccRead (α : Type) where
  | good (value : α)
  | corrected (value : α)
  | uncorrectable
deriving DecidableEq, Repr

/-- A codeword with its one erroneous symbol put right; none where the code detects more than it corrects. -/
def correctSymbol (word : Bytes) : Option Bytes :=
  let s := (List.range 4).map (syndrome word)
  let e := s.headD 0
  let fits := fun (d : Nat) => decide (s = (List.range 4).map (fun i => gmul e (gpow (i * d))))
  match (List.range 72).find? fits with
  | some d => if e = 0 then none else some (word.set (71 - d) (word.getD (71 - d) 0 ^^^ e))
  | none => none

/-- A line out of its 72 symbols. -/
def MemLine.ofWord (word : Bytes) : MemLine :=
  { data := word.take 64, check := word.drop 68, addr := word.getD 64 0, poison := (word.getD 65 0).getLsbD 0 }

/-- A read at an address (R386, R388). -/
def MemLine.read (l : MemLine) (address : Nat) : EccRead MemLine :=
  let word := l.info ++ l.check
  let usable := fun (m : MemLine) => decide (m.addr = addrCheck address) && !m.poison
  if (List.range 4).all (fun i => decide (syndrome word i = 0)) then (if usable l then .good l else .uncorrectable)
  else match correctSymbol word with
    | none => .uncorrectable
    | some w => if usable (MemLine.ofWord w) then .corrected (MemLine.ofWord w) else .uncorrectable

/-! ### SRAM words (R387) -/

/-- Bits set in a byte. -/
def weight (b : Byte) : Nat := ((List.range 8).filter (fun i => b.getLsbD i)).length

/-- The check columns of the 64 data bits: distinct and of odd weight, the 56 of weight 3, then weight 5.
[DESIGN CHOICE, notes/assumptions/96.md] -/
def hsiaoColumns : List Byte :=
  let all := (List.range 256).map (BitVec.ofNat 8)
  (all.filter (fun b => decide (weight b = 3)) ++ all.filter (fun b => decide (weight b = 5))).take 64

/-- The 8 check bits of a word. -/
def hsiaoCheck (w : BitVec 64) : Byte :=
  ((List.range 64).zip hsiaoColumns).foldl (fun a t => if w.getLsbD t.1 then a ^^^ t.2 else a) 0

/-- A read of a word and its check bits: one wrong bit is put right, two are detected. -/
def sramRead (w : BitVec 64) (check : Byte) : EccRead (BitVec 64) :=
  let s := hsiaoCheck w ^^^ check
  if s = 0 then .good w
  else match ((List.range 64).zip hsiaoColumns).find? (fun t => decide (t.2 = s)) with
    | some t => .corrected (w ^^^ BitVec.ofNat 64 (2 ^ t.1))
    | none => if weight s = 1 then .corrected w else .uncorrectable

/-! ### The merge buffer (R389, R390) -/

/-- An open entry: its line or word, the bytes written to it so far, and the engine clock at which it opened. -/
structure MergeEntry where
  line : Nat
  bytes : List (Nat × Byte)
  opened : Nat
deriving DecidableEq, Repr, Inhabited

/-- A byte of an entry, where it holds one. -/
def MergeEntry.byte (e : MergeEntry) (i : Nat) : Option Byte := (e.bytes.find? (fun b => decide (b.1 = i))).map Prod.snd

/-- An entry covers a line or word of so many bytes: it is written without a read. -/
def MergeEntry.covers (e : MergeEntry) (size : Nat) : Bool := (List.range size).all (fun i => (e.byte i).isSome)

/-- The bytes of a line with those of the entry over them: what a read that hits the entry is served, and what its write leaves. -/
def MergeEntry.over (e : MergeEntry) (old : Bytes) : Bytes := old.mapIdx (fun i b => (e.byte i).getD b)

/-- An entry takes a further write. -/
def MergeEntry.take (e : MergeEntry) (off : Nat) (new : Bytes) : MergeEntry :=
  { e with bytes := new.zipIdx.map (fun b => (off + b.2, b.1)) ++ e.bytes.filter (fun b => decide (b.1 < off ∨ off + new.length ≤ b.1)) }

/-- A narrow write enters the buffer: its line's entry, else a new one; none where all 64 are open and it must wait (0x4806). -/
def mergeWrite (buffer : List MergeEntry) (line off now : Nat) (new : Bytes) : Option (List MergeEntry) :=
  if buffer.any (fun e => decide (e.line = line)) then some (buffer.map (fun e => if e.line = line then e.take off new else e))
  else if 64 ≤ buffer.length then none
  else some (buffer ++ [({ line, bytes := [], opened := now } : MergeEntry).take off new])

/-- An entry's read-modify-write is due: 32 engine clocks have passed since it opened, or it covers its line. -/
def MergeEntry.due (e : MergeEntry) (now size : Nat) : Bool := e.covers size || decide (e.opened + 32 ≤ now)

/-- What an entry's write leaves of an LPDDR6 line: whole where it covers it, else merged into the old bytes, corrected where they can
be, poisoned where they cannot (R390). -/
def MergeEntry.write (e : MergeEntry) (l : MemLine) (address : Nat) : MemLine :=
  if e.covers 64 then MemLine.made address (e.over l.data) false
  else match l.read address with
    | .good m => MemLine.made address (e.over m.data) false
    | .corrected m => MemLine.made address (e.over m.data) false
    | .uncorrectable => MemLine.made address (e.over l.data) true

/-! ### The corrected write-back (R387) -/

/-- What a location holds after a corrected read: a later write that is already queued for it drops the write-back. -/
def writeBack {α : Type} (corrected : α) (queued : Option α) : α := queued.getD corrected

end Sys2Proof.Machine
end

