-- ==== Sys2Proof/Machine/Registers.lean ====
section
/-! DEFINITION. What a read of the function returns: the configuration header, its BARs and the vendor-specific capability (R216 to
R219), and BAR0 and BAR4 (R180, R181, R183, R220 to R222, R224, R226). A reserved bit and a write-only field read as zero (R4, R5). -/

namespace Sys2Proof.Machine

/-! ### Configuration space (R216 to R219) -/

/-- What a dword of the header reads, by its number (Table 8.3, Table 8.6); BAR2, BAR3 and the expansion ROM read zero. The
subsystem identifiers are those of 0x1850 as the last cold power-on took them.
[PRESUMED, notes/assumptions/9.md; DESIGN CHOICE, notes/assumptions/98.md] -/
def Chip.headerDword (c : Chip) (n : Nat) : Nat :=
  if n = 0 then 0x4896 * 2 ^ 16 + 0x1E4F
  else if n = 1 then 0x10 * 2 ^ 16 + (if c.host.busMaster then 4 else 0)
  else if n = 2 then 0x018000 * 2 ^ 8 + 0xB0
  else if n = 4 then c.host.bar0 % 2 ^ 32 + 4
  else if n = 5 then c.host.bar0 / 2 ^ 32
  else if n = 8 then c.host.bar4 % 2 ^ 32 + 4
  else if n = 9 then c.host.bar4 / 2 ^ 32
  else if n = 11 then c.host.subsystem % 2 ^ 16 * 2 ^ 16 + c.host.subsystem / 2 ^ 16 % 2 ^ 16
  else if n = 13 then 0x40
  else 0

/-- Offsets of the capabilities (Table 8.4), each with its PCI Express identifier; from 0x100 on they are extended ones.
[PRESUMED, notes/assumptions/9.md] -/
def capabilities : List (Nat × Nat) :=
  [(0x40, 0x01), (0x50, 0x10), (0xB0, 0x11), (0x100, 0x01), (0x148, 0x03), (0x158, 0x19), (0x188, 0x25), (0x194, 0x26), (0x1C0, 0x2A),
   (0x1E0, 0x31), (0x200, 0x27), (0x250, 0x18), (0x258, 0x32), (0x280, 0x0B)]

/-- The vendor-specific capability from its byte 8 on (Table 8.5): where the window and the mailbox stand, the version of the queue
interface, and the node ID of the straps. -/
def Chip.vsecFields (c : Chip) : Bytes :=
  leBytes 4 0x01000000 ++ leBytes 4 0x04000000 ++ leBytes 4 0x00010000 ++ leBytes 4 (c.straps.nodeId % 32)

/-- The whole capability, 0x18 bytes: its header with next pointer 0, its ID 1, revision 1 and length (R218).
[PRESUMED, notes/assumptions/9.md] -/
def Chip.vsec (c : Chip) : Bytes := leBytes 4 0x1000B ++ leBytes 4 (0x18 * 2 ^ 20 + 2 ^ 16 + 1) ++ c.vsecFields

/-- A dword of the vendor-specific capability, by its offset in configuration space. -/
def Chip.vsecDword (c : Chip) (offset : Nat) : Nat := leAt c.vsec (offset - 0x280) 4

/-- The offset of the capability that follows one, 0 after the last of its list. -/
def capNext (offset : Nat) : Nat :=
  ((capabilities.map Prod.fst).find? (fun o => decide (offset < o) && (decide (o < 0x100) == decide (offset < 0x100)))).getD 0

/-- A capability's first dword without its own fields: its identifier and the one that follows. -/
def capHeader (offset id : Nat) : Nat :=
  if offset < 0x100 then id + 2 ^ 8 * capNext offset else id + 2 ^ 16 + 2 ^ 20 * capNext offset

/-- A device-control code of a size in bytes: 0 for 128, one more for each doubling. -/
def sizeCode (n : Nat) : Nat := ((List.range 6).find? (fun k => decide (n ≤ 128 * 2 ^ k))).getD 5

/-- Power Management (R217, R235): No_Soft_Reset is 1, PME is not supported, and the state is D0 or D3hot. -/
def Chip.powerCap (c : Chip) (at_ : Nat) : Nat :=
  if at_ = 0 then 3 * 2 ^ 16 else if at_ = 4 then (if c.host.d3 then 3 else 0) + 2 ^ 3 else 0

/-- PCI Express (R214, R217, R227 to R229, R232): what the endpoint supports, and what the host has set in its control registers. -/
def Chip.expressCap (c : Chip) (at_ : Nat) : Nat :=
  let bit := fun (b : Bool) (i : Nat) => if b then 2 ^ i else 0
  let h := c.host
  if at_ = 0 then 2 * 2 ^ 16
  else if at_ = 0x04 then 2 + 2 ^ 5 + 2 ^ 15 + 2 ^ 28
  else if at_ = 0x08 then bit h.relaxed 4 + sizeCode h.maxPayload * 2 ^ 5 + 2 ^ 8 + sizeCode h.maxRead * 2 ^ 12
  else if at_ = 0x0C then 6 + 16 * 2 ^ 4 + 2 * 2 ^ 10 + 4 * 2 ^ 15
  else if at_ = 0x10 then (h.speed + h.width * 2 ^ 4) * 2 ^ 16
  else if at_ = 0x24 then 0xF + 2 ^ 11 + 2 ^ 17
  else if at_ = 0x28 then h.timeoutCode + bit h.ltrEnable 10 + bit h.tenBit 12
  else 0

/-- MSI-X (R217, R226): 1,024 entries, table and pending bits in BAR4. -/
def Chip.msixCap (c : Chip) (at_ : Nat) : Nat :=
  if at_ = 0 then (1023 + (if c.host.msixMask then 2 ^ 14 else 0) + (if c.host.msixEnable then 2 ^ 15 else 0)) * 2 ^ 16
  else if at_ = 4 then 4
  else if at_ = 8 then 0x80000 + 4
  else 0

/-- A dword of configuration space (R216 to R218): the header, then the capabilities of Table 8.4. What the tables give no field of
a capability reads zero. [PRESUMED, notes/assumptions/9.md] -/
def Chip.configDword (c : Chip) (offset : Nat) : Nat :=
  if offset < 0x40 then c.headerDword (offset / 4)
  else match capabilities.reverse.find? (fun t => decide (t.1 ≤ offset)) with
    | none => 0
    | some (base, id) =>
      let at_ := (offset - base) / 4 * 4
      let head := if at_ = 0 then capHeader base id else 0
      if base = 0x40 then head + c.powerCap at_
      else if base = 0x50 then head + c.expressCap at_
      else if base = 0xB0 then head + c.msixCap at_
      else if base = 0x148 then (if at_ = 0 then head else if at_ ≤ 8 then Config.unitSerial / 2 ^ (8 * (at_ - 4)) % 2 ^ 32 else 0)
      else if base = 0x250 then (if at_ = 0 then head else c.host.ltrCap + c.host.ltrCapNoSnoop * 2 ^ 16)
      else if base = 0x280 then c.vsecDword offset
      else head

/-! ### BAR0 (R180, R181, R183, R220 to R222, R224) -/

/-- The unit registers (Table 7.2). -/
def Chip.unitImage (c : Chip) : Bytes :=
  leBytes 4 0x00010000 ++ leBytes 4 (if c.cqi.enable then 1 else 0) ++ leBytes 4 (c.cqi.unitState % 8 + (if c.cqi.droppedBit then 8 else 0)) ++
    leBytes 6 c.cqi.nextAcc

/-- A queue-pair block (Table 7.3). -/
def QueuePair.blockImage (x : QueuePair) : Bytes :=
  x.image ++ leBytes 4 (if x.enable then 1 else 0) ++ leBytes 1 (x.qstate % 4) ++ leBytes 1 x.qerror ++ leBytes 2 0 ++
    leBytes 2 x.sqHead ++ leBytes 2 x.cqTail ++ leBytes 4 (if x.cqPhase then 1 else 0)

/-- The mailbox header (Table 8.8); mbx_go reads zero. -/
def Mailbox.header (m : Mailbox) : Bytes :=
  m.image ++ leBytes 4 0 ++ leBytes 1 m.status ++ leBytes 1 m.reason ++ leBytes 2 0 ++ leBytes 4 m.objectLength ++ leBytes 4 m.returned ++
    leBytes 4 m.changes ++ leBytes 8 m.logSeq

/-- The 8 bytes at an aligned offset of BAR0 (Table 8.7). The window gives an object's first 8 bytes, and zero for an absent one. -/
def Chip.bar0Word (c : Chip) (off : Nat) : Bytes :=
  if off < 0x1000 then slice c.unitImage off 8
  else if 0x10000 ≤ off ∧ off < 0x20000 then slice (c.queue ((off - 0x10000) / 64)).blockImage (off % 64) 8
  else if 0x1000000 ≤ off ∧ off < 0x4000000 then
    leBytes 8 (c.first8 (0x1000 + (off - 0x1000000) / 0x800) (off % 0x800 / 8))
  else if 0x4000000 ≤ off ∧ off < 0x4000040 then slice c.host.mailbox.header (off - 0x4000000) 8
  else if 0x4001000 ≤ off ∧ off < 0x4002000 then (List.range 8).map (fun i => c.host.mailbox.buffer.getD (off - 0x4001000 + i) 0)
  else List.replicate 8 0

/-! ### BAR4 (R226) -/

/-- The 8 bytes at an aligned offset of BAR4: the MSI-X table, and the pending-bit array from 0x8_0000. -/
def Chip.bar4Word (c : Chip) (off : Nat) : Bytes :=
  if off < 0x4000 then slice (c.msixEntry (off / 16)).image (off % 16) 8
  else if 0x80000 ≤ off ∧ off < 0x80080 then
    leBytes 8 (maskOf ((List.range 64).filter (fun i => (c.msixEntry ((off - 0x80000) * 8 + i)).pending)))
  else List.replicate 8 0

/-! ### Memory reads (R220) -/

/-- What a memory read of BAR0 or BAR4 returns; none where it completes with Unsupported Request: longer than 64 bytes, not naturally
aligned, or while the function does not answer (R235, R240). -/
def Chip.barRead (c : Chip) (bar off size : Nat) : Option Bytes :=
  let word := if bar = 0 then c.bar0Word else c.bar4Word
  if !c.barOpen ∨ size = 0 ∨ 64 < size ∨ off % size ≠ 0 ∨ 64 < off % 64 + size then none
  else some (slice (((List.range ((off % 8 + size + 7) / 8)).map (fun i => word (off / 8 * 8 + 8 * i))).flatten) (off % 8) size)

end Sys2Proof.Machine
end

