-- ==== Sys2Proof/WellFormed.lean ====
section
/-! DEFINITION. Which commands can arrive at all: every operand within the range its register field, connector, link or frame can
carry. A value that a rule refuses (a bad key length, an offset off its step) is no ill-formed command: the device answers it. -/

namespace Sys2Proof

/-- Member slots: 48 at most (Table 0.5). -/
def okSlot (n : Nat) : Bool := decide (n < 48)
/-- Pistes: 256 (Table 0.5). -/
def okPiste (n : Nat) : Bool := decide (n < 256)
/-- Queue pairs: 1,024 (Table 0.5). -/
def okQueue (n : Nat) : Bool := decide (n < 1024)
/-- Utofer ports: 0 P, 1 E, 2 W (R300). -/
def okPort (n : Nat) : Bool := decide (n < 3)
/-- Node IDs: 5 bits (R311). -/
def okNode (n : Nat) : Bool := decide (n < 32)
/-- A number of so many bits. -/
def okBits (w n : Nat) : Bool := decide (n < 2 ^ w)
/-- 4 KiB blocks. -/
def okBlocks (l : List Bytes) : Bool := l.all (fun b => decide (b.length = 4096))

/-- An origin comes by its own routes, with an identity of its own width (R337, Table 12.5, Table 12.7). -/
def Writer.wf (w : Writer) : Bool :=
  match w.origin with
  | .host => (decide (w.route = .window) || decide (w.route = .mailbox) || decide (w.route = .queue)) && okBits 32 w.originId
  | .peer => (decide (w.route = .pairMirror) || decide (w.route = .ring)) && okBits 8 w.originId
  | .net => decide (w.route = .adp) && okBits 48 w.originId
  | .self => decide (w.route = .firmware) && decide (w.originId = 0)
  | .service => decide (w.originId = 0)

/-- The fields of a stripe reference within their widths (Table 11.7). -/
def StripeRef.wf (r : StripeRef) : Bool :=
  okPiste r.piste && okBits 8 r.kind && okBits 8 r.outcome && okBits 32 r.columnMask && okBits 64 r.stripe && okBits 64 r.generation &&
    okBits 64 r.atStride

/-- A frame's fields within their widths; the body is at most 1,456 bytes and the tag 16 (Table 12.8, R347). -/
def AdpFrame.wf (f : AdpFrame) : Bool :=
  okBits 48 f.srcMac && okBits 48 f.dstMac && okBits 8 f.version && okBits 8 f.op && okBits 1 f.keySlot && okBits 16 f.status &&
    okBits 64 f.session && okBits 64 f.seq && decide (f.body.length ≤ 1456) && decide (f.tag.length = 16) && okBits 16 f.etherType

/-- Blocks that a member returns are 4 KiB each. -/
def MemberOutcome.wf : MemberOutcome → Bool
  | .ok l => okBlocks l
  | .readError bad => !bad.isEmpty
  | .failed => true

/-- Where a register write goes. -/
def RegTarget.wf : RegTarget → Bool
  | .bar0 o => okBits 27 o
  | .bar4 o => okBits 20 o
  | .maxPayload => true
  | .maxReadRequest => true
  | .completionTimeoutValue => true
  | .relaxedOrdering => true
  | .tenBitTags => true
  | .msixEnable => true
  | .msixFunctionMask => true
  | .ltrEnable => true
  | .maxSnoop => true
  | .maxNoSnoop => true
  | .bar n => decide (n < 6)
  | .expansionRom => true

/-- A write is of 1, 2, 4 or 8 bytes and its value fits. -/
def okWrite (size value : Nat) : Bool := [1, 2, 4, 8].contains size && okBits (8 * size) value

/-- A start finds its presence inputs among the slots and its node ID in 5 bits. -/
def StartInputs.wf (i : StartInputs) : Bool := okNode i.strapNodeId && i.presence.all okSlot && i.powered.all okSlot

def DmaChannel.wf : DmaChannel → Bool
  | .host => true
  | .member s => okSlot s
  | .utofer p => okPort p
  | .vault => true

/-- Every operand of a command is one that can arrive. -/
def Instr.wf : Instr → Bool
  | .strideBoundary _ => true
  | .planCutoff => true
  | .engineStepComplete engine _ => decide (engine < 24)
  | .lapBoundary _ => true
  | .timebaseUnlock => true
  | .timebaseRelock => true
  | .marker port _ _ => okPort port
  | .markerLoss => true
  | .holdoverExpiry => true
  | .pacerElection => true
  | .read queue cid => okQueue queue && okBits 16 cid
  | .write queue cid => okQueue queue && okBits 16 cid
  | .flush queue cid => okQueue queue && okBits 16 cid
  | .deallocate queue cid => okQueue queue && okBits 16 cid
  | .writeZeroes queue cid => okQueue queue && okBits 16 cid
  | .abort cid => okBits 16 cid
  | .getLog cid => okBits 16 cid
  | .dictRead cid => okBits 16 cid
  | .dictWrite cid => okBits 16 cid
  | .pisteCreate cid => okBits 16 cid
  | .pisteDelete cid => okBits 16 cid
  | .pisteReshape cid => okBits 16 cid
  | .rebuildStart cid => okBits 16 cid
  | .sweep cid => okBits 16 cid
  | .groomForce cid => okBits 16 cid
  | .memberRemove cid => okBits 16 cid
  | .memberAdd cid => okBits 16 cid
  | .handleQuery cid => okBits 16 cid
  | .handleCancel cid => okBits 16 cid
  | .vaultTest cid => okBits 16 cid
  | .undefinedOpcode queue => okQueue queue
  | .sqTailDoorbell queue value requester => okQueue queue && okBits 32 value && okBits 16 requester
  | .cqHeadDoorbell queue value => okQueue queue && okBits 32 value
  | .queueEnable queue => okQueue queue
  | .queueDisable queue => okQueue queue
  | .queueDrained queue => okQueue queue
  | .cqiEnable _ => true
  | .eventsDroppedClear => true
  | .registerWrite target size value => target.wf && okWrite size value
  | .submissionFetch => true
  | .hostReadCompletion tag _ => okBits 10 tag
  | .completionTimeout tag => okBits 10 tag
  | .tagQuarantineExpiry tag => okBits 10 tag
  | .windowWrite offset size value requester => okBits 27 offset && okWrite size value && okBits 16 requester
  | .mailboxRead => true
  | .mailboxWrite requester => okBits 16 requester
  | .msixUnmask _ => true
  | .busMasterDisable => true
  | .busMasterEnable => true
  | .bmeClearLimitExpiry => true
  | .powerStateD3hot => true
  | .powerStateD0 => true
  | .functionLevelReset => true
  | .flrComplete => true
  | .hostLinkDown => true
  | .hotReset => true
  | .perstNAssert => true
  | .perstNRelease => true
  | .hostLinkReady speed width _ => decide (speed ≤ 6) && [1, 2, 4, 8, 16].contains width
  | .gateAdmit => true
  | .allowanceAdmit piste => okPiste piste
  | .gateWaitFallback piste => okPiste piste
  | .writeBackResume piste => okPiste piste
  | .cacheModeWriteBack piste => okPiste piste
  | .partialHoldExpiry piste stripe => okPiste piste && okBits 64 stripe
  | .memberCommandComplete slot _ outcome => okSlot slot && outcome.wf
  | .journalReplay => true
  | .replayDone => true
  | .zoneVerify slot _ => okSlot slot
  | .mapWritebackDue piste _ => okPiste piste
  | .zoneReclaim slot _ => okSlot slot
  | .groomVictim piste => okPiste piste
  | .censusComplete piste => okPiste piste
  | .readDeadlineMiss slot _ => okSlot slot
  | .errorBucketLeak => true
  | .graceExpiry slot => okSlot slot
  | .resyncDone slot => okSlot slot
  | .rebuildSlotDone piste slot => okPiste piste && okSlot slot
  | .priorityPassEnd piste _ => okPiste piste
  | .drainDone slot => okSlot slot
  | .copybackDone piste slot => okPiste piste && okSlot slot
  | .lostHoldExpiry piste stripe => okPiste piste && okBits 64 stripe
  | .sweepEnd handle => okBits 12 handle
  | .groomForceDone handle => okBits 12 handle
  | .pisteZeroingDone piste => okPiste piste
  | .pisteStopped piste => okPiste piste
  | .pisteDeleteDone piste => okPiste piste
  | .pisteStop piste writer => okPiste piste && writer.wf
  | .pisteStart piste writer => okPiste piste && writer.wf
  | .directoryChangeDurable generation => okBits 64 generation
  | .reshapeFinish piste => okPiste piste
  | .reshapeResume piste => okPiste piste
  | .memberCommandTimeout slot _ => okSlot slot
  | .abortTimeout slot _ => okSlot slot
  | .memberLinkFault slot _ => okSlot slot
  | .containmentRelease slot writer _ _ => okSlot slot && writer.wf
  | .containmentAutoRelease slot _ _ => okSlot slot
  | .containmentWindowExpiry slot => okSlot slot
  | .containedPresenceLoss slot => okSlot slot
  | .sgpioFrame stream _ => decide (stream < 2)
  | .buttonPress slot => okSlot slot
  | .removalWindowEnd slot => okSlot slot
  | .refusalSignalEnd slot => okSlot slot
  | .shutdownComplete slot => okSlot slot
  | .shutdownWaitExpiry slot => okSlot slot
  | .surpriseRemoval slot => okSlot slot
  | .presenceDebounced slot => okSlot slot
  | .slotPowerGroup => true
  | .powerGood slot => okSlot slot
  | .powerGoodTimeout slot => okSlot slot
  | .insertionWaitTimeout slot => okSlot slot
  | .controllerReady slot _ => okSlot slot
  | .slotEnable slot _ writer => okSlot slot && writer.wf
  | .partnerHb _ => true
  | .partnerSilent => true
  | .leaseReply src _ => okBits 48 src
  | .lease src _ => okBits 48 src
  | .judgeAcquireWindowEnd _ => true
  | .judgeProtectionEnd _ => true
  | .leaseWriteStop => true
  | .leaseExpiry => true
  | .takeoverServing => true
  | .fenceHoldEnd => true
  | .handover writer => writer.wf
  | .handoverDrained => true
  | .syncComplete => true
  | .forceTakeover writer => writer.wf
  | .watchHbLoss => true
  | .watchDeadline => true
  | .utoferLinkUp port lanes => okPort port && [4, 8, 16].contains lanes
  | .flitReceive port raw => okPort port && decide (raw.length = 256)
  | .utoferAckTimeout port => okPort port
  | .utoferRecoveryTimeout port => okPort port
  | .pLinkUp _ lanes => [4, 8, 16].contains lanes
  | .mirrorData _ piste hostBlock _ data => okPiste piste && okBits 64 hostBlock && decide (data.length = 4096)
  | .mirrorRecord _ _ => true
  | .strideEnd _ _ => true
  | .mirrorAccept _ => true
  | .mirrorBulk _ => true
  | .ringHb src _ => okNode src
  | .ringMemberLost node => okNode node
  | .echoReq port _ _ _ => okPort port
  | .echoReply port _ _ _ => okPort port
  | .hello port _ => okPort port
  | .roster src _ => okNode src
  | .nodeAlias src claimed claimant epoch _ => okNode src && okNode claimed && okNode claimant && okBits 64 epoch
  | .unitResetMsg src target _ => okNode src && okNode target
  | .pisteCheck src _ _ => okNode src
  | .pisteCheckReply src _ _ => okNode src
  | .stripRead src ref _ _ _ _ => okNode src && ref.wf
  | .stripData src ref _ blocks => okNode src && ref.wf && okBlocks blocks
  | .stripWrite src ref _ _ _ _ _ => okNode src && ref.wf
  | .stripFail src ref _ _ => okNode src && ref.wf
  | .written src ref => okNode src && ref.wf
  | .call src ref => okNode src && ref.wf
  | .report src ref => okNode src && ref.wf
  | .recall src ref => okNode src && ref.wf
  | .state src ref => okNode src && ref.wf
  | .missed src ref => okNode src && ref.wf
  | .resolve src ref => okNode src && ref.wf
  | .commitRetryExpiry piste stripe generation => okPiste piste && okBits 64 stripe && okBits 64 generation
  | .missedRepeat piste stripe generation => okPiste piste && okBits 64 stripe && okBits 64 generation
  | .ringResetNode node writer => okNode node && writer.wf
  | .discover frame => frame.wf
  | .syncReq frame => frame.wf
  | .adpRead frame => frame.wf
  | .adpWrite frame => frame.wf
  | .pairWrite frame => frame.wf
  | .vaultHb frame => frame.wf
  | .vaultEnd frame => frame.wf
  | .safeNotice frame => frame.wf
  | .adpReply frame => frame.wf
  | .adpRequestTimeout _ => true
  | .phyResetDetected _ _ => true
  | .rightsSet value writer => okBits 64 value && writer.wf
  | .adpKeyWrite slot _ writer => okBits 8 slot && writer.wf
  | .settingsCommit => true
  | .dictWriteOther index sub _ writer => okBits 16 index && okBits 8 sub && writer.wf
  | .vinWarn _ => true
  | .vinSwitch _ => true
  | .vinReset _ => true
  | .braceExit => true
  | .vaultComplete _ => true
  | .vaultCutoff => true
  | .vaultDriveLost drive => okSlot drive
  | .vaultInputRecovered => true
  | .packLeavesConnected _ => true
  | .chargerCv => true
  | .startRestEnd _ _ _ => true
  | .resistanceStepMeasure _ _ => true
  | .chargerPauseStart => true
  | .chargerPauseEnd _ _ => true
  | .pauseWindowFail => true
  | .packReplaced writer => writer.wf
  | .vaultTestEnd _ _ _ _ => true
  | .shipMode value writer => okBits 64 value && writer.wf
  | .shipModeOpen => true
  | .packReconnect _ _ => true
  | .memoryCorrected _ _ _ => true
  | .memoryUncorrectable _ _ _ _ => true
  | .mergeEntryTimeout _ _ _ _ _ => true
  | .dmaHaltRestart channel => channel.wf
  | .scrubStart _ writer => writer.wf
  | .scrubCancel writer => writer.wf
  | .scrubEnd => true
  | .patrolScrub _ => true
  | .faultMessage source kind _ => okBits 10 source && okBits 8 kind
  | .faultTimerExpiry source => okBits 10 source
  | .faultClear value writer => okBits 64 value && writer.wf
  | .faultForce source kind writer => okBits 10 source && okBits 8 kind && writer.wf
  | .recorderFlush writer => writer.wf
  | .recorderFlushPeriodic => true
  | .recorderCheckpoint => true
  | .coldPowerOn inputs => inputs.wf
  | .resetNAssert _ => true
  | .resetNRelease inputs => inputs.wf
  | .firmwareStart => true
  | .memberWaitEnd => true
  | .unitReset value writer => okBits 64 value && writer.wf
  | .railFault => true
  | .imageChunk _ writer => writer.wf
  | .imageCommit _ writer => writer.wf
  | .memberLinkUp slot speed width => okSlot slot && decide (speed ≤ 6) && [1, 2, 4, 8, 16].contains width
  | .presenceLost slot => okSlot slot
  | .vinResetRelease => true
  | .packConnected _ _ => true
  | .adpUnsupported frame => frame.wf

end Sys2Proof
end

