-- ==== Sys2Proof/Tests/Slice0.lean ====
section
/-! SUPPORT. The model's own tests: what the checks of commands refuse, the spec's worked examples, and for every statement with hypotheses
a state and operands that meet them. -/

namespace Sys2Proof.Tests

open Sys2Proof Sys2Proof.Machine

set_option Elab.async false

/-- A state built from the one at reset. -/
def st (f : Chip → Chip) : State := { State.reset with toChip := f State.reset.toChip }

def cmd0 : Cmd where
  queue := 0
  cid := 0
  acc := 1
  opcode := 1
  piste := 0
  arg0 := 0
  arg1 := 1
  arg2 := 0
  arg3 := 0
  dataMode := 0
  dataAddr := 0
  dataLen := 0
  stage := .fresh
  waited := 0
  newBytes := 0
  growBytes := 0
  through := false
  spans := []
  segment := none
  segData := []
  segGot := 0
  segments := 0
  data := []
  dataAcc := []
  got := 0
  lastSeq := 0
  need := []
  failBlock := none
  value := []
  target := none
  dead := false

def mcmd0 : MCmd :=
  { id := 1, cls := 1, op := .readBlocks false 0 1, bytes := 4096, deadline := none, admitted := 0, aborted := none, readSeq := 0
    purpose := .none }
def ver0 : Version := { state := .dirty, data := [], acc := 1, dirtyLap := 0, entry := 0, lost := false }
def estep0 : EngineStep := { id := 1, cls := 1, bytes := 32, clocks := 17, job := 2 }
def gather0 : Gather :=
  { id := 1, why := .check 0, cls := 6, piste := 0, newGeom := false, area := 0, stripe := 0, first := 0, count := 1, want := [], got := []
    waiting := [], unknown := [], far := [], uncounted := 0, late := [], solving := false, holdFor := none, errors := [] }
def lap0 : LapSample := { packUv := 0, packMinUv := 0, packMaxUv := 0, tempDc := 0, vinMinMv := 0, vinMeanMv := 0 }
def marker0 : MarkerMsg := { pacerNode := 1, accDelayPs := 0, stride := 0, strideTicks := 4096, pacerGeneration := 0 }
/-- A node of the ring whose clock runs, with a marker's port up and member 1. -/
def ringed (f : Clock → Clock) : State :=
  st (fun c => ((c.onClk (fun k => f { k with running := true })).updPort 1 (fun p => { p with pstate := 2 })).onRing
    (fun r => { r with members := [0, 1] }))
def rslot0 : RebuildSlot :=
  { index := 0, state := 2, drain := false, start := 0, mark := 0, wrapped := true, base := 0, pausedByTable := false, cancelled := false
    was := 0, copyMark := 0, copySaved := 0, copyDurable := 0, strip := 0, issued := false, target := none, reloc := [], recs := [] }
def lost0 : LostStripe :=
  { piste := 0, cause := 0, groomed := false, newGeom := false, columns := 0, stripe := 0, first := 0, count := 0, deferred := 0, seq := 0
    sinceLap := 0, held := true, logSeq := 0 }
def sweep0 : Sweep :=
  { handle := 0, piste := 0, first := 0, last := 0, flags := 0, stripe := 0, blocksRead := 0, corrected := 0, rebuilt := 0, lost := 0
    checked := 0, unlocated := 0, startStride := 0, cancelled := false }
def host0 : Writer := { origin := .host, route := .window, originId := 0 }
def self0 : Writer := { origin := .self, route := .firmware, originId := 0 }
def service0 : Writer := { origin := .service, route := .firmware, originId := 0 }
def net0 : Writer := { origin := .net, route := .adp, originId := 0 }
def zone0 : Zone := Zone.reset
def geom0 : Geometry := { k := 2, n := 5, stripCode := 0, f := 1, base := 0, rows := 4, zoneParity := 0 }
/-- A grooming piste with an allowance, and a write that waits for it. -/
def allow (a : Int) : State :=
  st (fun c => ((c.updPiste 0 (fun x => { x with
    state := .online, groomed := true, list := [(0, 0)], groomState := 2, ratioNum := 1, ratioDen := 2, victim := some (0, 0)
    allowance := a })).updMember 0 (fun m => { m with zones := [(0, { zone0 with zstate := 2, live := 1, slots := 2 })] })).onCqi (fun q =>
    { q with cmds := [{ cmd0 with stage := .allowance, growBytes := 4096 }] }))
def report0 : DriveReport :=
  { meetsTable := true, conventionalBlocks := 2 ^ 20, zonedBlocks := 2 ^ 20, zoneCount := 1000, zoneSize := 1024, zoneCapacity := 1024
    meetsZoned := true, labelMagic := 0, labelFormat := 0, labelPool := 0, labelVault := false, labelOwner := 0, labelUid := 0
    labelGeneration := 0, labelNguidConventional := 0, labelNguidZoned := 0, labelNqnCheck := 0, labelCrcOk := false, nqn := []
    nguidConventional := 0, nguidZoned := 0, capTimeoutMs := 0, rtd3EntryMs := 0, zoneReports := [] }
/-- An online groomed piste on the member in slot 0, with one zone. -/
def zoned (f : Piste → Piste) (z : Zone) : State :=
  st (fun c => (c.updPiste 0 (fun x => f { x with state := .online, groomed := true, list := [(0, 0)] })).updMember 0 (fun m =>
    { m with zones := [(0, { z with piste := 0 })], report := some { report0 with zoneCount := 1 } }))
/-- An online groomed piste with a forced grooming under way. -/
def forced1 : State := st (fun c => c.updPiste 0 (fun x => { x with state := .online, groomed := true, forced := [(0, 0xFF, 1)] }))
/-- A submission entry of 64 bytes with identifier 7. -/
def sub0 (op mode piste : Nat) (a0 a1 : Nat) : Bytes :=
  leBytes 1 op ++ leBytes 1 mode ++ leBytes 2 7 ++ leBytes 1 piste ++ leBytes 19 0 ++ leBytes 8 a0 ++ leBytes 8 a1 ++ leBytes 24 0
/-- The entry at hand at the head of queue 0, with the data it needed. -/
def fet0 (b host : Bytes) : Fetched :=
  { queue := 0, index := 0, bytes := b, phase := 3, spans := [], next := none, segments := 0, host, left := 0, status := 0, breach := false }
/-- A serving unit whose queue 0 is enabled and holds an entry. -/
def headed (f : Fetched) (g : Chip → Chip) : State :=
  st (fun c => g ((c.onCqi (fun q => { q with unitState := 1, arrived := [f] })).updQueue 0 (fun x =>
    { x with qstate := 1, enable := true, sqEntriesM1 := 63, cqEntriesM1 := 255 })))
def cqi1 (l : List Cmd) : State := st (fun c => c.onCqi (fun q => { q with cmds := l }))
/-- Members in use in the first `n` slots. -/
def drives (n : Nat) (c : Chip) : Chip :=
  forN n (fun c i => c.updMember i (fun m => { m with
    slot := .inUse, label := { m.label with pool := 1 }, report := some { report0 with conventionalBlocks := 2 ^ 24 } })) c
/-- The descriptor of a fixed piste of 2 data strips on members 0 to 3, from block 2^18 on. -/
def desc0 : Bytes :=
  [0, 2, 0, 0] ++ leBytes 2 4 ++ [0, 0] ++ leBytes 8 0 ++ leBytes 8 1024 ++ leBytes 8 (2 ^ 18) ++ [0, 0] ++ leBytes 2 3 ++ leBytes 92 0 ++
    [0, 0, 1, 0, 2, 0, 3, 0]
/-- A reshape of it by one member, to block 2^20 on. -/
def reshape0 : Bytes :=
  [0, 0xFF] ++ leBytes 2 5 ++ [0xFF, 3] ++ leBytes 2 0 ++ leBytes 8 0 ++ leBytes 8 (2 ^ 20) ++ leBytes 104 0 ++
    [0, 0, 1, 0, 2, 0, 3, 0, 4, 0]
def piste0 (x : Piste) : Piste :=
  { x with
    state := .online, capacity := 1024, list := [(0, 0), (1, 0), (2, 0), (3, 0)]
    geom := { k := 2, n := 4, stripCode := 0, f := 0, base := 2 ^ 18, rows := 128, zoneParity := 0 } }
/-- The host port open, queue `q` in a state. -/
def bar (f : HostPort → HostPort) (g : Chip → Chip) : State :=
  st (fun c => g (c.onHost (fun h => f { h with ready := true, perst := false, busMaster := true })))
def pair1 (x : QueuePair) : QueuePair := { x with qstate := 1, enable := true, sqEntriesM1 := 63, cqEntriesM1 := 127, cqTail := 2 }
def read0 : HostRead := { tag := 3, why := .writeData 1 0, bytes := 64, dead := false }
def hb0 : PartnerHb :=
  { role := 0, syncState := 0, endorseRequest := false, endorseGrant := false, brace := false, leaving := false, judgeReachable := false
    vaultStart := false, lastLaneBlock := 0, epoch := 0, hbSeq := 0, serial := 0, sealSeq := 0, ownCeiling := 0, lastLaneLap := 0
    acceptanceHigh := 0, leaseRemaining := 0, dirtyBytes := 0 }
def lease0 : LeaseRequest :=
  { op := 1, role := 0, synced := true, pUp := true, partnerAlive := true, epoch := 0, pairId := 5, serial := 9, sealSeq := 0, requestSeq := 0
    leaseUs := 64 }
def answer0 : LeaseAnswer :=
  { result := 0, op := 1, epoch := 0, pairId := 0, holder := 0, requestSeq := 0, protectionUs := 0, partnerAge := 0 }
/-- A unit in PAIR mode with its pair formed and port P up. -/
def pairs (f : Pair → Pair) (g : Chip → Chip) : State :=
  st (fun c => g (((c.setVal 0x3800 0 1).onPair (fun p => f { p with formed := true })).updPort 0 (fun p => { p with pstate := 2 })))
def late (n : Nat) (c : Chip) : Chip := c.onClk (fun k => { k with opNs := n })
def jrec0 : JudgeRecord := { JudgeRecord.reset with pairId := 5 }
/-- A node of a ring whose links E and W are up. -/
def onRing0 (g : Chip → Chip) : State :=
  st (fun c => g (((((c.setVal 0x3C00 0 1).onClk (fun k => { k with running := true, sync := .locked })).updPort 1 (fun p => { p with pstate := 2 })).updPort 2
    (fun p => { p with pstate := 2 })).onRing (fun r => { r with rstate := 2, members := [0, 1, 2] })))
def txf0 : TxFlit := { cls := 1, src := 1, dst := 0, broadcast := false, hops := 31, first := true, last := true, payload := [] }
def hello0 : HelloMsg :=
  { nodeId := 1, serial := 0, strideTicks := 4096, timebaseLocked := true, siliconRevision := State.reset.val 0x1002
    firmwareVersion := leNat ((State.reset.readObject 0x1005 0).getD []), lpddrBytes := Config.lpddrBytes, pairMode := 1, pairId := 0
    judgeAddress := State.reset.judgeAddress }
def ringHb0 : RingHbMsg :=
  { nodeId := 1, role := 0, syncState := 2, timeValid := true, aliases := 0, serial := 9, pairId := 0, epoch := 0, partnerNode := 0, lap := 0 }
def roster0 : RosterEntry := { nodeId := 1, serial := 9, strideTicks := 4096, timeValid := true, delayE := 1, delayW := 1, ringState := 2 }
def ref0 : StripeRef :=
  { piste := 0, kind := 0, outcome := 0, acked := true, degraded := false, columnMask := 1, stripe := 0, generation := 0, atStride := 0 }
def check0 : SpanCheck := { tag := 1, queue := 0, cid := 0, waiting := [1, 2], worst := 0, sinceLap := 0, reshape := false }
def span0 : Entry := { Entry.reset with state := .parityDurable, spanning := true, memberSet := [(0, (0, 1)), (1, (0, 2))] }
/-- A ring member with a spanning piste whose home is a node, and an entry of it. -/
def spans (home : Nat) (e : Entry) (g : Chip → Chip) : State :=
  onRing0 (fun c => g (((c.updPiste 0 (fun x => { piste0 x with home, spanning := true })).setEntry 0 e)))
/-- A pack descriptor: 12 V at most, 8 V at least, 1 A of charge current, 1 Ω, 0 °C to 50 °C. -/
def pack0 : Bytes :=
  List.replicate 5 0 ++ leBytes 2 8000 ++ leBytes 2 12000 ++ leBytes 2 1000 ++ List.replicate 6 0 ++ [0, 50] ++ List.replicate 47 0 ++ leBytes 2 10000
/-- A unit with a pack, its clock running. -/
def packed (f : Power → Power) (g : Chip → Chip) : State :=
  st (fun c => g ((((c.setOctets 0x4430 0 pack0).onPower f)).onClk (fun k => { k with running := true })))
def pend0 : PendingFault := { (default : PendingFault) with started := true, left := 0 }
def inputs0 : StartInputs := { (default : StartInputs) with referenceOk := true, railsOk := true, selfCheckOk := true }
def flashImage0 : FlashImage := { (default : FlashImage) with signatureOk := true, present := true, length := 64 }
/-- A frame, sealed with the key of slot 0. -/
def seal0 (f : AdpFrame) : AdpFrame := { f with tag := hmacTag (List.replicate 32 1) (frameBytes f) }
def frame0 : AdpFrame :=
  { srcMac := 2, dstMac := broadcastMac, version := 1, op := 0x10, reply := false, keySlot := 0, status := 0, session := 8, seq := 5, body := []
    tag := [] }
def sess0 : Session := { id := 8, mac := 2, highest := 4, stored := none, lastLap := 0 }
/-- The management network up, with a key and a session. -/
def netted (x : Session) (g : Chip → Chip) : State :=
  st (fun c => g ((c.onDict (fun d => { d with keys := [(0, List.replicate 32 1)] })).onAdp (fun a => { a with astate := 2, sessions := [x] })))
def request0 : AdpFrame := { frame0 with seq := 3, op := 0x10 }
/-- A pair-wide write of an object, as a frame's body from an offset on. -/
def write0 (pre : Bytes) (index : Nat) (v : Bytes) : Bytes := pre ++ leBytes 2 index ++ [0, 0] ++ leBytes 2 v.length ++ [0, 0] ++ v
/-- A frame for all units, as ADP sends it. -/
theorem takes_new (c : Chip) (f : AdpFrame) (h : f.dstMac = broadcastMac ∧ f.fcsOk = true ∧ f.vlan = false ∧ f.etherType = 0x88B5) :
    c.macTakes (seal0 f) = true := by
  simp [Chip.macTakes, seal0, h.1, h.2.1, h.2.2.1, h.2.2.2]
/-- A new request of a session the unit holds. -/
theorem requests_new (x : Session) (g : Chip → Chip) (f : AdpFrame) (h1 : (netted x g).adp.astate = 2)
    (h2 : f.dstMac = broadcastMac ∧ f.fcsOk = true ∧ f.vlan = false ∧ f.etherType = 0x88B5)
    (h3 : (netted x g).dict.keys.find f.keySlot = some (List.replicate 32 1)) (h4 : f.reply = false) (h5 : f.version = 1)
    (h6 : (netted x g).session f.session = some x) : Requests (netted x g).toChip (seal0 f) x :=
  ⟨⟨h1, takes_new _ _ h2, _, h3, rfl⟩, h4, h5, h6⟩
theorem arrives_new (s : State) (f : AdpFrame) (h1 : s.adp.astate = 2)
    (h2 : f.dstMac = broadcastMac ∧ f.fcsOk = true ∧ f.vlan = false ∧ f.etherType = 0x88B5)
    (h3 : s.dict.keys.find f.keySlot = some (List.replicate 32 1)) : Arrives s.toChip (seal0 f) := ⟨h1, takes_new _ _ h2, _, h3, rfl⟩
theorem clock_legal_reset : ClockLegal State.reset.toChip := by
  unfold ClockLegal State.reset Chip.reset Clock.reset Straps.reset; simp
theorem levels_host : ∀ i ∈ [0x4400, 0x4401, 0x4402], ∀ o, State.reset.object i 0 = some o →
    (State.reset.rightsOf o).testBit (originCode host0.origin) = true := by
  have h : [0x4400, 0x4401, 0x4402].all (fun i => match State.reset.object i 0 with
    | some o => (State.reset.rightsOf o).testBit (originCode host0.origin)
    | none => true) = true := by decide +kernel
  intro i hi o ho
  have := List.all_eq_true.mp h i hi
  rw [ho] at this
  exact this

/-! Commands that cannot arrive: one ill-formed term for each check. -/

/-- A slot, a piste, a queue pair, a port and a node beyond the last, and a command identifier of 17 bits. -/
theorem test_wf_numbers : Instr.wf (.powerGood 48) = false ∧ Instr.wf (.groomVictim 256) = false ∧ Instr.wf (.undefinedOpcode 1024) = false ∧
    Instr.wf (.utoferAckTimeout 3) = false ∧ Instr.wf (.ringMemberLost 32) = false ∧ Instr.wf (.abort 65536) = false ∧
    Instr.wf (.engineStepComplete 24 0) = false ∧ Instr.wf (.sgpioFrame 2 []) = false ∧ Instr.wf (.rebuildSlotDone 0 48) = false := by
  decide +kernel

/-- A write of 3 bytes, a value of 9 bits in a byte, an offset past BAR0 and one past BAR4. -/
theorem test_wf_registers : Instr.wf (.registerWrite (.bar0 0) 3 0) = false ∧ Instr.wf (.registerWrite (.bar0 0) 1 256) = false ∧
    Instr.wf (.registerWrite (.bar0 (2 ^ 27)) 4 0) = false ∧ Instr.wf (.registerWrite (.bar4 (2 ^ 20)) 4 0) = false ∧
    Instr.wf (.windowWrite (2 ^ 27) 4 0 0) = false ∧ Instr.wf (.hostReadCompletion 1024 .poisoned) = false := by decide +kernel

/-- A host that writes by ADP, a peer by the window, the network by the mailbox, the firmware or the service with an identity. -/
theorem test_wf_writers : Instr.wf (.handover ⟨.host, .adp, 0⟩) = false ∧ Instr.wf (.handover ⟨.peer, .window, 0⟩) = false ∧
    Instr.wf (.handover ⟨.net, .mailbox, 0⟩) = false ∧ Instr.wf (.handover ⟨.self, .firmware, 1⟩) = false ∧
    Instr.wf (.handover ⟨.service, .firmware, 1⟩) = false := by decide +kernel

/-- A block that is not 4 KiB, a read error without a bad block, a flit of 255 bytes, a frame with a short tag, a stripe reference of piste 256,
a DMA channel of slot 48, a start on node 32, a link of 5 lanes. -/
theorem test_wf_shapes : Instr.wf (.memberCommandComplete 0 0 (.ok [[0]])) = false ∧
    Instr.wf (.memberCommandComplete 0 0 (.readError [])) = false ∧ Instr.wf (.flitReceive 1 (List.replicate 255 0)) = false ∧
    Instr.wf (.adpRead { frame0 with tag := [0] }) = false ∧ Instr.wf (.written 0 { ref0 with piste := 256 }) = false ∧
    Instr.wf (.dmaHaltRestart (.member 48)) = false ∧ Instr.wf (.coldPowerOn { inputs0 with strapNodeId := 32 }) = false ∧
    Instr.wf (.utoferLinkUp 1 5) = false ∧ Instr.wf (.mirrorData 0 0 0 0 []) = false := by decide +kernel

/-- And commands that can arrive. -/
theorem test_wf_accepts : Instr.wf (.powerGood 47) = true ∧ Instr.wf (.handover host0) = true ∧ Instr.wf (.handover ⟨.net, .adp, 5⟩) = true ∧
    Instr.wf (.registerWrite (.bar0 8) 4 1) = true ∧ Instr.wf (.utoferLinkUp 1 8) = true := by decide +kernel

/-- The table gives no row any bits. -/
theorem test_no_word_spells : decodeTableWord 32 0 = none ∧ State.reset.withFetchWord 32 0 = State.reset := ⟨rfl, rfl⟩

/-! The spec's worked examples. -/

/-- Table 3.3. -/
theorem test_powers : (List.range 30).map gpow = [0x01, 0x02, 0x04, 0x08, 0x10, 0x20, 0x40, 0x80, 0x1D, 0x3A, 0x74, 0xE8, 0xCD, 0x87, 0x13, 0x26,
    0x4C, 0x98, 0x2D, 0x5A, 0xB4, 0x75, 0xEA, 0xC9, 0x8F, 0x03, 0x06, 0x0C, 0x18, 0x30] := by decide +kernel

/-- The subtitle byte of chapter 3: its P and Q. -/
theorem test_syndromes : parityP [[[0x11]], [[0x22]], [[0x33]], [[0x44]]] = [[0x44]] ∧
    parityQ [[[0x11]], [[0x22]], [[0x33]], [[0x44]]] = [[0x83]] := by decide +kernel

/-- And its two lost strips, D1 and D3, from the rest. -/
theorem test_two_lost : (solve 4 [1, 3] [(0, [[0x11]]), (2, [[0x33]]), (4, [[0x44]]), (5, [[0x83]])]).map
    (fun m => (KMap.find m 1, KMap.find m 3)) = some (some [[0x22]], some [[0x44]]) := by decide +kernel

/-- The catalogue piste 5 of chapter 3: host block 1,000,000 is block 0 of D4 of stripe 6,944, at member block 289,920. -/
theorem test_fixed_address :
    let g : Geometry := { k := 9, n := 48, stripCode := 1, f := 4, base := 262144, rows := 4096, zoneParity := 0 }
    g.m = 4 ∧ g.d = 144 ∧ g.locate 1000000 = (6944, 4, 0) ∧ g.rowOf 6944 = 1736 ∧ g.colOf 6944 4 = 4 ∧ g.stripBlock 6944 = 289920 ∧
      6944 * g.d = 999936 := by decide +kernel

/-- The archive piste 40 of chapter 3: host block 5,000,013 is block 13 of D5 of stripe 5,580. -/
theorem test_spanning_address :
    let g : Geometry := { k := 14, n := 36, stripCode := 2, f := 4, base := 262144, rows := 4096, zoneParity := 0 }
    g.m = 2 ∧ g.d = 896 ∧ g.locate 5000013 = (5580, 5, 13) ∧ g.rowOf 5580 = 2790 ∧ g.stripBlock 5580 + 13 = 440717 := by decide +kernel

/-- The row of piste 5's example, its columns 11 to 43 in some order. -/
def row36 : List Nat :=
  [31, 7, 44, 19, 2, 38, 25, 11, 46, 0, 33] ++ (List.range 48).filter (fun s =>
    decide (s ∉ [31, 7, 44, 19, 2, 38, 25, 11, 46, 0, 33, 14, 40, 9, 27])) ++ [14, 40, 9, 27]

/-- R56: when slot 2 has failed, column 4 is found at the lowest spare column, 44, and no other column moves. -/
theorem test_replacement : (placeAll row36 44 48 [] [2] ((List.range 44).map some, List.range 44)).1 =
    ((List.range 44).map some).set 4 (some 44) ∧ atD row36 44 0 = 14 := by decide +kernel

/-- A table's rows are permutations that turn by one place a row; two seeds give two rows. -/
theorem test_table_row : tableRow 7 5 1 = (tableRow 7 5 0).tail ++ (tableRow 7 5 0).take 1 ∧ tableRow 7 5 0 ≠ tableRow 8 5 0 := by
  decide +kernel

/-- The map entry of chapter 5: member 21, zone 3,071, offset 2,048. -/
theorem test_map_entry : mapEntry 21 3071 2048 = 0x00004000005FF855 ∧ mapMember 0x00004000005FF855 = 21 ∧ mapZone 0x00004000005FF855 = 3071 ∧
    mapOffset 0x00004000005FF855 = 2048 ∧ 458756 / 512 = 896 ∧ 458756 % 512 * 8 = 32 := by decide +kernel

def io (id cls : Nat) : MCmd := { mcmd0 with id, cls, bytes := 65536 }
def adm0 : Admission :=
  { credit := 0, ccred := List.replicate 8 0, room := 32, queues := [[], [io 1 1, io 2 1, io 3 1], [], [], [], [io 4 5], [], []], admitted := [] }
/-- So many strides of the admission example of chapter 2: member 17 at 32,256 bytes a stride, shares 96 and 32. -/
def strides : Nat → Admission
  | 0 => adm0
  | n + 1 => admitMember 32256 [0, 96, 0, 0, 0, 32, 0, 0] (fun _ => true) false { strides n with admitted := [] }

/-- The member's credit after each stride, and which command each stride admits. -/
theorem test_admission : (List.range 8).map (fun n => (strides n).credit) = [0, -33280, -1024, -34304, -2048, -35328, -3072, -36352] ∧
    (List.range 8).map (fun n => (strides n).admitted.map (fun k => k.id)) = [[], [1], [], [4], [], [2], [], [3]] := by decide +kernel

/-- The rate of an x2 port of the first speed at the default stride, and the engine budget without a derate (R29). -/
theorem test_rates : autoRate 4096 5 2 = 32256 ∧ State.reset.engineBudget = 5056 := by decide +kernel

/-- R30: 70,000 bytes are cut into two full steps and the rest, at 1,040, 1,040 and 156 clocks. -/
theorem test_engine_steps : (cutSteps 1 0 0 (max 1 (ceilDiv 70000 32768)) 70000).map (fun x => (x.bytes, x.clocks)) =
    [(32768, 1040), (32768, 1040), (4464, 156)] := by decide +kernel

/-- The ceiling example of chapter 4: 400 J usable at 2,286 pJ a byte hold 124,234,469,376 bytes. -/
theorem test_ceiling :
    let s := st (fun c => (forN 48 (fun c i => c.updMember i (fun m => { m with slot := .inUse, mstate := .inService })) c).onPower (fun p =>
      { p with usable := 400 }))
    s.eByte = 2286 ∧ s.ownCeiling = 124234469376 := by decide +kernel

/-- The little-endian strings of R3, there and back. -/
theorem test_little_endian : leBytes 4 0x12345678 = [0x78, 0x56, 0x34, 0x12] ∧ leNat [0x78, 0x56, 0x34, 0x12] = 0x12345678 := by decide +kernel

/-- RFC 4231, test case 2, over the same key and text; the tag is the first 16 bytes (R347). -/
theorem test_hmac : hmacTag [0x4a, 0x65, 0x66, 0x65] [0x77, 0x68, 0x61, 0x74, 0x20, 0x64, 0x6f, 0x20, 0x79, 0x61, 0x20, 0x77, 0x61, 0x6e, 0x74,
    0x20, 0x66, 0x6f, 0x72, 0x20, 0x6e, 0x6f, 0x74, 0x68, 0x69, 0x6e, 0x67, 0x3f] =
    [0x5b, 0xdc, 0xc1, 0x46, 0xbf, 0x60, 0x75, 0x4e, 0x6a, 0x04, 0x24, 0x26, 0x08, 0x95, 0x75, 0xc7] := by decide +kernel

/-- The check value of CRC-32C over the digits 1 to 9. -/
theorem test_crc32c : crc32c ((List.range 9).map (fun i => BitVec.ofNat 8 (0x31 + i))) = 0xE3069283 := by decide +kernel

/-! One step each. -/

/-- The command taken by a step. -/
def after (i : Instr) (s : State) : State :=
  match step { s with pending := [i] } with
  | .next t => t
  | _ => s

/-- R16, R21: a boundary of a running clock counts a stride of 4,096 ns; of a stopped clock, nothing. -/
theorem test_stride : (after (.strideBoundary none) (ringed id)).clk.stride = 1 ∧ (after (.strideBoundary none) (ringed id)).clk.opNs = 4096 ∧
    (after (.strideBoundary none) State.reset).clk.stride = 0 := by decide +kernel

/-- The window address of 0x2411 in chapter 8 is that of the object: a write there of an object that only reads is refused and counted. -/
theorem test_window : (0x01A08800 - 0x1000000) / 0x800 + 0x1000 = 0x2411 ∧
    (after (.windowWrite 0xA08800 8 1 0) (bar id id)).dict.log = [] := by decide +kernel

/-- R410: a fault of a region is pending until it is cleared (R411). -/
theorem test_fault : ((after (.faultMessage 48 0x11 none) State.reset).faults.pending.map (fun e => e.1)) = [48] := by decide +kernel

/-- A line of 0 to 63 at address 0x1000, as it is stored. -/
def line0 : MemLine := MemLine.made 0x1000 ((List.range 64).map (BitVec.ofNat 8)) false

/-- R386, R388: a whole line reads good at its address and not at another; one wrong symbol is put right, two are found, and a poisoned line
is uncorrectable. -/
theorem test_line_code : line0.read 0x1000 = .good line0 ∧ line0.read 0x1040 = .uncorrectable ∧
    ({ line0 with data := line0.data.set 5 0xFF }).read 0x1000 = .corrected line0 ∧
    ({ line0 with data := (line0.data.set 5 0xFF).set 9 0xFF }).read 0x1000 = .uncorrectable ∧
    ({ line0 with poison := true, check := lineCheck ({ line0 with poison := true }).info }).read 0x1000 = .uncorrectable := by decide +kernel

/-- R387: one wrong bit of an SRAM word is put right, two are found. -/
theorem test_word_code : sramRead 0x123456789ABCDEF0 (hsiaoCheck 0x123456789ABCDEF0) = .good 0x123456789ABCDEF0 ∧
    sramRead 0x123456789ABCDEF1 (hsiaoCheck 0x123456789ABCDEF0) = .corrected 0x123456789ABCDEF0 ∧
    sramRead 0x123456789ABCDEF3 (hsiaoCheck 0x123456789ABCDEF0) = .uncorrectable := by decide +kernel

/-! Witnesses: the hypotheses of every clause of every statement are met. -/

/-- The cases of Obligations.EmptyQueueIdles are met. -/
theorem witness_EmptyQueueIdles :
    (∃ s : State, (s.pending = [])) :=
  ⟨State.reset, by decide +kernel⟩

/-- The cases of Obligations.ClockStaysLegal are met. -/
theorem witness_ClockStaysLegal :
    (∃ s t : State, (ClockLegal s.toChip) ∧ (step s = .next t)) :=
  ⟨State.reset, State.reset, clock_legal_reset, rfl⟩

/-- The cases of Obligations.OtherCommandsLeaveTheClock are met. -/
theorem witness_OtherCommandsLeaveTheClock :
    (∃ (i : Instr) (s t : State), (movesClock i = false) ∧ (exec i s = .next t)) :=
  ⟨.settingsCommit, State.reset, State.reset.left State.reset.toChip, rfl, rfl⟩

/-- The cases of Obligations.AdmissionKeepsOrderAndWindow are met. -/
theorem witness_AdmissionKeepsOrderAndWindow :
    (∃ a : Admission, a.admitted = [] ∧ a.queues.length = 8 ∧ (admitMember 1 [] (fun _ => true) false a).admitted ≠ []) :=
  ⟨{ credit := 5, ccred := [], room := 4, queues := List.replicate 8 [mcmd0], admitted := [] }, rfl, rfl, by decide +kernel⟩

/-- The cases of Obligations.EngineStepsAreCutAndFit are met. -/
theorem witness_EngineStepsAreCutAndFit :
    (∃ (budget : Nat) (e f : KMap Engine) (x : EngineStep), placeStep budget e x = some f) :=
  ⟨1040, [], [(0, { Engine.reset with loaded := [estep0] })], estep0, by decide +kernel⟩

/-- The cases of Obligations.SyndromesAreR48 are met. -/
theorem witness_SyndromesAreR48 :
    (∃ (cols : List (List Bytes)) (b w j t : Nat), (∀ d ∈ cols, d.length = b ∧ ∀ x ∈ d, x.length = w) ∧ j < b ∧ t < w) :=
  ⟨[[[1], [2]], [[3], [4]]], 2, 1, 1, 0, by decide⟩

/-- The cases of Obligations.TwoLostStripsComeBack are met. -/
theorem witness_TwoLostStripsComeBack :
    (∃ (cols : List (List Bytes)) (b w x y : Nat), cols.length ≤ 30 ∧ (∀ d ∈ cols, d.length = b ∧ ∀ z ∈ d, z.length = w) ∧ x < y ∧ y < cols.length + 2) :=
  ⟨[[[1], [2]], [[3], [4]]], 2, 1, 0, 3, by decide⟩

/-- The cases of Obligations.PlacementSpreadsEveryStripe are met. -/
theorem witness_PlacementSpreadsEveryStripe :
    (∃ (_seed : Nat) (g : Geometry) (_stripe i j : Nat), (g.m ≠ 0) ∧ (g.m * (g.k + 2) ≤ g.n) ∧ (i < g.k + 2) ∧ (j < g.k + 2) ∧ (i ≠ j)) ∧
    (∃ (g : Geometry) (_l : Nat), (0 < g.k)) ∧
    (∃ (g : Geometry) (_stripe i o : Nat), (i < g.k) ∧ (o < g.b)) :=
  ⟨⟨7, geom0, 3, 0, 3, by decide +kernel⟩,
   ⟨geom0, 9, by decide +kernel⟩,
   ⟨geom0, 3, 1, 3, by decide +kernel⟩⟩

/-- The cases of Obligations.RecordsAreNumberedInOrder are met. -/
theorem witness_RecordsAreNumberedInOrder :
    (∃ (c : Chip) (_r : Rec), (c.recorder.permanent.length < 512)) ∧
    (∃ (c : Chip) (_r : Rec), (512 ≤ c.recorder.permanent.length)) :=
  ⟨⟨State.reset.toChip, default, by decide +kernel⟩,
   ⟨{ State.reset.toChip with recorder := { State.reset.recorder with permanent := List.replicate 512 default } }, default, by decide +kernel⟩⟩

/-- The cases of Obligations.KeysNeverLeave are met. -/
theorem witness_KeysNeverLeave :
    (∃ (_c : Chip) (sub : Nat), (sub ≤ 1)) ∧
    (∃ (_s : State) (_slot : Nat) (k1 k2 : Bytes) (_w : Writer), (k1.length = k2.length)) :=
  ⟨⟨State.reset.toChip, 1, by decide +kernel⟩,
   ⟨State.reset, 0, List.replicate 32 1, List.replicate 32 2, host0, by decide +kernel⟩⟩

/-- The cases of Obligations.ConfidenceFollowsTheLearnState are met. -/
theorem witness_ConfidenceFollowsTheLearnState :
    (∃ s : State, (s.power.learn = 1 ∨ s.power.learn = 2)) ∧
    (∃ s : State, (s.power.learn = 0 ∨ s.power.learn = 3)) :=
  ⟨⟨st (fun c => c.onPower (fun p => { p with learn := 2 })), by decide +kernel⟩,
   ⟨State.reset, by decide +kernel⟩⟩

/-- The cases of Obligations.PendingFaultsAreRead are met. -/
theorem witness_PendingFaultsAreRead :
    (∃ (s : State) (source : Nat), (source < 1024) ∧ ∃ p, (s.faults.pending.find source = some p)) ∧
    (∃ (s : State) (source : Nat), (source < 1024) ∧ (s.faults.pending.find source = none)) :=
  ⟨⟨st (fun c => c.onFaults (fun f => { f with pending := [(0x3C0, pend0)] })), 0x3C0, by decide +kernel, pend0, by decide +kernel⟩,
   ⟨State.reset, 1023, by decide +kernel⟩⟩

/-- The cases of Obligations.SupplyLevelsKeepTheirDistance are met. -/
theorem witness_SupplyLevelsKeepTheirDistance :
    (∃ (s : State) (w : Writer), s.start.phase ≠ 6 ∧ s.filtered w = false ∧ (∀ i ∈ [0x4400, 0x4401, 0x4402], ∀ o, s.object i 0 = some o → (s.rightsOf o).testBit (originCode w.origin) = true) ∧ 10399 < s.val 0x4401 + 200 ∧ 10399 < s.val 0x4402 + 400 ∧ s.val 0x4401 < 10500 + 400) :=
  ⟨State.reset, host0, by decide, by decide +kernel, levels_host, by decide +kernel, by decide +kernel, by decide +kernel⟩

/-- The cases of Obligations.BoundariesMoveTheClock are met. -/
theorem witness_BoundariesMoveTheClock :
    (∃ (s : State) (_h : Option Nat), (s.clk.running = true)) ∧
    (∃ (s : State) (_x : LapSample), (s.clk.running = true) ∧ (s.clk.stride % 256 = 0) ∧ (s.clk.lapDone = false)) ∧
    (∃ s : State, (s.start.powered = true) ∧ (s.clk.locked = true)) ∧
    (∃ s : State, (s.clk.locked = false)) :=
  ⟨⟨st (fun c => c.onClk (fun k => { k with running := true })), none, by decide +kernel⟩,
   ⟨st (fun c => c.onClk (fun k => { k with running := true })), lap0, by decide +kernel⟩,
   ⟨st (fun c => (c.onClk (fun k => { k with running := true })).onStart (fun k => { k with powered := true })), by decide +kernel⟩,
   ⟨st (fun c => c.onClk (fun k => { k with locked := false })), by decide +kernel⟩⟩

/-- The cases of Obligations.MarkersSteerTheClock are met. -/
theorem witness_MarkersSteerTheClock :
    (∃ (s : State) (port : Nat) (m : MarkerMsg) (ps : Int), (s.validMarker port m = true) ∧ (s.clk.pacer = false) ∧ (s.clk.follows m = true) ∧ (s.clk.worseCopy m = false) ∧ (s.clk.sync = .locked) ∧ (inPhase (s.phaseError port m ps) = true)) ∧
    (∃ (s : State) (port : Nat) (m : MarkerMsg) (ps : Int), (s.validMarker port m = true) ∧ (s.clk.pacer = false) ∧ (s.clk.follows m = true) ∧ (s.clk.worseCopy m = false) ∧ (s.clk.sync = .locked) ∧ (inPhase (s.phaseError port m ps) = false) ∧ (3 ≤ s.clk.bad) ∧ (s.clk.sinceMarker ≠ 0)) ∧
    (∃ (s : State) (port : Nat) (m : MarkerMsg) (ps : Int), (s.validMarker port m = true) ∧ (s.clk.pacer = false) ∧ (s.clk.follows m = true) ∧ (s.clk.worseCopy m = false) ∧ (s.clk.sync = .holdover) ∧ (inPhase (s.phaseError port m ps) = true) ∧ (3 ≤ s.clk.good) ∧ (s.clk.sinceMarker ≠ 0)) ∧
    (∃ s : State, (s.clk.sync = .locked) ∧ (s.clk.pacer = false) ∧ (8 ≤ s.clk.sinceMarker)) ∧
    (∃ s : State, (s.clk.sync = .holdover) ∧ (256 ≤ s.clk.holdStrides)) ∧
    (∃ s : State, (s.mayPace = true)) :=
  ⟨⟨ringed (fun k => { k with sync := .locked, sinceMarker := 1 }), 1, marker0, 0, by decide +kernel⟩,
   ⟨ringed (fun k => { k with sync := .locked, sinceMarker := 1, bad := 3 }), 1, marker0, 1000000, by decide +kernel⟩,
   ⟨ringed (fun k => { k with sync := .holdover, sinceMarker := 1, good := 3 }), 1, marker0, 0, by decide +kernel⟩,
   ⟨ringed (fun k => { k with sync := .locked, sinceMarker := 8 }), by decide +kernel⟩,
   ⟨ringed (fun k => { k with sync := .holdover, holdStrides := 256 }), by decide +kernel⟩,
   ⟨ringed (fun k => { k with sync := .acquiring, sinceLower := 256, opNs := 10 ^ 12 }), by decide +kernel⟩⟩

/-- The cases of Obligations.ThePlanFreezesWithinTheBudget are met. -/
theorem witness_ThePlanFreezesWithinTheBudget :
    (∃ s : State, (s.clk.running = true) ∧ (s.sched.frozen = false) ∧ (s.enginesStopped = true)) ∧
    (∃ s : State, (s.clk.running = true) ∧ (s.sched.frozen = false)) :=
  ⟨⟨st (fun c => (c.onClk (fun k => { k with running := true })).onFaults (fun f => { f with safe := true })), by decide +kernel⟩,
   ⟨st (fun c => c.onClk (fun k => { k with running := true })), by decide +kernel⟩⟩

/-- The cases of Obligations.EngineStepsEndOnce are met. -/
theorem witness_EngineStepsEndOnce :
    (∃ (s : State) (e k : Nat) (x : EngineStep), ((s.engine e).running.find? (fun y => decide (y.id = k)) = some x) ∧ ((s.stepDone e k).2 = none)) ∧
    (∃ (s : State) (e k j : Nat), ((s.stepDone e k).2 = some (2 * j))) ∧
    (∃ (s : State) (e k j : Nat), ((s.stepDone e k).2 = some (2 * j + 1))) ∧
    (∃ (s : State) (e k : Nat) (x : EngineStep), ((s.engine e).running.find? (fun y => decide (y.id = k)) = some x)) :=
  ⟨⟨st (fun c => c.onSched (fun s => { s with engines := [(0, { Engine.reset with running := [estep0, { estep0 with id := 2 }] })] })), 0, 1, estep0, by decide +kernel⟩,
   ⟨st (fun c => c.onSched (fun s => { s with engines := [(0, { Engine.reset with running := [estep0] })] })), 0, 1, 1, by decide +kernel⟩,
   ⟨st (fun c => c.onSched (fun s => { s with engines := [(0, { Engine.reset with running := [{ estep0 with job := 3 }] })] })), 0, 1, 1, by decide +kernel⟩,
   ⟨st (fun c => c.onSched (fun s => { s with engines := [(0, { Engine.reset with running := [estep0] })] })), 0, 1, estep0, by decide +kernel⟩⟩

/-- The cases of Obligations.TheGateAdmitsWithinTheCeiling are met. -/
theorem witness_TheGateAdmitsWithinTheCeiling :
    (∃ (s : State) (x : Cmd) (l : List Cmd), (s.gated = x :: l) ∧ (s.gatePasses (s.gateNeed x) = false)) ∧
    (∃ (s : State) (x : Cmd), (s.gated = [x]) ∧ (s.gatePasses (s.gateNeed x) = true)) ∧
    (∃ (_s : State) (n : Nat), (n ≠ 0)) ∧
    (∃ (s : State) (p : Nat) (x : Cmd), (s.cqi.cmds.filter (fun y => y.stage = .allowance && decide (y.piste = p)) = [x]) ∧ (s.allowanceApplies p = true) ∧ ((x.growBytes : Int) ≤ (s.piste p).allowance)) ∧
    (∃ (s : State) (p : Nat) (x : Cmd), (s.cqi.cmds.filter (fun y => y.stage = .allowance && decide (y.piste = p)) = [x]) ∧ (s.allowanceApplies p = true) ∧ ((s.piste p).allowance < (x.growBytes : Int))) ∧
    (∃ (s : State) (p : Nat) (w : Cmd), ((s.gated.filter (fun x => decide (x.piste = p))).find? (fun x => decide (s.val 0x2421 p ≤ x.waited)) = some w)) ∧
    (∃ (s : State) (p : Nat), (s.atLap = true) ∧ ((s.piste p).fellBack = true) ∧ (4 ≤ (s.piste p).lowLaps)) ∧
    (∃ (s : State) (p : Nat), (s.atLap = true) ∧ ((s.piste p).throughUntilLane = true) ∧ ((s.piste p).laneNamed = true)) :=
  ⟨⟨st (fun c => c.onCqi (fun q => { q with cmds := [{ cmd0 with opcode := 2, stage := .gated }] })), { cmd0 with opcode := 2, stage := .gated }, [], by decide +kernel⟩,
   ⟨st (fun c => (c.onCqi (fun q => { q with cmds := [{ cmd0 with opcode := 2, stage := .gated }] })).onCache (fun k => { k with ceiling := 4096 })), { cmd0 with opcode := 2, stage := .gated }, by decide +kernel⟩,
   ⟨State.reset, 1, by decide +kernel⟩,
   ⟨allow 4096, 0, { cmd0 with stage := .allowance, growBytes := 4096 }, by decide +kernel⟩,
   ⟨allow 4095, 0, { cmd0 with stage := .allowance, growBytes := 4096 }, by decide +kernel⟩,
   ⟨st (fun c => c.onCqi (fun q => { q with cmds := [{ cmd0 with opcode := 2, stage := .gated, waited := 10 ^ 6 }] })), 0, { cmd0 with opcode := 2, stage := .gated, waited := 10 ^ 6 }, by decide +kernel⟩,
   ⟨st (fun c => c.updPiste 0 (fun x => { x with fellBack := true, lowLaps := 4 })), 0, by decide +kernel⟩,
   ⟨st (fun c => c.updPiste 0 (fun x => { x with throughUntilLane := true, laneNamed := true })), 0, by decide +kernel⟩⟩

/-- The cases of Obligations.DestageCompletionAndReplay are met. -/
theorem witness_DestageCompletionAndReplay :
    (∃ (s : State) (p _q : Nat), (s.mayWrite = true) ∧ (s.faults.safe = false) ∧ ((s.piste p).groomed = false)) ∧
    (∃ (s : State) (p _q : Nat), (s.mayWrite = true) ∧ (s.faults.safe = false) ∧ ((s.piste p).groomed = true) ∧ ((s.waitingBlocks p).any (fun b => decide (b.2.dirtyLap + s.val 0x2424 p ≤ s.lap)) = true)) ∧
    (∃ (s : State) (slot id : Nat) (k : MCmd) (_l : List Bytes), ((s.member slot).outstanding.find? (fun k => decide (k.id = id)) = some k) ∧ ((s.member slot).slot ≠ .contained) ∧ ((∀ t, k.op ≠ .nvmeAbort t))) ∧
    (∃ (s : State), (s.start.phase = 4) ∧ (s.start.replayed = false) ∧ (s.takeOutcomes.missingMembers.chooseSource = .retained)) ∧
    (∃ s : State, (s.start.phase = 4) ∧ (s.start.replayed = true) ∧ (s.replayOver = true)) :=
  ⟨⟨State.reset, 0, 0, by decide +kernel⟩,
   ⟨st (fun c => ((c.updPiste 0 (fun x => { x with groomed := true })).onCache (fun k => { k with blocks := [(0, [ver0])] })).onClk (fun k => { k with stride := 2 ^ 20 })), 0, 0, by decide +kernel⟩,
   ⟨st (fun c => c.updMember 0 (fun m => { m with outstanding := [mcmd0] })), 0, 1, mcmd0, [], by decide +kernel, by decide +kernel, fun _ => by simp [mcmd0]⟩,
   ⟨st (fun c => c.onStart (fun x => { x with phase := 4, retained := true, lostMemory := false })), by decide +kernel⟩,
   ⟨st (fun c => c.onStart (fun x => { x with phase := 4, replayed := true })), by decide +kernel⟩⟩

/-- The cases of Obligations.GroomedMediaEvents are met. -/
theorem witness_GroomedMediaEvents :
    (∃ (s : State) (slot z : Nat), (((s.member slot).zone z).zstate = 2) ∧ (((s.member slot).zone z).role = 0) ∧ (((s.member slot).zone z).parityMode = 1) ∧ (((s.member slot).zone z).verified = false) ∧ (((s.member slot).zone z).verifyLeft = 0) ∧ ((s.piste ((s.member slot).zone z).piste).parityDue.any (fun d => decide (d.2.1 / 2 ^ 20 = slot * 2 ^ 24 + z)) = false)) ∧
    (∃ (s : State) (p page : Nat), (page < 2 ^ 40) ∧ (((s.piste p).pages.getD page MapPage.reset).dirty = true) ∧ (((s.piste p).pages.getD page MapPage.reset).firstChangeLap + s.val 0x2805 ≤ s.lap) ∧ (s.mayWrite = true)) ∧
    (∃ (s : State) (p i page : Nat) (r : RebuildSlot), (page < 2 ^ 40) ∧ ((s.piste p).rebuild.slots[i]? = some r) ∧ (r.unwritten.any (fun t => decide (t.1 = s.areaKey (s.piste p) r page) && decide (t.2 + s.val 0x2805 ≤ s.lap)) = true) ∧ (s.mayWrite = true)) ∧
    (∃ (s : State) (slot z p e : Nat), (s.holders slot = [(p, e)]) ∧ (s.reclaimable p e z = true)) ∧
    (∃ (s : State) (p e z : Nat) (r : Zone), ((s.piste p).groomed = true) ∧ ((s.piste p).suspended = false) ∧ ((s.piste p).copyQueue = []) ∧ (s.mayWrite = true) ∧ (s.chooseVictim p (s.piste p) = some (e, z, r))) ∧
    (∃ (s : State) (p : Nat), ((s.piste p).suspended = true) ∧ ((s.piste p).censusLeft = 0)) :=
  ⟨⟨st (fun c => c.updMember 0 (fun m => { m with zones := [(0, { zone0 with zstate := 2, parityMode := 1 })] })), 0, 0, by decide +kernel⟩,
   ⟨st (fun c => (c.updPiste 0 (fun x => { x with pages := [(0, { MapPage.reset with dirty := true })] })).onClk (fun k => { k with stride := 2 ^ 30 })), 0, 0, by decide +kernel⟩,
   ⟨st (fun c => (c.updPiste 0 (fun x => { x with rebuild := { x.rebuild with slots := [{ rslot0 with unwritten := [(c.areaKey x rslot0 0, 0)] }] } })).onClk (fun k => { k with stride := 2 ^ 30 })), 0, 0, 0, { rslot0 with unwritten := [(State.reset.areaKey Piste.reset rslot0 0, 0)] }, by decide +kernel⟩,
   ⟨zoned (fun x => x) { zone0 with zstate := 2 }, 0, 0, 0, 0, by decide +kernel⟩,
   ⟨zoned (fun x => { x with groomState := 2 }) { zone0 with zstate := 2, live := 1 }, 0, 0, 0, { zone0 with zstate := 2, piste := 0, live := 1 }, by decide +kernel⟩,
   ⟨st (fun c => c.updPiste 0 (fun x => { x with suspended := true })), 0, by decide +kernel⟩⟩

/-- The cases of Obligations.DegradedServiceEnds are met. -/
theorem witness_DegradedServiceEnds :
    (∃ (s : State) (slot id g col : Nat) (k : MCmd), ((s.member slot).outstanding.find? (fun k => decide (k.id = id)) = some k) ∧ (k.deadline = some 0) ∧ (k.purpose = .gather g col)) ∧
    (∃ s : State, (s.lap % max 1 (s.val 0x2C15) = 0)) ∧
    (∃ (s : State) (slot ns : Nat), ((s.member slot).mstate = .failed) ∧ ((s.member slot).failNs = some ns) ∧ ((s.member slot).graceOver = false) ∧ (s.elapsedMs ns (s.val 0x2C12) = true)) ∧
    (∃ (s : State) (slot : Nat), ((s.member slot).mstate = .resyncing) ∧ (s.logs.find? (fun l => l.open_ && decide (l.slot = slot)) = none) ∧ (s.holders slot = [])) ∧
    (∃ (s : State) (p i : Nat) (r : RebuildSlot), ((s.piste p).rebuild.slots[i]? = some r) ∧ (r.state = 2) ∧ (s.slotPassed (s.piste p) r = true) ∧ (s.rebuildOpen p (fun _ => true) = false)) ∧
    (∃ (s : State) (p i : Nat) (x : PriorityItem), ((s.piste p).rebuild.items[i]? = some x) ∧ (s.itemPassed (s.piste p) x = true)) ∧
    (∃ (s : State) (slot : Nat), ((s.member slot).mstate = .draining) ∧ (s.slotsDone slot = true)) ∧
    (∃ (s : State) (p slot e : Nat) (r : RebuildSlot), ((s.piste p).groomed = false) ∧ ((s.indicesOf (s.piste p) slot).find? (fun e => match (s.piste p).slotOf e with | some r => decide (r.state = 4) | none => false) = some e) ∧ ((s.piste p).slotOf e = some r) ∧ ((s.piste p).geom.rows ≤ r.copyMark) ∧ (s.rebuildOpen p (fun _ => true) = false)) :=
  ⟨⟨st (fun c => c.updMember 0 (fun m => { m with outstanding := [{ mcmd0 with deadline := some 0, purpose := .gather 1 0 }] })), 0, 1, 1, 0, { mcmd0 with deadline := some 0, purpose := .gather 1 0 }, by decide +kernel⟩,
   ⟨State.reset, by decide +kernel⟩,
   ⟨st (fun c => (c.updMember 0 (fun m => { m with mstate := .failed, failNs := some 0 })).onClk (fun k => { k with opNs := 10 ^ 18 })), 0, 0, by decide +kernel⟩,
   ⟨st (fun c => c.updMember 0 (fun m => { m with mstate := .resyncing })), 0, by decide +kernel⟩,
   ⟨st (fun c => c.updPiste 0 (fun x => { x with rebuild := { x.rebuild with slots := [rslot0] } })), 0, 0, rslot0, by decide +kernel⟩,
   ⟨st (fun c => c.updPiste 0 (fun x => { x with rebuild := { x.rebuild with items := [{ peerA := 0, peerB := 1, mark := 0, strip := 0 }] } })), 0, 0, { peerA := 0, peerB := 1, mark := 0, strip := 0 }, by decide +kernel⟩,
   ⟨st (fun c => c.updMember 0 (fun m => { m with mstate := .draining })), 0, by decide +kernel⟩,
   ⟨st (fun c => c.updPiste 0 (fun x => { x with list := [(0, 0)], rebuild := { x.rebuild with slots := [{ rslot0 with state := 4 }] } })), 0, 0, 0, { rslot0 with state := 4 }, by decide +kernel⟩⟩

/-- The cases of Obligations.SweepsAndHoldsEnd are met. -/
theorem witness_SweepsAndHoldsEnd :
    (∃ (s : State) (p q : Nat) (l : LostStripe), (s.cache.lostStripes.find? (fun l => decide (l.piste = p) && decide (l.stripe = q) && l.held) = some l) ∧ (l.sinceLap + s.val 0x2C53 ≤ s.lap) ∧ let blocks := ((bitsOf 32 l.columns).map (fun col => ((s.piste p).geometry ⟨p, l.newGeom, 0, q⟩).hostRange q col l.first l.count)).flatten
    (blocks.filter (fun b => (s.versions p b).any (fun v => decide (v.state = .dirty) && decide (v.entry = 0))) = [])) ∧
    (∃ (s : State) (p q : Nat) (l : LostStripe), (s.cache.lostStripes.find? (fun l => decide (l.piste = p) && decide (l.stripe = q) && l.held) = some l) ∧ (l.sinceLap + s.val 0x2C53 ≤ s.lap) ∧ let blocks := ((bitsOf 32 l.columns).map (fun col => ((s.piste p).geometry ⟨p, l.newGeom, 0, q⟩).hostRange q col l.first l.count)).flatten
    let gone := blocks.filter (fun b => (s.versions p b).any (fun v => decide (v.state = .dirty) && decide (v.entry = 0)))
    (gone ≠ [])) ∧
    (∃ (s : State) (h : Nat) (w : Sweep), (s.sweepOf h = some w) ∧ (s.sweepOver w = true) ∧ (w.cancelled = false) ∧ (s.gathers.vals.any (fun g => decide (g.why = .check h)) = false)) ∧
    (∃ (s : State) (h : Nat) (w : Sweep), (s.sweepOf h = some w) ∧ (w.cancelled = true) ∧ (s.gathers.vals.any (fun g => decide (g.why = .check h)) = false)) ∧
    (∃ (s : State) (h p n slot : Nat) (x : Piste) (a b : List (Nat × Piste)), (s.livePistes = a ++ (p, x) :: b) ∧ ((∀ y ∈ a ++ b, y.2.forced.find? (fun f => decide (f.1 = h)) = none)) ∧ (x.forced.find? (fun f => decide (f.1 = h)) = some (h, slot, n)) ∧ (n ≤ 2 ^ 32) ∧ ((s.handle h).cancelling = false)) :=
  ⟨⟨st (fun c => (c.onCache (fun k => { k with lostStripes := [lost0] })).onClk (fun k => { k with stride := 2 ^ 40 })), 0, 0, lost0, by decide +kernel⟩,
   ⟨st (fun c => ((c.onCache (fun k => { k with lostStripes := [{ lost0 with columns := 1, count := 1 }], blocks := [(0, [ver0])] })).onClk (fun k => { k with stride := 2 ^ 40 })).updPiste 0 (fun x => { x with geom := geom0 })), 0, 0, { lost0 with columns := 1, count := 1 }, by decide +kernel⟩,
   ⟨st (fun c => c.onCqi (fun q => { q with sweeps := [sweep0] })), 0, sweep0, by decide +kernel⟩,
   ⟨st (fun c => c.onCqi (fun q => { q with sweeps := [{ sweep0 with cancelled := true }] })), 0, { sweep0 with cancelled := true }, by decide +kernel⟩,
   ⟨forced1, 0, 0, 1, 0xFF, forced1.piste 0, [], [], by decide +kernel⟩⟩

/-- The cases of Obligations.PistesChangeState are met. -/
theorem witness_PistesChangeState :
    (∃ (s : State) (p : Nat), ((s.piste p).state = .creating) ∧ ((s.piste p).zeroLeft = 0)) ∧
    (∃ (s : State) (p : Nat), ((s.piste p).state = .stopping) ∧ (s.pisteDirty p = 0) ∧ (s.journal.entries.any (fun t => decide (t.2.piste = p)) = false) ∧ (s.cache.blocks.any (fun b => decide (b.1 / 2 ^ 64 = p) && b.2.any (fun v => decide (v.state = .through))) = false)) ∧
    (∃ (s : State) (p : Nat), ((s.piste p).state = .deleting) ∧ ((s.piste p).releaseLeft = 0) ∧ ((s.piste p).dirGen ≤ s.dir.durable)) ∧
    (∃ (s : State) (p : Nat) (w : Writer), (s.commandReason 0x3020 p w (s.runReason p 0) = 0)) ∧
    (∃ (s : State) (p : Nat) (w : Writer), (s.commandReason 0x3020 p w (s.runReason p 1) = 0)) ∧
    (∃ (s : State) (g : Nat), (s.dir.durable < g) ∧ (g ≤ s.dir.generation) ∧ (min 3 s.directoryMembers.length ≤ (s.dir.copies.getD g []).length)) ∧
    (∃ (s : State) (p : Nat), ((s.piste p).groomed = false) ∧ ((s.piste p).fall.state = 3) ∧ ((s.piste p).handle ≠ 0) ∧ ((s.piste p).fall.finish ≠ 0) ∧ ((s.piste p).fall.finish ≤ s.dir.durable) ∧ (s.journal.entries.any (fun t => decide (t.2.piste = p) && !t.2.newGeom) = false) ∧ (s.gathers.any (fun t => decide (t.2.piste = p) && !t.2.newGeom) = false)) ∧
    (∃ (s : State) (p : Nat), ((s.piste p).groomed = false) ∧ ((s.piste p).fall.state = 3) ∧ ((s.piste p).fall.finish = 0)) ∧
    (∃ (s : State) (p : Nat), ((s.piste p).fall.state = 2) ∧ ((s.piste p).rebuild.slots.all (fun r => decide (r.state = 3)) = true) ∧ ((List.range (s.piste p).list.length).all (fun e => match s.localSlot (s.piste p) e with
      | some m => decide ((s.member m).mstate ≠ .failed) || decide (e ∈ (s.piste p).repl)
      | none => true) = true)) :=
  ⟨⟨st (fun c => c.updPiste 0 (fun x => { x with state := .creating })), 0, by decide +kernel⟩,
   ⟨st (fun c => c.updPiste 0 (fun x => { x with state := .stopping })), 0, by decide +kernel⟩,
   ⟨st (fun c => c.updPiste 0 (fun x => { x with state := .deleting })), 0, by decide +kernel⟩,
   ⟨st (fun c => c.updPiste 0 (fun x => { x with state := .online })), 0, host0, by decide +kernel⟩,
   ⟨st (fun c => c.updPiste 0 (fun x => { x with state := .stopped })), 0, host0, by decide +kernel⟩,
   ⟨st (fun c => { c with dir := { c.dir with generation := c.dir.durable + 1 } }), State.reset.dir.durable + 1, by decide +kernel⟩,
   ⟨st (fun c => { c.updPiste 0 (fun x => { x with handle := 1, fall := { x.fall with state := 3, finish := 1 } }) with dir := { c.dir with durable := 1 } }), 0, by decide +kernel⟩,
   ⟨st (fun c => c.updPiste 0 (fun x => { x with fall := { x.fall with state := 3 } })), 0, by decide +kernel⟩,
   ⟨st (fun c => c.updPiste 0 (fun x => { x with fall := { x.fall with state := 2 } })), 0, by decide +kernel⟩⟩

/-- The cases of Obligations.DataCommandsBegin are met. -/
theorem witness_DataCommandsBegin :
    (∃ (s : State) (q cid : Nat) (x : Cmd), (s.freshCmd q cid 1 = some x) ∧ (x.segment = none) ∧ ((s.earlierWrites x).isEmpty = false)) ∧
    (∃ (s : State) (q cid : Nat) (x : Cmd), (s.freshCmd q cid 1 = some x) ∧ (x.segment = none) ∧ ((s.earlierWrites x).isEmpty = true)) ∧
    (∃ (s : State) (q cid a n : Nat) (x : Cmd), (s.freshCmd q cid 1 = some x) ∧ (x.segment = some (a, n))) ∧
    (∃ (s : State) (q cid : Nat) (x : Cmd), (s.freshCmd q cid 2 = some x)) ∧
    (∃ (s : State) (x : Cmd), (s.gated = []) ∧ ((s.asMode x).through = false) ∧ (s.gateNeed (s.asMode x) ≠ 0) ∧ (s.gatePasses (s.gateNeed (s.asMode x)) = false)) ∧
    (∃ (s : State) (q cid : Nat) (x : Cmd), (s.freshCmd q cid 3 = some x)) ∧
    (∃ (s : State) (q cid : Nat) (x : Cmd), (s.freshCmd q cid 4 = some x)) ∧
    (∃ (s : State) (q cid : Nat) (x : Cmd), (s.freshCmd q cid 5 = some x)) :=
  ⟨⟨cqi1 [{ cmd0 with cid := 5, opcode := 2 }, { cmd0 with acc := 2 }], 0, 0, { cmd0 with acc := 2 }, by decide +kernel⟩,
   ⟨cqi1 [cmd0], 0, 0, cmd0, by decide +kernel⟩,
   ⟨cqi1 [{ cmd0 with segment := some (0, 1) }], 0, 0, 0, 1, { cmd0 with segment := some (0, 1) }, by decide +kernel⟩,
   ⟨cqi1 [{ cmd0 with opcode := 2 }, { cmd0 with cid := 5, opcode := 2, stage := .gated }], 0, 0, { cmd0 with opcode := 2 }, by decide +kernel⟩,
   ⟨State.reset, { cmd0 with opcode := 2 }, by decide +kernel⟩,
   ⟨cqi1 [{ cmd0 with opcode := 3 }], 0, 0, { cmd0 with opcode := 3 }, by decide +kernel⟩,
   ⟨cqi1 [{ cmd0 with opcode := 4 }], 0, 0, { cmd0 with opcode := 4 }, by decide +kernel⟩,
   ⟨cqi1 [{ cmd0 with opcode := 5 }], 0, 0, { cmd0 with opcode := 5 }, by decide +kernel⟩⟩

/-- The cases of Obligations.ShortCommandsAnswer are met. -/
theorem witness_ShortCommandsAnswer :
    (∃ (s : State) (cid : Nat) (f : Fetched), (Heads s 0x08 cid f) ∧ (s.findCmd ((parseSub f.bytes).arg0 % 65536) ((parseSub f.bytes).arg0 / 65536 % 65536) = none)) ∧
    (∃ (s : State) (cid : Nat) (f : Fetched) (x : Cmd), (Heads s 0x08 cid f) ∧ (s.findCmd ((parseSub f.bytes).arg0 % 65536) ((parseSub f.bytes).arg0 / 65536 % 65536) = some x) ∧ (x.endable = true)) ∧
    (∃ (s : State) (cid : Nat) (f : Fetched) (x : Cmd), (Heads s 0x08 cid f) ∧ (s.findCmd ((parseSub f.bytes).arg0 % 65536) ((parseSub f.bytes).arg0 / 65536 % 65536) = some x) ∧ (x.endable = false)) ∧
    (∃ (s : State) (cid : Nat) (f : Fetched), (Heads s 0x10 cid f)) ∧
    (∃ (s : State) (cid : Nat) (f : Fetched) (b : Bytes), (Heads s 0x11 cid f) ∧ (s.readObject ((parseSub f.bytes).arg0 % 65536) ((parseSub f.bytes).arg0 / 65536 % 256) = some b)) ∧
    (∃ (s : State) (cid : Nat) (f : Fetched) (o : Obj), (Heads s 0x12 cid f) ∧ (s.object ((parseSub f.bytes).arg0 % 65536) ((parseSub f.bytes).arg0 / 65536 % 256) = some o) ∧ (s.passesOn ((parseSub f.bytes).arg0 % 65536) ((parseSub f.bytes).arg0 / 65536 % 256) = false) ∧ (s.adp.pairWait = [])) ∧
    (∃ (s : State) (cid : Nat) (f : Fetched), (Heads s 0x28 cid f) ∧ ((parseSub f.bytes).arg0 % 2 ^ 32 ≠ 0) ∧ ((s.handle ((parseSub f.bytes).arg0 % 2 ^ 32 % 65536)).value = (parseSub f.bytes).arg0 % 2 ^ 32) ∧ ((s.handle ((parseSub f.bytes).arg0 % 2 ^ 32 % 65536)).state ≠ 0)) ∧
    (∃ (s : State) (cid : Nat) (f : Fetched), (Heads s 0x28 cid f) ∧ let v := (parseSub f.bytes).arg0 % 2 ^ 32
    (v = 0 ∨ (s.handle (v % 65536)).value ≠ v)) ∧
    (∃ (s : State) (cid : Nat) (f : Fetched), (Heads s 0x29 cid f) ∧ let v := (parseSub f.bytes).arg0 % 2 ^ 32
    (v = 0 ∨ (s.handle (v % 65536)).value ≠ v ∨ (s.handle (v % 65536)).state ≠ 0)) ∧
    (∃ (s : State) (cid : Nat) (f : Fetched), (Heads s 0x29 cid f) ∧ let v := (parseSub f.bytes).arg0 % 2 ^ 32
    (v ≠ 0) ∧ ((s.handle (v % 65536)).value = v) ∧ ((s.handle (v % 65536)).state = 0) ∧ (v / 2 ^ 28 ∉ [4, 5, 6, 9])) ∧
    (∃ (s : State) (cid : Nat) (f : Fetched), (Heads s 0x29 cid f) ∧ let v := (parseSub f.bytes).arg0 % 2 ^ 32
    (v ≠ 0) ∧ ((s.handle (v % 65536)).value = v) ∧ ((s.handle (v % 65536)).state = 0) ∧ ((s.handle (v % 65536)).cancelling = false) ∧ (v / 2 ^ 28 ∈ [4, 5, 6, 9])) ∧
    (∃ (s : State) (q : Nat) (f : Fetched), (s.headOf q = some f) ∧ ((s.queue q).qstate = 1) ∧ (s.cqi.unitState = 1) ∧ (s.pair.handover = false) ∧ (opcodeAllowed q (parseSub f.bytes).opcode = false)) :=
  ⟨⟨headed (fet0 (sub0 0x08 0 0 5 0) []) id, 7, fet0 (sub0 0x08 0 0 5 0) [], by unfold Heads; decide +kernel⟩,
   ⟨headed (fet0 (sub0 0x08 0 0 0 0) []) (fun c => c.onCqi (fun q => { q with cmds := [cmd0] })), 7, fet0 (sub0 0x08 0 0 0 0) [], cmd0, by unfold Heads; decide +kernel⟩,
   ⟨headed (fet0 (sub0 0x08 0 0 0 0) []) (fun c => c.onCqi (fun q => { q with cmds := [{ cmd0 with opcode := 2, stage := .whole }] })), 7, fet0 (sub0 0x08 0 0 0 0) [], { cmd0 with opcode := 2, stage := .whole }, by unfold Heads; decide +kernel⟩,
   ⟨headed (fet0 (sub0 0x10 1 0 1 64 |>.set 17 4) []) id, 7, fet0 (sub0 0x10 1 0 1 64 |>.set 17 4) [], by unfold Heads; decide +kernel⟩,
   ⟨headed (fet0 (sub0 0x11 0 0 0x441D 0) []) id, 7, fet0 (sub0 0x11 0 0 0x441D 0) [], [0x20, 0x03], by unfold Heads; decide +kernel⟩,
   ⟨headed (fet0 (sub0 0x12 0 0 0x441D 0) []) id, 7, fet0 (sub0 0x12 0 0 0x441D 0) [], (State.reset.object 0x441D 0).getD default, by unfold Heads; decide +kernel⟩,
   ⟨headed (fet0 (sub0 0x28 0 0 (2 ^ 30) 0) []) (fun c => c.updHandle 0 (fun h => { h with value := 2 ^ 30, state := 1 })), 7, fet0 (sub0 0x28 0 0 (2 ^ 30) 0) [], by unfold Heads; decide +kernel⟩,
   ⟨headed (fet0 (sub0 0x28 0 0 0 0) []) id, 7, fet0 (sub0 0x28 0 0 0 0) [], by unfold Heads; decide +kernel⟩,
   ⟨headed (fet0 (sub0 0x29 0 0 0 0) []) id, 7, fet0 (sub0 0x29 0 0 0 0) [], by unfold Heads; decide +kernel⟩,
   ⟨headed (fet0 (sub0 0x29 0 0 (2 ^ 28) 0) []) (fun c => c.updHandle 0 (fun h => { h with value := 2 ^ 28 })), 7, fet0 (sub0 0x29 0 0 (2 ^ 28) 0) [], by unfold Heads; decide +kernel⟩,
   ⟨headed (fet0 (sub0 0x29 0 0 (2 ^ 30) 0) []) (fun c => c.updHandle 0 (fun h => { h with value := 2 ^ 30 })), 7, fet0 (sub0 0x29 0 0 (2 ^ 30) 0) [], by unfold Heads; decide +kernel⟩,
   ⟨headed (fet0 (sub0 0x7F 0 0 0 0) []) id, 0, fet0 (sub0 0x7F 0 0 0 0) [], by decide +kernel⟩⟩

/-- The cases of Obligations.LongCommandsTakeAHandle are met. -/
theorem witness_LongCommandsTakeAHandle :
    (∃ (s : State) (cid h : Nat) (f : Fetched), (Heads s 0x20 cid f) ∧ (s.freeHandle = some h) ∧ (firstReserved f.host (descReserved (listLimit (parseDesc f.host).n)) = none) ∧ (s.checks123 (parseDesc f.host) = none) ∧ ((parseDesc f.host).spanning = false) ∧ (s.ring.checks = []) ∧ (firstFailed [s.check4 (decide ((parseDesc f.host).ty = 1)) false (stripBlocks (parseDesc f.host).strip) 0 (parseDesc f.host).list,
      s.check5 (parseDesc f.host), (s.chooseExtentFor (parseDesc f.host)).2.failed] = none) ∧ (s.check7 (parseDesc f.host) = none) ∧ ((s.chooseExtentFor (parseDesc f.host)).1.freeHandle = some h)) ∧
    (∃ (s : State) (cid h : Nat) (f : Fetched), (Heads s 0x21 cid f) ∧ (s.freeHandle = some h)) ∧
    (∃ (s : State) (cid h : Nat) (f : Fetched), (Heads s 0x22 cid f) ∧ let p := (parseSub f.bytes).piste
    let d := parseReshape f.host (s.piste p)
    (firstReserved f.host (reshapeReserved (if leAt f.host 2 2 = 0 then 0 else listLimit d.n)) = none) ∧ ((s.piste p).atRest = true) ∧ ((s.piste p).spanning = false) ∧ (s.ring.checks = []) ∧ (firstFailed [s.reshapeChecks (s.piste p) d, (s.reshapeExtent (s.piste p) d).2.2] = none) ∧ ((s.reshapeExtent (s.piste p) d).1.freeHandle = some h)) ∧
    (∃ (s : State) (cid h : Nat) (f : Fetched), (Heads s 0x23 cid f) ∧ (s.freeHandle = some h) ∧ ((parseSub f.bytes).arg0 % 2 = 0) ∧ ((s.rebuildTargets (parseSub f.bytes)).isEmpty = false)) ∧
    (∃ (s : State) (cid h : Nat) (f : Fetched), (Heads s 0x24 cid f) ∧ (s.freeHandle = some h)) ∧
    (∃ (s : State) (cid h : Nat) (f : Fetched), (Heads s 0x25 cid f) ∧ (s.freeHandle = some h)) ∧
    (∃ (s : State) (cid h : Nat) (f : Fetched), (Heads s 0x26 cid f) ∧ (s.freeHandle = some h) ∧ (s.drainable ((parseSub f.bytes).arg0 % 256) = true)) ∧
    (∃ (s : State) (cid h : Nat) (f : Fetched), (Heads s 0x27 cid f) ∧ (s.freeHandle = some h) ∧ (s.addable ((parseSub f.bytes).arg0 % 256) ((parseSub f.bytes).arg1 % 4) = true)) ∧
    (∃ (s : State) (cid h : Nat) (f : Fetched), (Heads s 0x2A cid f) ∧ (s.freeHandle = some h) ∧ (s.power.supply = .normal) ∧ (s.vaultSlots.all s.vaultDriveUp = true) ∧ ((s.image 0).status ≠ 2)) :=
  ⟨⟨headed (fet0 (sub0 0x20 1 0 0 0 |>.set 17 4) desc0) (drives 4), 7, 0, fet0 (sub0 0x20 1 0 0 0 |>.set 17 4) desc0, by unfold Heads; decide +kernel⟩,
   ⟨headed (fet0 (sub0 0x21 0 0 0 0) []) (fun c => c.updPiste 0 (fun x => { x with state := .stopped })), 7, 0, fet0 (sub0 0x21 0 0 0 0) [], by unfold Heads; decide +kernel⟩,
   ⟨headed (fet0 (sub0 0x22 1 0 0 0 |>.set 17 4) reshape0) (fun c => (drives 5 c).updPiste 0 piste0), 7, 0, fet0 (sub0 0x22 1 0 0 0 |>.set 17 4) reshape0, by unfold Heads; decide +kernel⟩,
   ⟨headed (fet0 (sub0 0x23 0 0 0 0) []) (fun c => (drives 4 c).updPiste 0 (fun x => { piste0 x with geom := geom0 })), 7, 0, fet0 (sub0 0x23 0 0 0 0) [], by unfold Heads; decide +kernel⟩,
   ⟨headed (fet0 (sub0 0x24 0 0 0 1) []) (fun c => c.updPiste 0 piste0), 7, 0, fet0 (sub0 0x24 0 0 0 1) [], by unfold Heads; decide +kernel⟩,
   ⟨headed (fet0 (sub0 0x25 0 0 0xFF 0) []) (fun c => c.updPiste 0 (fun x => { piste0 x with groomed := true })), 7, 0, fet0 (sub0 0x25 0 0 0xFF 0) [], by unfold Heads; decide +kernel⟩,
   ⟨headed (fet0 (sub0 0x26 0 0 0 0) []) (drives 1), 7, 0, fet0 (sub0 0x26 0 0 0 0) [], by unfold Heads; decide +kernel⟩,
   ⟨headed (fet0 (sub0 0x27 0 0 9 1) []) (drives 10), 7, 0, fet0 (sub0 0x27 0 0 9 1) [], by unfold Heads; decide +kernel⟩,
   ⟨headed (fet0 (sub0 0x2A 0 0 0 0) []) (fun c => (c.updMember 46 (fun m => { m with slot := .inUse })).updMember 47 (fun m => { m with slot := .inUse })), 7, 0, fet0 (sub0 0x2A 0 0 0 0) [], by unfold Heads; decide +kernel⟩⟩

/-- The cases of Obligations.DoorbellsAndEnablesMoveTheQueues are met. -/
theorem witness_DoorbellsAndEnablesMoveTheQueues :
    (∃ (s : State) (q v _r : Nat), (s.barOpen = true) ∧ (q < 1024) ∧ ((s.queue q).qstate = 1) ∧ (v % 65536 < (s.queue q).sqSize)) ∧
    (∃ (s : State) (q v _r : Nat), (s.barOpen = true) ∧ (q < 1024) ∧ ((s.queue q).qstate = 1) ∧ ((s.queue q).sqSize ≤ v % 65536)) ∧
    (∃ (s : State) (_q _v _r : Nat), (s.barOpen = false) ∧ (s.host.ready = true)) ∧
    (∃ (s : State) (q v : Nat), (s.barOpen = true) ∧ (0 < q) ∧ (q < 1024) ∧ ((s.queue q).qstate ≠ 0) ∧ (v % 65536 < (s.queue q).cqSize) ∧ ((v % 65536 + (s.queue q).cqSize - (s.queue q).cqHead) % (s.queue q).cqSize ≤
      ((s.queue q).cqTail + (s.queue q).cqSize - (s.queue q).cqHead) % (s.queue q).cqSize)) ∧
    (∃ (s : State) (q v : Nat), (s.barOpen = true) ∧ (q < 1024) ∧ ((s.queue q).qstate ≠ 0) ∧ ((s.queue q).qstate ≠ 3) ∧ ((s.queue q).cqSize ≤ v % 65536)) ∧
    (∃ (s : State) (q : Nat), (s.barOpen = true) ∧ (q < 1024) ∧ ((s.queue q).qstate = 0) ∧ ((s.queue q).fit q = true) ∧ (q = 0 ∨ (s.queue 0).qstate = 1)) ∧
    (∃ (s : State) (q : Nat), (s.barOpen = true) ∧ (q < 1024) ∧ ((s.queue q).qstate = 0) ∧ ((s.queue q).fit q = false)) ∧
    (∃ (s : State) (q : Nat), (s.barOpen = true) ∧ (0 < q) ∧ (q < 1024) ∧ ((s.queue q).qstate = 1)) ∧
    (∃ (s : State) (q : Nat), ((s.queue q).qstate = 2) ∧ (s.cqi.cmds.any (fun y => decide (y.queue = q) && !y.dead) = false) ∧ (s.cqi.held.any (fun e => !e.event && decide (e.queue = q)) = false)) ∧
    (∃ (s : State) (_b : Bool), (s.barOpen = true)) :=
  ⟨⟨bar id (fun c => c.updQueue 1 pair1), 1, 63, 0, by decide +kernel⟩,
   ⟨bar id (fun c => c.updQueue 1 pair1), 1, 64, 0, by decide +kernel⟩,
   ⟨st (fun c => c.onHost (fun h => { h with ready := true })), 0, 0, 0, by decide +kernel⟩,
   ⟨bar id (fun c => c.updQueue 1 pair1), 1, 2, by decide +kernel⟩,
   ⟨bar id (fun c => c.updQueue 1 pair1), 1, 128, by decide +kernel⟩,
   ⟨bar id (fun c => c.updQueue 0 (fun x => { x with sqEntriesM1 := 63, cqEntriesM1 := 127 })), 0, by decide +kernel⟩,
   ⟨bar id id, 1, by decide +kernel⟩,
   ⟨bar id (fun c => c.updQueue 1 pair1), 1, by decide +kernel⟩,
   ⟨bar id (fun c => c.updQueue 1 (fun x => { x with qstate := 2 })), 1, by decide +kernel⟩,
   ⟨bar id id, true, by decide +kernel⟩⟩

/-- The cases of Obligations.HostReadsEnd are met. -/
theorem witness_HostReadsEnd :
    (∃ (s : State) (_off _size _v : Nat), (s.barOpen = true)) ∧
    (∃ s : State, (s.cqi.enable = true) ∧ (s.hostOpen = true)) ∧
    (∃ (s : State) (tag : Nat) (_b : Bytes) (r : HostRead), (s.host.reads.find? (fun r => decide (r.tag = tag)) = some r)) ∧
    (∃ (s : State) (tag : Nat) (r : HostRead), (s.host.reads.find? (fun r => decide (r.tag = tag)) = some r)) ∧
    (∃ (s : State) (tag : Nat) (_out : HostReadOutcome), (s.host.reads.find? (fun r => decide (r.tag = tag)) = none)) ∧
    (∃ (s : State) (tag : Nat) (r : HostRead), (s.host.reads.find? (fun r => decide (r.tag = tag)) = some r)) :=
  ⟨⟨bar id id, 0, 4, 0, by decide +kernel⟩,
   ⟨bar id (fun c => c.onCqi (fun q => { q with enable := true })), by decide +kernel⟩,
   ⟨bar (fun h => { h with reads := [read0] }) id, 3, [], read0, by decide +kernel⟩,
   ⟨bar (fun h => { h with reads := [read0] }) id, 3, read0, by decide +kernel⟩,
   ⟨bar id id, 3, .data [], by decide +kernel⟩,
   ⟨bar (fun h => { h with reads := [read0] }) id, 3, read0, by decide +kernel⟩⟩

/-- The cases of Obligations.WindowAndMailboxReachTheDictionary are met. -/
theorem witness_WindowAndMailboxReachTheDictionary :
    (∃ (s : State) (off _size _v _r index sub : Nat), (s.barOpen = true) ∧ (0x1000000 ≤ off) ∧ (off < 0x4000000) ∧ (index = 0x1000 + (off - 0x1000000) / 0x800) ∧ (sub = off % 0x800 / 8)) ∧
    (∃ (s : State) (_off _size _v _r : Nat), (s.host.ready = true) ∧ (s.barOpen = false)) ∧
    (∃ (s : State) (b : Bytes), (s.barOpen = true) ∧ (s.host.mailbox.op = 1) ∧ (s.host.mailbox.status ≠ 1) ∧ (s.host.mailbox.ok = true) ∧ (s.served s.host.mailbox.index = true) ∧ (s.readObject s.host.mailbox.index s.host.mailbox.sub = some b) ∧ (s.host.mailbox.offset ≤ b.length)) ∧
    (∃ (s : State), (s.barOpen = true) ∧ (s.host.mailbox.op = 1) ∧ (s.host.mailbox.status ≠ 1) ∧ (s.served s.host.mailbox.index = false ∨ s.readObject s.host.mailbox.index s.host.mailbox.sub = none)) ∧
    (∃ (s : State) (b : Bytes), (s.barOpen = true) ∧ (s.host.mailbox.op = 1) ∧ (s.host.mailbox.status ≠ 1) ∧ (s.served s.host.mailbox.index = true) ∧ (s.readObject s.host.mailbox.index s.host.mailbox.sub = some b) ∧ (s.host.mailbox.ok = false ∨ b.length < s.host.mailbox.offset)) ∧
    (∃ (s : State) (_r : Nat), (s.barOpen = true) ∧ (s.host.mailbox.status = 1) ∧ (s.host.mailbox.op = 1)) ∧
    (∃ (s : State) (_r : Nat), (s.barOpen = true) ∧ (s.host.mailbox.status = 1) ∧ (s.host.mailbox.op = 2)) ∧
    (∃ (s : State) (_r : Nat), (s.barOpen = true) ∧ (s.host.mailbox.op = 2) ∧ (s.host.mailbox.status ≠ 1)) ∧
    (∃ (s : State) (v : Nat), ((s.msixEntry v).pending = true) ∧ (s.host.msixMask = false) ∧ (s.host.msixEnable = true)) ∧
    (∃ (s : State) (v : Nat), ((s.msixEntry v).pending = false ∨ s.host.msixMask = true ∨ s.host.msixEnable = false)) :=
  ⟨⟨bar id id, 0x1000000 + (0x441D - 0x1000) * 0x800, 4, 900, 0, 0x441D, 0, by decide +kernel⟩,
   ⟨bar (fun h => { h with d3 := true }) id, 0, 4, 0, 0, by decide +kernel⟩,
   ⟨bar (fun h => { h with mailbox := { h.mailbox with op := 1, index := 0x441D, length := 2 } }) id, [0x20, 0x03], by decide +kernel⟩,
   ⟨bar (fun h => { h with mailbox := { h.mailbox with op := 1, index := 0x0001, length := 2 } }) id, by decide +kernel⟩,
   ⟨bar (fun h => { h with mailbox := { h.mailbox with op := 1, index := 0x441D, length := 2, offset := 8 } }) id, [0x20, 0x03], by decide +kernel⟩,
   ⟨bar (fun h => { h with mailbox := { h.mailbox with op := 1, index := 0x441D, length := 2, status := 1 } }) id, 0, by decide +kernel⟩,
   ⟨bar (fun h => { h with mailbox := { h.mailbox with op := 2, index := 0x441D, length := 2, status := 1 } }) id, 0, by decide +kernel⟩,
   ⟨bar (fun h => { h with mailbox := { h.mailbox with op := 2, index := 0x441D, length := 2, buffer := [(0, 0x84), (1, 0x03)] } }) id, 0, by decide +kernel⟩,
   ⟨bar (fun h => { h with msixEnable := true, msix := [(0, { address := 0, data := 0, mask := false, pending := true })] }) id, 0, by decide +kernel⟩,
   ⟨bar id id, 0, by decide +kernel⟩⟩

/-- The cases of Obligations.HostPortClosesOpensAndResets are met. -/
theorem witness_HostPortClosesOpensAndResets :
    (∃ s : State, (s.host.busMaster = true)) ∧
    (∃ s : State, (s.host.busMaster = false)) ∧
    (∃ s : State, (s.host.d3 = false) ∧ (s.host.busMaster = true)) ∧
    (∃ s : State, (s.host.d3 = true)) ∧
    (∃ (s : State) (t0 : Nat), (s.host.bmeSinceNs = some t0) ∧ (s.host.busMaster = false ∨ s.host.d3 = true) ∧ (s.elapsedMs t0 (s.val 0x1832) = true)) ∧
    (∃ s : State, (s.host.ready = true) ∧ (s.host.flr = none)) ∧
    (∃ (s : State) (t0 : Nat), (s.host.flr = some t0) ∧ (s.host.reads = [])) ∧
    (∃ s : State, (s.host.perst = false)) ∧
    (∃ s : State, (s.host.perst = false)) ∧
    (∃ s : State, (s.host.perst = false)) ∧
    (∃ s : State, (s.host.perst = true)) ∧
    (∃ (s : State) (speed width : Nat) (_flit : Bool), (s.host.perst = false) ∧ (s.host.ready = false) ∧ (4 ≤ speed) ∧ (speed ≤ s.val 0x1803) ∧ (width ∈ [1, 2, 4, 8, 16])) :=
  ⟨⟨bar id id, by decide +kernel⟩,
   ⟨State.reset, by decide +kernel⟩,
   ⟨bar id id, by decide +kernel⟩,
   ⟨bar (fun h => { h with d3 := true }) id, by decide +kernel⟩,
   ⟨bar (fun h => { h with busMaster := false, bmeSinceNs := some 0 }) (fun c => c.onClk (fun k => { k with opNs := 10 ^ 15 })), 0, by decide +kernel⟩,
   ⟨bar id id, by decide +kernel⟩,
   ⟨bar (fun h => { h with flr := some 0 }) id, 0, by decide +kernel⟩,
   ⟨bar id id, by decide +kernel⟩,
   ⟨bar id id, by decide +kernel⟩,
   ⟨bar id id, by decide +kernel⟩,
   ⟨State.reset, by decide +kernel⟩,
   ⟨st (fun c => c.onHost (fun h => { h with perst := false })), 4, 4, false, by decide +kernel⟩⟩

/-- The cases of Obligations.MemberPortsContainAndRelease are met. -/
theorem witness_MemberPortsContainAndRelease :
    (∃ (s : State) (slot id : Nat) (k : MCmd), ((s.member slot).outstanding.find? (fun k => decide (k.id = id)) = some k) ∧ ((s.member slot).slot ≠ .contained) ∧ (k.aborted = none) ∧ ((s.member slot).abortAsked id = false) ∧ (s.elapsedMs k.admitted (s.val 0x3404) = true)) ∧
    (∃ (s : State) (slot id since : Nat) (k : MCmd), ((s.member slot).outstanding.find? (fun k => decide (k.id = id)) = some k) ∧ (k.aborted = some since) ∧ ((s.member slot).outstanding.any (fun a => decide (a.op = .nvmeAbort id)) = true) ∧ (s.elapsedMs since 1000 = true)) ∧
    (∃ (s : State) (slot cause : Nat), ((s.member slot).linkUp = true) ∧ (1 ≤ cause) ∧ (cause ≤ 3)) ∧
    (∃ (s : State) (slot : Nat) (w : Writer), (s.commandReason 0x3432 slot w (if s.releasable slot true true then 0 else 5) = 0)) ∧
    (∃ (s : State) (slot since : Nat), ((s.member slot).contNs = some since) ∧ ((s.member slot).slot = .contained) ∧ (s.val 0x3433 slot ≠ 0) ∧ ((s.member slot).presence = true) ∧ ((s.member slot).contAttempts < 3) ∧ (s.elapsedMs since (s.val 0x3434) = false) ∧ (s.logs.any (fun l => l.open_ && decide (l.slot = slot)) = true)) ∧
    (∃ (s : State) (slot since : Nat), ((s.member slot).contNs = some since) ∧ ((s.member slot).slot = .contained) ∧ (s.elapsedMs since (s.val 0x3434) = true) ∧ ((s.member slot).prevSlot.serving = true)) ∧
    (∃ (s : State) (slot : Nat), ((s.member slot).slot = .contained) ∧ ((s.member slot).prevSlot.serving = true)) :=
  ⟨⟨st (fun c => (c.updMember 0 (fun m => { m with outstanding := [mcmd0] })).onClk (fun k => { k with opNs := 10 ^ 15 })), 0, 1, mcmd0, by decide +kernel⟩,
   ⟨st (fun c => (c.updMember 0 (fun m => { m with outstanding := [{ mcmd0 with aborted := some 0 }, { mcmd0 with id := 2, op := .nvmeAbort 1 }] })).onClk (fun k => { k with opNs := 10 ^ 15 })), 0, 1, 0, { mcmd0 with aborted := some 0 }, by decide +kernel⟩,
   ⟨st (fun c => c.updMember 0 (fun m => { m with linkUp := true })), 0, 1, by decide +kernel⟩,
   ⟨st (fun c => { c.updMember 0 (fun m => { m with slot := .contained, contNs := some 0, presence := true, prevSlot := .inUse }) with logs := [{ DirtyLog.reset with open_ := true }] }), 0, host0, by decide +kernel⟩,
   ⟨st (fun c => { (c.updMember 0 (fun m => { m with slot := .contained, contNs := some 0, presence := true, prevSlot := .inUse })).setVal 0x3433 0 1 with logs := [{ DirtyLog.reset with open_ := true }] }), 0, 0, by decide +kernel⟩,
   ⟨st (fun c => (c.updMember 0 (fun m => { m with slot := .contained, contNs := some 0, prevSlot := .inUse })).onClk (fun k => { k with opNs := 10 ^ 18 })), 0, 0, by decide +kernel⟩,
   ⟨st (fun c => c.updMember 0 (fun m => { m with slot := .contained, prevSlot := .inUse })), 0, by decide +kernel⟩⟩

/-- The cases of Obligations.BaysFollowTheirInputs are met. -/
theorem witness_BaysFollowTheirInputs :
    (∃ (s : State) (stream : Nat) (_l : List (Bool × Bool × Bool)), (24 * stream < s.slots)) ∧
    (∃ (s : State) (slot : Nat), (s.slots ≤ slot) ∧ ((s.member slot).refusedNs = none) ∧ ((s.member slot).slot = .empty)) ∧
    (∃ (s : State) (slot : Nat), (slot < s.slots) ∧ ((s.member slot).refusedNs = none) ∧ ((s.member slot).slot = .inUse) ∧ (s.leads = true)) ∧
    (∃ (s : State) (slot : Nat), (slot < s.slots) ∧ ((s.member slot).refusedNs = none) ∧ ((s.member slot).slot = .removalPending) ∧ (s.leads = true)) ∧
    (∃ (s : State) (slot since : Nat), ((s.member slot).windowNs = some since) ∧ ((s.member slot).slot = .removalPending) ∧ (s.elapsedMs since (s.val 0x3442) = true)) ∧
    (∃ (s : State) (slot since : Nat), ((s.member slot).refusedNs = some since) ∧ (s.elapsedMs since 3000 = true)) ∧
    (∃ (s : State) (slot : Nat), ((s.member slot).slot = .quiescing) ∧ ((s.member slot).shutting = true)) ∧
    (∃ (s : State) (slot : Nat) (r : DriveReport), ((s.member slot).slot = .quiescing) ∧ ((s.member slot).shutting = true) ∧ ((s.member slot).report = some r) ∧ (s.elapsedMs (s.member slot).timerNs (min 10000 r.rtd3EntryMs) = true)) ∧
    (∃ (s : State) (slot : Nat), ((s.member slot).presence = true) ∧ ((s.member slot).powerEnable = true) ∧ ((s.member slot).linkUp = true) ∧ ((s.member slot).slot = .inUse)) :=
  ⟨⟨State.reset, 1, [], by decide +kernel⟩,
   ⟨State.reset, 48, by decide +kernel⟩,
   ⟨st (fun c => c.updMember 0 (fun m => { m with slot := .inUse })), 0, by decide +kernel⟩,
   ⟨st (fun c => c.updMember 0 (fun m => { m with slot := .removalPending })), 0, by decide +kernel⟩,
   ⟨st (fun c => (c.updMember 0 (fun m => { m with slot := .removalPending, windowNs := some 0 })).onClk (fun k => { k with opNs := 10 ^ 18 })), 0, 0, by decide +kernel⟩,
   ⟨st (fun c => (c.updMember 0 (fun m => { m with refusedNs := some 0 })).onClk (fun k => { k with opNs := 3 * 10 ^ 9 })), 0, 0, by decide +kernel⟩,
   ⟨st (fun c => c.updMember 0 (fun m => { m with slot := .quiescing, shutting := true })), 0, by decide +kernel⟩,
   ⟨st (fun c => c.updMember 0 (fun m => { m with slot := .quiescing, shutting := true, report := some report0 })), 0, report0, by decide +kernel⟩,
   ⟨st (fun c => c.updMember 0 (fun m => { m with slot := .inUse, presence := true, powerEnable := true, linkUp := true })), 0, by decide +kernel⟩⟩

/-- The cases of Obligations.InsertedDrivesComeUp are met. -/
theorem witness_InsertedDrivesComeUp :
    (∃ (s : State) (slot : Nat), (slot < s.slots) ∧ ((s.member slot).slot = .debounce) ∧ ((s.member slot).presence = false) ∧ (s.val 0x3444 slot = 1)) ∧
    (∃ s : State, (s.clk.running = true) ∧ (s.start.nextGroupNs ≤ s.clk.opNs) ∧ (s.start.powered = true) ∧ (s.start.phase ≠ 6) ∧ (s.start.powerOrder ≠ [])) ∧
    (∃ (s : State) (slot : Nat), ((s.member slot).slot = .powering)) ∧
    (∃ (s : State) (slot : Nat), ((s.member slot).slot = .powering) ∧ (s.elapsedMs (s.member slot).timerNs 500 = true)) ∧
    (∃ (s : State) (slot : Nat), ((s.member slot).slot = .training) ∧ (s.elapsedMs (s.member slot).timerNs 1000 = true)) ∧
    (∃ (s : State) (slot speed width : Nat), (s.onBackup = false ∨ slot ∈ s.vaultSlots) ∧ ((s.member slot).slot = .training) ∧ ((s.member slot).linkUp = false) ∧ (3 ≤ speed) ∧ (speed ≤ 5) ∧ (1 ≤ width) ∧ (width ≤ (if s.slots = 48 then 2 else 4))) ∧
    (∃ (s : State) (slot : Nat) (_r : DriveReport), ((s.member slot).slot = .training) ∧ ((s.member slot).linkUp = true)) ∧
    (∃ (s : State) (slot : Nat) (v : Bool) (w : Writer) (o : Obj), (s.object 0x3444 slot = some o) ∧ (s.writeReason 0x3444 slot (leBytes 1 (if v then 1 else 0)) w = 0)) ∧
    (∃ (s : State) (slot : Nat), ((s.member slot).powerEnable = false) ∧ ((s.member slot).slot ≠ .empty)) :=
  ⟨⟨st (fun c => c.updMember 47 (fun m => { m with slot := .debounce })), 47, by decide +kernel⟩,
   ⟨st (fun c => (c.onClk (fun k => { k with running := true })).onStart (fun x => { x with powered := true, powerOrder := [0, 1, 2, 3, 4], nextGroupNs := 0 })), by decide +kernel⟩,
   ⟨st (fun c => c.updMember 0 (fun m => { m with slot := .powering })), 0, by decide +kernel⟩,
   ⟨st (fun c => (c.updMember 0 (fun m => { m with slot := .powering })).onClk (fun k => { k with opNs := 5 * 10 ^ 8 })), 0, by decide +kernel⟩,
   ⟨st (fun c => (c.updMember 0 (fun m => { m with slot := .training })).onClk (fun k => { k with opNs := 10 ^ 9 })), 0, by decide +kernel⟩,
   ⟨st (fun c => c.updMember 0 (fun m => { m with slot := .training })), 0, 5, 2, by decide +kernel⟩,
   ⟨st (fun c => c.updMember 0 (fun m => { m with slot := .training, linkUp := true })), 0, report0, by decide +kernel⟩,
   ⟨State.reset, 0, false, host0, (State.reset.object 0x3444 0).getD default, by decide +kernel⟩,
   ⟨st (fun c => c.updMember 0 (fun m => { m with slot := .inUse })), 0, by decide +kernel⟩⟩

/-- The cases of Obligations.ThePairHoldsItsLease are met. -/
theorem witness_ThePairHoldsItsLease :
    (∃ (s : State) (hb : PartnerHb), (s.paired = true) ∧ (s.pair.formed = true) ∧ ((s.port 0).pstate = 2) ∧ (s.pair.epoch ≤ hb.epoch) ∧ (s.pair.role = .alone) ∧ (hb.endorseGrant = false) ∧ (hb.role ≠ 2) ∧ (hb.leaving = false)) ∧
    (∃ (s : State) (hb : PartnerHb), (s.paired = true) ∧ (s.pair.formed = true) ∧ ((s.port 0).pstate = 2) ∧ (s.pair.epoch ≤ hb.epoch) ∧ (s.pair.role = .standby) ∧ (hb.role ≤ 1) ∧ (s.pair.sync = 2) ∧ (s.val 0x3816 = 1) ∧ (hb.endorseRequest = true) ∧ (s.pair.recvSeq < s.pair.toldSeq) ∧ (hb.vaultStart = false) ∧ (hb.leaving = false)) ∧
    (∃ s : State, (s.pair.formed = true) ∧ (s.val 0x3820 ≤ s.pair.sinceHb)) ∧
    (∃ (s : State) (src : Nat) (a : LeaseAnswer), (s.adp.astate = 2) ∧ (s.replyCounts src a = true) ∧ (a.result = 0) ∧ (a.op = 1) ∧ ((s.clk.opNs - s.pair.lastReqNs) / 1000 * 1000 ≤ s.lapNs)) ∧
    (∃ (_s : State) (a : LeaseAnswer), (a.op ≤ 5)) ∧
    (∃ (s : State) (ns : Nat), (s.pair.leaseNs = some ns) ∧ (s.paired = true) ∧ (s.leads = true) ∧ (ns ≤ s.clk.opNs + 8 * s.lapNs)) ∧
    (∃ (s : State) (ns : Nat), (s.pair.leaseNs = some ns) ∧ (s.paired = true) ∧ (s.leads = true) ∧ (ns ≤ s.clk.opNs)) ∧
    (∃ (s : State) (ns : Nat), (s.pair.grantNs = some ns) ∧ (s.leads = true) ∧ (s.pair.serving = false)) ∧
    (∃ (s : State) (ns : Nat), (s.pair.takeoverNs = some ns) ∧ (s.elapsedMs ns (s.val 0x3822) = true)) :=
  ⟨⟨pairs id id, hb0, by decide +kernel⟩,
   ⟨pairs (fun p => { p with role := .standby, sync := 2, toldSeq := 1 }) (fun c => c.setVal 0x3816 0 1), { hb0 with endorseRequest := true }, by decide +kernel⟩,
   ⟨pairs (fun p => { p with sinceHb := 10 ^ 6 }) id, by decide +kernel⟩,
   ⟨pairs (fun p => { p with lastOp := 1 }) (fun c => c.onAdp (fun a => { a with astate := 2 })), 0, answer0, by decide +kernel⟩,
   ⟨State.reset, answer0, by decide +kernel⟩,
   ⟨pairs (fun p => { p with leaseNs := some 0 }) id, 0, by decide +kernel⟩,
   ⟨pairs (fun p => { p with leaseNs := some 0 }) id, 0, by decide +kernel⟩,
   ⟨pairs (fun p => { p with grantNs := some 0 }) id, 0, by decide +kernel⟩,
   ⟨pairs (fun p => { p with takeoverNs := some 0 }) (late (10 ^ 18)), 0, by decide +kernel⟩⟩

/-- The cases of Obligations.RolesChangeHands are met. -/
theorem witness_RolesChangeHands :
    (∃ (s : State) (w : Writer), (s.commandReason 0x3840 0 w s.handoverReason = 0)) ∧
    (∃ s : State, (s.pair.handover = true) ∧ (s.cqi.cmds.any (fun x => x.isWrite && !x.dead) = false)) ∧
    (∃ s : State, (s.pair.role = .standby) ∧ (s.pair.sync = 1) ∧ (s.pair.bulkEnded = true) ∧ (s.pair.toldSeq ≤ s.pair.recvSeq)) ∧
    (∃ s : State, (s.pair.role = .alone) ∧ (s.paired = true) ∧ (s.pair.formed = true) ∧ (s.pair.peerSync = 2) ∧ (s.pair.pursue = 0)) ∧
    (∃ (s : State) (w : Writer), (s.commandReason 0x3841 0 w s.forceReason = 0)) ∧
    (∃ s : State, (s.power.supply = .watch) ∧ (s.pair.watchHbNs + 8 * s.lapNs ≤ s.clk.opNs)) ∧
    (∃ (s : State) (ns : Nat), (s.power.supply = .watch) ∧ (s.pair.watchNs = some ns) ∧ (ns + s.pair.watchLimitNs ≤ s.clk.opNs)) :=
  ⟨⟨pairs (fun p => { p with peerSync := 2, role := .active, lastHb := some { hb0 with role := 2, syncState := 2 } }) id, host0, by decide +kernel⟩,
   ⟨pairs (fun p => { p with handover := true }) id, by decide +kernel⟩,
   ⟨pairs (fun p => { p with role := .standby, sync := 1, bulkEnded := true }) id, by decide +kernel⟩,
   ⟨pairs (fun p => { p with peerSync := 2 }) id, by decide +kernel⟩,
   ⟨pairs (fun p => { p with role := .fenced }) id, service0, by decide +kernel⟩,
   ⟨st (fun c => late (10 ^ 18) (c.onPower (fun p => { p with supply := .watch }))), by decide +kernel⟩,
   ⟨pairs (fun p => { p with watchNs := some 0 }) (fun c => late (10 ^ 18) (c.onPower (fun p => { p with supply := .watch }))), 0, by decide +kernel⟩⟩

/-- The cases of Obligations.TheJudgeAnswers are met. -/
theorem witness_TheJudgeAnswers :
    (∃ (s : State) (_src : Nat) (q : LeaseRequest), (s.adp.astate = 2) ∧ (s.judges q.pairId = false)) ∧
    (∃ (s : State) (src k : Nat) (q : LeaseRequest) (a : Nat) (g : JudgeRecord), (s.adp.astate = 2) ∧ (s.judges q.pairId = true) ∧ (s.judgeSlot q.pairId = some k) ∧ (s.val 0x4040 k = q.pairId) ∧ (q.op ≠ 6) ∧ (({ s.judgeRecord q.pairId with
      heard := (s.judgeRecord q.pairId).heard.put q.serial s.nowUs, maxEpoch := max (s.judgeRecord q.pairId).maxEpoch q.epoch
      lapUs := q.leaseUs / 64 } : JudgeRecord).decide src q s.nowUs (s.nowUs - s.clk.startNs / 1000)
      (Config.judgeOther (q.op + 256 * q.serial + q.requestSeq)) = (some a, g))) ∧
    (∃ (s : State) (slot : Nat) (r : JudgeRecord) (b : Nat × LeaseRequest), (s.judgedAt slot = some r) ∧ (r.acquires = [b]) ∧ (r.acquireUs + 8 * r.lapUs ≤ s.nowUs) ∧ (r.isStale b.2.serial = false)) ∧
    (∃ (s : State) (slot src : Nat) (r : JudgeRecord) (q : LeaseRequest), (s.judgedAt slot = some r) ∧ (r.pending = some (src, q)) ∧ (r.protected_ s.nowUs = false) ∧ (r.isStale q.serial = false)) :=
  ⟨⟨st (fun c => c.onAdp (fun a => { a with astate := 2 })), 1, lease0, by decide +kernel⟩,
   ⟨st (fun c => late (10 ^ 15) (((c.onAdp (fun a => { a with astate := 2 })).setVal 0x3850 0 1).setVal 0x4040 0 5)), 1, 0, lease0, 0, _, by decide +kernel, by decide +kernel, by decide +kernel, by decide +kernel, by decide +kernel, rfl⟩,
   ⟨st (fun c => late (10 ^ 15) ((c.onPair (fun p => { p with judges := [{ jrec0 with acquires := [(1, lease0)] }] })).setVal 0x4040 0 5)), 0, { jrec0 with acquires := [(1, lease0)] }, (1, lease0), by decide +kernel⟩,
   ⟨st (fun c => late (10 ^ 15) ((c.onPair (fun p => { p with judges := [{ jrec0 with pending := some (1, lease0) }] })).setVal 0x4040 0 5)), 0, 1, { jrec0 with pending := some (1, lease0) }, lease0, by decide +kernel⟩⟩

/-- The cases of Obligations.OneHolderWhileProtected are met. -/
theorem witness_OneHolderWhileProtected :
    (∃ (r g : JudgeRecord) (src : Nat) (q : LeaseRequest) (now start free : Nat), (q.op ∈ [1, 2, 3, 4, 5, 8]) ∧ (r.decide src q now start free = (some granted, g)) ∧ (r.holder ≠ q.serial) ∧ (r.holder ≠ 0)) :=
  ⟨{ jrec0 with holder := 7 }, ({ jrec0 with holder := 7 } : JudgeRecord).grant { lease0 with op := 3 } 5, 1, { lease0 with op := 3 }, 5, 10 ^ 6, 0, by decide +kernel⟩

/-- The cases of Obligations.LinksComeUpAndRecover are met. -/
theorem witness_LinksComeUpAndRecover :
    (∃ (s : State) (p n : Nat), (s.portOn p = true) ∧ (portWidth p n ≠ 0) ∧ ((s.port p).pstate < 2)) ∧
    (∃ (s : State) (p n : Nat), (s.portOn p = true) ∧ (portWidth p n ≠ 0) ∧ ((s.port p).pstate = 3)) ∧
    (∃ (s : State) (p n : Nat), (s.portOn p = false ∨ portWidth p n = 0 ∨ (s.port p).pstate = 2)) ∧
    (∃ p n w : Nat, (w ∈ portWidths p) ∧ (w ≤ n)) ∧
    (∃ (s : State) (p : Nat) (raw : Bytes), ((s.port p).pstate = 2) ∧ (raw.length = 256) ∧ (flitCrcGood raw = false)) ∧
    (∃ (s : State) (p : Nat) (raw : Bytes), ((s.port p).pstate = 2) ∧ (raw.length = 256) ∧ (flitCrcGood raw = true) ∧ ((flitOf raw).cls = 0)) ∧
    (∃ (s : State) (p : Nat) (raw : Bytes), ((s.port p).pstate = 2) ∧ (raw.length = 256) ∧ (flitCrcGood raw = true) ∧ ((flitOf raw).cls ≠ 0) ∧ (sequenced (flitOf raw).cls = false)) ∧
    (∃ (s : State) (p : Nat) (raw : Bytes), ((s.port p).pstate = 2) ∧ (raw.length = 256) ∧ (flitCrcGood raw = true) ∧ (sequenced (flitOf raw).cls = true) ∧ (fsnOf raw = (s.flitHeard p raw).wanted p)) ∧
    (∃ (s : State) (p : Nat) (raw : Bytes), ((s.port p).pstate = 2) ∧ (raw.length = 256) ∧ (flitCrcGood raw = true) ∧ (sequenced (flitOf raw).cls = true) ∧ (fsnOf raw ≠ (s.flitHeard p raw).wanted p) ∧ (((s.flitHeard p raw).wanted p + 4096 - fsnOf raw) % 4096 ≤ 2048)) ∧
    (∃ (s : State) (p : Nat) (raw : Bytes), ((s.port p).pstate = 2) ∧ (raw.length = 256) ∧ (flitCrcGood raw = true) ∧ (sequenced (flitOf raw).cls = true) ∧ (2048 < ((s.flitHeard p raw).wanted p + 4096 - fsnOf raw) % 4096)) ∧
    (∃ (s : State) (p : Nat) (raw : Bytes), ((s.port p).pstate ≠ 2 ∨ raw.length ≠ 256)) ∧
    (∃ (s : State) (_p : Nat) (f : TxFlit), (f.first = true) ∧ (f.last = true) ∧ (f.broadcast = false) ∧ (f.dst = s.straps.nodeId) ∧ (leAt f.payload 1 1 = 1) ∧ (definedType f.cls (leAt f.payload 0 1) = true)) ∧
    (∃ (s : State) (p : Nat), ((s.port p).pstate = 2) ∧ ((s.port p).retry ≠ [])) ∧
    (∃ (s : State) (p : Nat), ((s.port p).pstate = 3)) ∧
    (∃ (s : State) (h : HelloMsg) (n : Nat), (s.portOn 0 = true) ∧ ((s.port 0).pstate = 2) ∧ (portWidth 0 n ≠ 0) ∧ let c := (s.updPort 0 (fun x => { x with lanes := portWidth 0 n })).updPort 0 (fun x => { x with peer := h.nodeId })
    let d := if portWidth 0 n < 16 then c.pairRecord 9 else c
    (d.pairAgrees h = true)) ∧
    (∃ (s : State) (h : HelloMsg) (n : Nat), (s.portOn 0 = true) ∧ ((s.port 0).pstate = 2) ∧ (portWidth 0 n ≠ 0) ∧ let c := (s.updPort 0 (fun x => { x with lanes := portWidth 0 n })).updPort 0 (fun x => { x with peer := h.nodeId })
    let d := if portWidth 0 n < 16 then c.pairRecord 9 else c
    (d.paired = true) ∧ (d.pairAgrees h = false)) ∧
    (∃ (s : State) (port : Nat) (_h : HelloMsg), (2 ≤ (s.port port).pstate) ∧ (s.ringOn = true) ∧ (port ≠ 0)) ∧
    (∃ (s : State) (port : Nat) (_h : HelloMsg), (2 ≤ (s.port port).pstate) ∧ (s.ringOn = false ∨ port = 0)) ∧
    (∃ (s : State) (port _t1 _t2 _t3 : Nat), (port ≠ 0) ∧ ((s.port port).pstate = 2)) :=
  ⟨⟨st (fun c => (c.setVal 0x3C00 0 1).onClk (fun k => { k with running := true })), 1, 8, by decide +kernel⟩,
   ⟨st (fun c => ((c.setVal 0x3C00 0 1).onClk (fun k => { k with running := true })).updPort 1 (fun p => { p with pstate := 3 })), 1, 8, by decide +kernel⟩,
   ⟨State.reset, 1, 8, by decide +kernel⟩,
   ⟨1, 7, 4, by decide +kernel⟩,
   ⟨onRing0 id, 1, List.replicate 256 0, by decide +kernel⟩,
   ⟨onRing0 id, 1, flitBytes { txf0 with cls := 0 } 0 4095 false 0 0, by decide +kernel⟩,
   ⟨onRing0 id, 1, flitBytes { txf0 with cls := 4 } 0 4095 false 0 0, by decide +kernel⟩,
   ⟨onRing0 id, 1, flitBytes { txf0 with cls := 2 } 0 4095 false 0 0, by decide +kernel⟩,
   ⟨onRing0 id, 1, flitBytes { txf0 with cls := 2 } 4095 4095 false 0 0, by decide +kernel⟩,
   ⟨onRing0 id, 1, flitBytes { txf0 with cls := 2 } 5 4095 false 0 0, by decide +kernel⟩,
   ⟨onRing0 id, 1, [], by decide +kernel⟩,
   ⟨onRing0 id, 1, { txf0 with cls := 5, payload := [1, 1, 0, 0, 0] }, by decide +kernel⟩,
   ⟨onRing0 (fun c => c.updPort 1 (fun p => { p with retry := [(0, txf0)] })), 1, by decide +kernel⟩,
   ⟨onRing0 (fun c => c.updPort 1 (fun p => { p with pstate := 3 })), 1, by decide +kernel⟩,
   ⟨pairs id (fun c => c.onClk (fun k => { k with running := true })), hello0, 16, by decide +kernel, by decide +kernel, by decide +kernel, by
    simp only [Chip.pairAgrees, hello0, Bool.and_eq_true, decide_eq_true_eq]
    refine ⟨⟨⟨⟨⟨⟨?_, ?_⟩, ?_⟩, ?_⟩, trivial⟩, ?_⟩, ?_⟩ <;> decide +kernel⟩,
   ⟨pairs id (fun c => c.onClk (fun k => { k with running := true })), { hello0 with pairMode := 0 }, 16, by decide +kernel⟩,
   ⟨onRing0 id, 1, hello0, by decide +kernel⟩,
   ⟨pairs id id, 0, hello0, by decide +kernel⟩,
   ⟨onRing0 id, 1, 0, 1, 2, by decide +kernel⟩⟩

/-- The cases of Obligations.EchoesMeasureTheHop are met. -/
theorem witness_EchoesMeasureTheHop :
    (∃ (s : State) (p t1 turn t4 : Nat), (p ≠ 0) ∧ ((s.port p).pstate = 2) ∧ (16 ≤ (s.port p).samples.length) ∧ ((s.port p).delayPs ≠ (((s.port p).delayPs : Int) + ((((t4 - t1 - turn) * 125 / 4 : Nat) : Int) - ((s.port p).delayPs : Int)) / 8).toNat)) :=
  ⟨onRing0 (fun c => c.updPort 1 (fun p => { p with samples := List.replicate 16 0 })), 1, 0, 0, 1000, by decide +kernel⟩

/-- The cases of Obligations.TheMirrorIsTakenInOrder are met. -/
theorem witness_TheMirrorIsTakenInOrder :
    (∃ (s : State) (_p _b _state : Nat) (_data : Bytes), (s.receiving = true)) ∧
    (∃ (s : State) (_r : MirrorRecord), (s.receiving = true)) ∧
    (∃ (s : State) (seq _p _b _state : Nat) (_data : Bytes) (_r : MirrorRecord), (seq ≠ s.pair.recvSeq + 1)) ∧
    (∃ (s : State) (_n _seq : Nat), (s.receiving = true)) ∧
    (∃ (s : State) (seq : Nat), (s.mirroring = true) ∧ (seq ≤ s.pair.mirrorSeq)) ∧
    (∃ (s : State) (_i : BulkItem), (s.receiving = true)) ∧
    (∃ s : State, (s.receiving = true)) :=
  ⟨⟨pairs (fun p => { p with role := .standby, sync := 1 }) id, 0, 0, 0, [], by decide +kernel⟩,
   ⟨pairs (fun p => { p with role := .standby, sync := 1 }) id, .acceptance 3, by decide +kernel⟩,
   ⟨State.reset, 5, 0, 0, 0, [], .acceptance 3, by decide +kernel⟩,
   ⟨pairs (fun p => { p with role := .standby, sync := 1 }) id, 0, 4, by decide +kernel⟩,
   ⟨pairs (fun p => { p with role := .active, peerSync := 2, mirrorSeq := 3 }) id, 2, by decide +kernel⟩,
   ⟨pairs (fun p => { p with role := .standby, sync := 1 }) id, .bulkEnd, by decide +kernel⟩,
   ⟨pairs (fun p => { p with role := .standby, sync := 1 }) id, by decide +kernel⟩⟩

/-- The cases of Obligations.RingMembersAreHeard are met. -/
theorem witness_RingMembersAreHeard :
    (∃ (s : State) (src : Nat) (h : RingHbMsg), (s.ringOn = true) ∧ (h.nodeId = src) ∧ let c := s.hearNode src h.serial (fun x => { x with
      role := h.role, sync := h.syncState, timeValid := h.timeValid, aliases := h.aliases, pairId := h.pairId, epoch := h.epoch,
      partner := h.partnerNode, hbLaps := 0 })
    (c.paired = false)) ∧
    (∃ (s : State) (n : Nat), (n ∈ s.ring.members) ∧ (n ≠ s.straps.nodeId) ∧ (2 ≤ (s.node n).hbLaps)) ∧
    (∃ (s : State) (src : Nat) (l : List RosterEntry) (e : RosterEntry), (s.ringOn = true) ∧ (l.find? (fun e => decide (e.nodeId = src)) = some e)) ∧
    (∃ (s : State) (n who epoch : Nat), (s.ringOn = true) ∧ (who ≠ s.straps.nodeId) ∧ (s.ring.claims.find n = none) ∧ (s.ring.aliases.any (fun a => decide (a.1 = n) && decide (epoch ≤ a.2)) = false)) ∧
    (∃ (s : State) (n who _epoch e : Nat), (s.ringOn = true) ∧ (who ≠ s.straps.nodeId) ∧ (s.ring.claims.find n = some (who, e))) ∧
    (∃ (s : State) (_src target _n : Nat), (s.ringOn = true) ∧ (s.ownNode target = true) ∧ (s.val 0x3C41 ≠ 1)) ∧
    (∃ (s : State) (_src target _n : Nat), (s.ringOn = true) ∧ (s.ownNode target = true) ∧ (s.val 0x3C41 = 1)) ∧
    (∃ (s : State) (n : Nat) (w : Writer), (s.commandReason 0x3C40 0 w (s.resetNodeReason n) = 0)) :=
  ⟨⟨onRing0 id, 1, ringHb0, by decide +kernel, by decide +kernel, rfl⟩,
   ⟨onRing0 id, 1, by decide +kernel⟩,
   ⟨onRing0 id, 1, [roster0], roster0, by decide +kernel⟩,
   ⟨onRing0 id, 1, 2, 7, by decide +kernel⟩,
   ⟨onRing0 (fun c => c.onRing (fun r => { r with claims := [(1, (2, 7))] })), 1, 2, 7, 7, by decide +kernel⟩,
   ⟨onRing0 (fun c => c.setVal 0x3C41 0 0), 1, 0, 1, by decide +kernel⟩,
   ⟨onRing0 (fun c => c.setVal 0x3C41 0 1), 1, 0, 1, by decide +kernel⟩,
   ⟨onRing0 id, 1, host0, by decide +kernel⟩⟩

/-- The cases of Obligations.SpanningStripesCommit are met. -/
theorem witness_SpanningStripesCommit :
    (∃ (s : State) (src : Nat) (_ref : StripeRef), (s.sourceBarred src = true)) ∧
    (∃ (_s : State) (_src _tag : Nat) (b : Bytes), ((leAt b 7 1).testBit 0 = true)) ∧
    (∃ (_s : State) (_src _tag : Nat) (b : Bytes), ((leAt b 7 1).testBit 0 = false)) ∧
    (∃ (s : State) (src tag : Nat) (k : SpanCheck), (s.ring.checks.find? (fun k => decide (k.tag = tag) && decide (src ∈ k.waiting)) = some k) ∧ (k.waiting.filter (fun n => decide (n ≠ src)) ≠ [])) ∧
    (∃ (s : State) (src _first _count _cls _tag : Nat) (ref : StripeRef), (s.sourceBarred src = false) ∧ (s.joinedMember = true) ∧ ((s.piste ref.piste).offer = false) ∧ ((s.piste ref.piste).state = .absent)) ∧
    (∃ (s : State) (src _first _count _cls _tag : Nat) (ref : StripeRef) (h : Spot), (s.sourceBarred src = false) ∧ (s.joinedMember = true) ∧ let c := s.homeHeard src ref.piste
    ((c.piste ref.piste).state ≠ .absent) ∧ let i : StripeId := ⟨ref.piste, false, (areaOf ref.stripe).1, (areaOf ref.stripe).2⟩
    let col := (bitsOf 32 ref.columnMask).headD 0
    (c.stripHome i col = some h) ∧ (c.ownNode h.node = true) ∧ ((c.member h.slot).slot ≠ .contained) ∧ ((c.known i col).isNone = false)) ∧
    (∃ (s : State) (src tag : Nat) (_ref : StripeRef) (_l : List Bytes) (r : Nat × Nat × Nat × Option Nat) (g : Gather), (s.sourceBarred src = false) ∧ (s.ring.reads.find? (fun r => decide (r.1 = tag)) = some r) ∧ (s.gather r.2.1 = some g)) ∧
    (∃ (s : State) (src slot : Nat) (ref : StripeRef) (e : Entry), (s.sourceBarred src = false) ∧ (s.entryOfRef ref = some (slot, e)) ∧ (s.isHome e = true)) ∧
    (∃ (s : State) (src slot : Nat) (ref : StripeRef) (e : Entry), (s.sourceBarred src = false) ∧ (s.entryOfRef ref = some (slot, e)) ∧ (s.isHome e = false) ∧ (s.unitOf (s.piste e.piste).home = src)) ∧
    (∃ (s : State) (src slot : Nat) (ref : StripeRef) (e : Entry), (s.sourceBarred src = false) ∧ (s.entryOfRef ref = some (slot, e)) ∧ (ref.outcome = 1) ∧ (e.round.callStride = some ref.atStride)) ∧
    (∃ (s : State) (src slot : Nat) (ref : StripeRef) (e : Entry), (s.sourceBarred src = false) ∧ (s.entryOfRef ref = some (slot, e)) ∧ (s.isHome e = false)) ∧
    (∃ (s : State) (src slot : Nat) (ref : StripeRef) (e : Entry), (s.sourceBarred src = false) ∧ (s.entryOfRef ref = some (slot, e)) ∧ (s.isHome e = true) ∧ (e.round.recalling = true) ∧ let c := s.onRound slot (fun r => { r with states := e.round.states.put src ref.outcome })
    (((c.participants e).filter (fun n => decide (n ≠ c.straps.nodeId))).all (fun n => ((e.round.states.put src ref.outcome).find n).isSome) =
      false)) ∧
    (∃ (s : State) (src slot : Nat) (ref : StripeRef) (e : Entry), (s.sourceBarred src = false) ∧ (s.ownNode (s.piste ref.piste).home = true) ∧ (s.entryOfRef ref = some (slot, e))) ∧
    (∃ (s : State) (src slot : Nat) (ref : StripeRef) (e : Entry), (s.sourceBarred src = false) ∧ (s.entryOfRef ref = some (slot, e)) ∧ (s.isHome e = false) ∧ (e.state ≠ .committed) ∧ (s.unitOf (s.piste e.piste).home = src)) ∧
    (∃ (s : State) (p q g slot lap : Nat) (e : Entry), (s.entryOfRef { s.stripeRef ⟨p, false, 0, 0⟩ 0 g with stripe := q } = some (slot, e)) ∧ (e.round.retryLap = some lap) ∧ (s.isHome e = true) ∧ (e.state ≠ .committed) ∧ (lap ≤ s.lap)) ∧
    (∃ (s : State) (p q g slot : Nat) (e : Entry), (s.entryOfRef { s.stripeRef ⟨p, false, 0, 0⟩ 0 g with stripe := q } = some (slot, e)) ∧ (e.spanning = true) ∧ (s.isHome e = false) ∧ (e.state = .parityDurable) ∧ (e.round.callStride = none) ∧ (e.round.sinceLap + 64 ≤ s.lap)) ∧
    (∃ (s : State) (src _pc _first _count slot : Nat) (ref : StripeRef) (_m : Bytes) (_l : List (List Bytes)), (s.sourceBarred src = false) ∧ (s.joinedMember = true) ∧ ((s.piste ref.piste).offer = false) ∧ ((s.piste ref.piste).state ≠ .absent) ∧ ((s.piste ref.piste).state ≠ .creating) ∧ (s.unitOf (s.piste ref.piste).home = src) ∧ ((s.piste ref.piste).groomed = false) ∧ (s.entryOfRef ref = none) ∧ (s.freeJournalSlot = some slot)) :=
  ⟨⟨onRing0 (fun c => c.onRing (fun r => { r with claims := [(1, (2, 7))] })), 1, ref0, by decide +kernel⟩,
   ⟨onRing0 id, 1, 1, [0, 0, 0, 0, 0, 0, 0, 1], by decide +kernel⟩,
   ⟨onRing0 id, 1, 1, [], by decide +kernel⟩,
   ⟨onRing0 (fun c => c.onRing (fun r => { r with checks := [check0] })), 1, 1, check0, by decide +kernel⟩,
   ⟨onRing0 id, 1, 0, 1, 1, 1, ref0, by decide +kernel⟩,
   ⟨spans 1 span0 (drives 4), 1, 0, 1, 1, 1, ref0, ((spans 1 span0 (drives 4)).stripHome ⟨0, false, 0, 0⟩ 0).getD default, by decide +kernel⟩,
   ⟨onRing0 (fun c => (c.setGather gather0).onRing (fun r => { r with reads := [(4, 1, 0, none)] })), 1, 4, ref0, [], (4, 1, 0, none), gather0, by decide +kernel⟩,
   ⟨spans 0 span0 id, 1, 0, ref0, span0, by decide +kernel⟩,
   ⟨spans 1 span0 id, 1, 0, ref0, span0, by decide +kernel⟩,
   ⟨spans 1 { span0 with round := { span0.round with callStride := some 0 } } id, 1, 0, { ref0 with outcome := 1 }, { span0 with round := { span0.round with callStride := some 0 } }, by decide +kernel⟩,
   ⟨spans 1 span0 id, 1, 0, ref0, span0, by decide +kernel⟩,
   ⟨spans 0 { span0 with round := { span0.round with recalling := true } } id, 1, 0, ref0, { span0 with round := { span0.round with recalling := true } }, by decide +kernel⟩,
   ⟨spans 0 span0 id, 1, 0, ref0, span0, by decide +kernel⟩,
   ⟨spans 1 span0 id, 1, 0, ref0, span0, by decide +kernel⟩,
   ⟨spans 0 { span0 with round := { span0.round with retryLap := some 0 } } id, 0, 0, 0, 0, 0, { span0 with round := { span0.round with retryLap := some 0 } }, by decide +kernel⟩,
   ⟨spans 1 span0 (fun c => c.onClk (fun k => { k with stride := 2 ^ 20 })), 0, 0, 0, 0, span0, by decide +kernel⟩,
   ⟨onRing0 (fun c => c.updPiste 0 (fun x => { piste0 x with home := 1, spanning := true })), 1, 0, 0, 1, 0, ref0, [], [], by decide +kernel⟩⟩

/-- The cases of Obligations.FramesAndSessionsAreKept are met. -/
theorem witness_FramesAndSessionsAreKept :
    (∃ (s : State) (f : AdpFrame) (key : Bytes), (s.adp.astate = 2) ∧ (s.macTakes f = true) ∧ (s.dict.keys.find f.keySlot = some key) ∧ (hmacTag key (frameBytes f) ≠ f.tag)) ∧
    (∃ (s : State) (f : AdpFrame), (Arrives s.toChip f) ∧ (f.reply = false)) ∧
    (∃ (s : State) (f : AdpFrame), (Arrives s.toChip f) ∧ (f.reply = false) ∧ (f.version = 1) ∧ ((leAt f.body 0 8 = 0 ∨ leAt f.body 0 8 = Config.unitSerial))) ∧
    (∃ (s : State) (f : AdpFrame), (Arrives s.toChip f) ∧ (f.reply = false) ∧ (f.version = 1) ∧ let r := (s.bump 0x4030).random64
    (r.2.adp.sessions.length < 32)) ∧
    (∃ (s : State) (f : AdpFrame), (Arrives s.toChip f) ∧ (f.reply = false) ∧ (f.version = 1) ∧ let r := (s.bump 0x4030).random64
    ∃ o, (32 ≤ r.2.adp.sessions.length) ∧ (idlest r.2.adp.sessions = some o)) ∧
    (∃ (s : State) (f : AdpFrame), (Arrives s.toChip f) ∧ (f.reply = false) ∧ (f.version = 1) ∧ (s.session f.session = none)) ∧
    (∃ (s : State) (f : AdpFrame) (x : Session) (r : AdpFrame), (Requests s.toChip f x) ∧ (f.seq = x.highest) ∧ (x.stored = some r)) ∧
    (∃ (s : State) (f : AdpFrame) (x : Session), (Requests s.toChip f x) ∧ (f.seq < x.highest)) :=
  ⟨⟨netted sess0 id, frame0, List.replicate 32 1, by decide +kernel, by simp [Chip.macTakes, frame0], by decide +kernel, by decide +kernel⟩,
   ⟨netted sess0 id, seal0 frame0, arrives_new _ _ (by decide +kernel) ⟨rfl, rfl, rfl, rfl⟩ (by decide +kernel), rfl⟩,
   ⟨netted sess0 id, seal0 frame0, arrives_new _ _ (by decide +kernel) ⟨rfl, rfl, rfl, rfl⟩ (by decide +kernel), rfl, rfl, Or.inl (by decide +kernel)⟩,
   ⟨netted sess0 id, seal0 frame0, arrives_new _ _ (by decide +kernel) ⟨rfl, rfl, rfl, rfl⟩ (by decide +kernel), rfl, rfl, by decide⟩,
   ⟨netted sess0 (fun c => c.onAdp (fun a => { a with sessions := List.replicate 32 sess0 })), seal0 frame0, arrives_new _ _ (by decide +kernel) ⟨rfl, rfl, rfl, rfl⟩ (by decide +kernel), rfl, rfl, sess0, by decide, by decide⟩,
   ⟨netted { sess0 with id := 9 } id, seal0 frame0, arrives_new _ _ (by decide +kernel) ⟨rfl, rfl, rfl, rfl⟩ (by decide +kernel), rfl, rfl, by decide +kernel⟩,
   ⟨netted { sess0 with highest := 5, stored := some frame0 } id, seal0 frame0, { sess0 with highest := 5, stored := some frame0 }, frame0, requests_new _ _ _ (by decide +kernel) ⟨rfl, rfl, rfl, rfl⟩ (by decide +kernel) rfl rfl (by decide +kernel), rfl, rfl⟩,
   ⟨netted { sess0 with highest := 6 } id, seal0 frame0, { sess0 with highest := 6 }, requests_new _ _ _ (by decide +kernel) ⟨rfl, rfl, rfl, rfl⟩ (by decide +kernel) rfl rfl (by decide +kernel), by decide⟩⟩

/-- The cases of Obligations.RequestsOfTheNetworkAreServed are met. -/
theorem witness_RequestsOfTheNetworkAreServed :
    (∃ (s : State) (f : AdpFrame) (x : Session) (b : Bytes), (Requests s.toChip f x) ∧ (x.highest < f.seq) ∧ ((s.opened f).adpServes = true) ∧ ((s.opened f).adpQueueFull = false) ∧ ((s.opened f).readObject (leAt f.body 0 2) (leAt f.body 2 1) = some b) ∧ (leAt f.body 4 4 ≤ b.length) ∧ (leAt f.body 8 2 ≤ (s.opened f).val 0x4003 - 8)) ∧
    (∃ (s : State) (f : AdpFrame) (x : Session), (Requests s.toChip f x) ∧ (x.highest < f.seq) ∧ ((s.opened f).adpServes = false)) ∧
    (∃ (s : State) (f : AdpFrame) (x : Session) (o : Obj), (Requests s.toChip f x) ∧ (x.highest < f.seq) ∧ ((s.opened f).adpServes = true) ∧ ((s.opened f).adpQueueFull = false) ∧ let w := bodyWrite f.body 0
    let t := (s.opened f).dictTake w.1 w.2.1 w.2.2 (leNat (w.2.2.take 8)) { origin := .net, route := .adp, originId := f.srcMac }
    ((s.opened f).passesOn w.1 w.2.1 = false) ∧ ((s.opened f).object w.1 w.2.1 = some o) ∧ (o.secret = false) ∧ (t.reason = 0)) ∧
    (∃ (s : State) (f : AdpFrame) (x : Session) (o : Obj), (Requests s.toChip f x) ∧ (x.highest < f.seq) ∧ ((s.opened f).adpServes = true) ∧ ((s.opened f).adpQueueFull = false) ∧ let w := bodyWrite f.body 8
    let t := (s.opened f).dictTake w.1 w.2.1 w.2.2 (leNat (w.2.2.take 8))
      { origin := originOf (leAt f.body 0 1), route := .adp, originId := leAt f.body 2 6 }
    ((s.opened f).leads = true) ∧ ((s.opened f).pair.formed = true) ∧ (f.srcMac = (s.opened f).adp.partnerMac) ∧ ((s.opened f).object w.1 w.2.1 = some o) ∧ (o.pairWide = true) ∧ (o.secret = false) ∧ (t.reason = 0)) ∧
    (∃ (s : State) (f : AdpFrame) (x : Session), (Requests s.toChip f x) ∧ (x.highest < f.seq) ∧ (leAt f.body 0 8 = (s.opened f).pair.pairId) ∧ ((s.opened f).power.supply = .watch)) ∧
    (∃ (s : State) (f : AdpFrame) (x : Session), (Requests s.toChip f x) ∧ (x.highest < f.seq) ∧ ((s.opened f).adpServes = true) ∧ ((s.opened f).adpQueueFull = true)) :=
  ⟨⟨netted sess0 (fun c => c.onStart (fun x => { x with phase := 5 })), seal0 { frame0 with body := leBytes 2 0x441D ++ leBytes 6 0 ++ leBytes 2 2 }, sess0, [0x20, 0x03], requests_new _ _ _ (by decide +kernel) ⟨rfl, rfl, rfl, rfl⟩ (by decide +kernel) rfl rfl (by decide +kernel), by decide, by decide +kernel, by decide +kernel, by decide +kernel, by decide +kernel, by decide +kernel⟩,
   ⟨netted sess0 id, seal0 frame0, sess0, requests_new _ _ _ (by decide +kernel) ⟨rfl, rfl, rfl, rfl⟩ (by decide +kernel) rfl rfl (by decide +kernel), by decide, by decide +kernel⟩,
   ⟨netted sess0 (fun c => c.onStart (fun x => { x with phase := 5 })), seal0 { frame0 with body := write0 [] 0x441D [0x84, 0x03] }, sess0, (State.reset.object 0x441D 0).getD default, requests_new _ _ _ (by decide +kernel) ⟨rfl, rfl, rfl, rfl⟩ (by decide +kernel) rfl rfl (by decide +kernel), by decide, by decide +kernel, by decide +kernel, by decide +kernel, by decide +kernel, by decide +kernel, by decide +kernel⟩,
   ⟨netted sess0 (fun c => (c.onStart (fun x => { x with phase := 5 })).onPair (fun p => { p with formed := true })|>.onAdp (fun a => { a with partnerMac := 2 })), seal0 { frame0 with body := write0 [0, 0, 0, 0, 0, 0, 0, 0] 0x3816 [0] }, sess0, (State.reset.object 0x3816 0).getD default, requests_new _ _ _ (by decide +kernel) ⟨rfl, rfl, rfl, rfl⟩ (by decide +kernel) rfl rfl (by decide +kernel), by decide, by decide +kernel, by decide +kernel, by decide +kernel, by decide +kernel, by decide +kernel, by decide +kernel, by decide +kernel, by decide +kernel, by decide +kernel⟩,
   ⟨netted sess0 (fun c => c.onPower (fun p => { p with supply := .watch })), seal0 frame0, sess0, requests_new _ _ _ (by decide +kernel) ⟨rfl, rfl, rfl, rfl⟩ (by decide +kernel) rfl rfl (by decide +kernel), by decide, by decide +kernel, by decide +kernel⟩,
   ⟨netted sess0 (fun c => (c.onStart (fun x => { x with phase := 5 })).onAdp (fun a => { a with pairWait := List.replicate 16 { index := 0, sub := 0, value := [], writer := net0, cid := 0, frame := some frame0 } })), seal0 frame0, sess0, requests_new _ _ _ (by decide +kernel) ⟨rfl, rfl, rfl, rfl⟩ (by decide +kernel) rfl rfl (by decide +kernel), by decide, by decide +kernel, by decide +kernel⟩⟩

/-- The cases of Obligations.RequestsOfTheUnitEnd are met. -/
theorem witness_RequestsOfTheUnitEnd :
    (∃ (s : State) (f r : AdpFrame), (Arrives s.toChip f) ∧ (f.reply = true) ∧ (f.op ≠ 0x01) ∧ (f.op ≠ 0x02) ∧ (f.session ≠ 0) ∧ (f.session = s.adp.toPartner.id) ∧ (f.srcMac = s.adp.partnerMac) ∧ (f.op ≠ 0x20) ∧ (s.adp.toPartner.outstanding = some r) ∧ (r.seq = f.seq) ∧ (r.op = f.op) ∧ (s.adp.toPartner.retryLap = none) ∧ 
    (f.status = 0)) ∧
    (∃ (s : State) (f r : AdpFrame), (Arrives s.toChip f) ∧ (f.reply = true) ∧ (f.op ≠ 0x01) ∧ (f.op ≠ 0x02) ∧ (f.session ≠ 0) ∧ (f.session = s.adp.toPartner.id) ∧ (f.srcMac = s.adp.partnerMac) ∧ (f.op ≠ 0x20) ∧ (s.adp.toPartner.outstanding = some r) ∧ (r.seq = f.seq) ∧ (r.op = f.op) ∧ (s.adp.toPartner.retryLap = none) ∧ 
    (f.status = 1)) ∧
    (∃ (s : State) (f r : AdpFrame), (Arrives s.toChip f) ∧ (f.reply = true) ∧ (f.op ≠ 0x01) ∧ (f.op ≠ 0x02) ∧ (f.session ≠ 0) ∧ (f.session = s.adp.toPartner.id) ∧ (f.srcMac = s.adp.partnerMac) ∧ (f.op ≠ 0x20) ∧ (s.adp.toPartner.outstanding = some r) ∧ (r.seq = f.seq) ∧ (r.op = f.op) ∧ (s.adp.toPartner.retryLap = none) ∧ 
    (f.status = 5)) ∧
    (∃ (s : State) (judge : Bool) (f : AdpFrame), ((s.requester judge).outstanding = some f) ∧ ((s.requester judge).retryLap = none) ∧ ((s.requester judge).sentLap + s.val 0x4004 ≤ s.lap) ∧ ((s.requester judge).tries < s.val 0x4005)) ∧
    (∃ (s : State) (judge : Bool) (f : AdpFrame), ((s.requester judge).outstanding = some f) ∧ ((s.requester judge).retryLap = none) ∧ ((s.requester judge).sentLap + s.val 0x4004 ≤ s.lap) ∧ (s.val 0x4005 ≤ (s.requester judge).tries) ∧ (f.op ≠ 0x12)) :=
  ⟨⟨netted sess0 (fun c => c.onAdp (fun a => { a with partnerMac := 2, toPartner := { a.toPartner with id := 8, outstanding := some { request0 with seq := 5 } } })), seal0 { frame0 with reply := true }, { request0 with seq := 5 }, arrives_new _ _ (by decide +kernel) ⟨rfl, rfl, rfl, rfl⟩ (by decide +kernel), rfl, by decide +kernel, by decide +kernel, by decide +kernel, by decide +kernel, by decide +kernel, by decide +kernel, by decide +kernel, rfl, rfl, by decide +kernel, rfl⟩,
   ⟨netted sess0 (fun c => c.onAdp (fun a => { a with partnerMac := 2, toPartner := { a.toPartner with id := 8, outstanding := some { request0 with seq := 5 } } })), seal0 { frame0 with reply := true, status := 1 }, { request0 with seq := 5 }, arrives_new _ _ (by decide +kernel) ⟨rfl, rfl, rfl, rfl⟩ (by decide +kernel), rfl, by decide +kernel, by decide +kernel, by decide +kernel, by decide +kernel, by decide +kernel, by decide +kernel, by decide +kernel, rfl, rfl, by decide +kernel, rfl⟩,
   ⟨netted sess0 (fun c => c.onAdp (fun a => { a with partnerMac := 2, toPartner := { a.toPartner with id := 8, outstanding := some { request0 with seq := 5 } } })), seal0 { frame0 with reply := true, status := 5 }, { request0 with seq := 5 }, arrives_new _ _ (by decide +kernel) ⟨rfl, rfl, rfl, rfl⟩ (by decide +kernel), rfl, by decide +kernel, by decide +kernel, by decide +kernel, by decide +kernel, by decide +kernel, by decide +kernel, by decide +kernel, rfl, rfl, by decide +kernel, rfl⟩,
   ⟨st (fun c => (c.onAdp (fun a => { a with toJudge := { a.toJudge with outstanding := some frame0 } })).onClk (fun k => { k with stride := 2 ^ 20 })), true, frame0, by decide +kernel⟩,
   ⟨st (fun c => (c.onAdp (fun a => { a with toPartner := { a.toPartner with outstanding := some frame0, tries := 3 } })).onClk (fun k => { k with stride := 2 ^ 20 })), false, frame0, by decide +kernel⟩⟩

/-- The cases of Obligations.DictionaryWritesTakeEffect are met. -/
theorem witness_DictionaryWritesTakeEffect :
    (∃ (s : State) (index sub : Nat) (b : Bytes) (w : Writer), ((s.dictTake index sub b (leNat (b.take 8)) w).reason = 0)) ∧
    (∃ (s : State) (v : Nat) (w : Writer), (s.commandReason 0x1120 0 w (s.rightsReason v) = 0)) ∧
    (∃ (s : State) (slot : Nat) (key : Bytes) (w : Writer), (s.commandReason 0x4020 slot w (keyReason key) = 0)) ∧
    (∃ s : State, (s.dict.uncommitted ≠ [])) ∧
    (∃ (s : State) (_bad : Nat), (s.val 0x4000 ≠ 0) ∧ (s.clk.running = true)) :=
  ⟨⟨State.reset, 0x441D, 0, [0x84, 0x03], host0, by decide +kernel⟩,
   ⟨State.reset, 0x441D + 65536 * 5, net0, by decide +kernel⟩,
   ⟨State.reset, 0, List.replicate 32 1, host0, by decide +kernel⟩,
   ⟨st (fun c => c.onDict (fun d => { d with uncommitted := [(0, [], 1)] })), by decide +kernel⟩,
   ⟨st (fun c => (c.setVal 0x4000 0 1).onClk (fun k => { k with running := true })), 0xCA01, by decide +kernel⟩⟩

/-- The cases of Obligations.SupplyStateFollowsTheInput are met. -/
theorem witness_SupplyStateFollowsTheInput :
    (∃ (s : State) (mv : Nat), (s.clk.running = true) ∧ (s.power.supply = .normal) ∧ (mv ≤ s.val 0x4400)) ∧
    (∃ s : State, (s.power.supply = .brace ∨ s.power.supply = .exposed) ∧ (4 ≤ s.power.goodLaps)) ∧
    (∃ (s : State) (mv : Nat), (s.clk.running = true) ∧ (s.power.supply = .brace) ∧ (mv ≤ s.val 0x4401) ∧ (s.power.packState ≠ 1)) ∧
    (∃ (s : State) (mv : Nat), (s.clk.running = true) ∧ (s.power.supply = .normal) ∧ (mv ≤ s.val 0x4401) ∧ (s.power.packState = 1) ∧ (s.power.pause ≠ 2)) ∧
    (∃ (s : State) (mv : Nat), (s.power.supply = .exposed) ∧ (s.power.holdup = false) ∧ (mv ≤ s.val 0x4402) ∧ (s.ring.stale = false)) ∧
    (∃ s : State, (s.power.vinReset = true) ∧ (s.ring.stale = false)) ∧
    (∃ s : State, (s.power.supply = .vault ∨ s.power.supply = .watch) ∧ (4 ≤ s.power.goodLaps)) :=
  ⟨⟨packed (fun p => { p with supply := .normal }) id, 0, by decide +kernel⟩,
   ⟨packed (fun p => { p with supply := .brace, goodLaps := 4 }) id, by decide +kernel⟩,
   ⟨packed (fun p => { p with supply := .brace, packState := 0 }) id, 0, by decide +kernel⟩,
   ⟨packed (fun p => { p with supply := .normal, packState := 1 }) id, 0, by decide +kernel⟩,
   ⟨packed (fun p => { p with supply := .exposed }) id, 0, by decide +kernel⟩,
   ⟨packed (fun p => { p with vinReset := true }) id, by decide +kernel⟩,
   ⟨packed (fun p => { p with supply := .watch, goodLaps := 4 }) id, by decide +kernel⟩⟩

/-- The cases of Obligations.PackStateOpensAndClosesTheGate are met. -/
theorem witness_PackStateOpensAndClosesTheGate :
    (∃ (s : State) (cause : Nat), (s.power.packState = 1) ∧ (cause = 0 ∨ cause = 3 ∨ cause = 4)) ∧
    (∃ (s : State) (mv : Nat) (dc : Int), (s.power.packState = 0 ∨ s.power.packState = 3) ∧ (s.packReading (mv * 1000) dc = 1) ∧ (s.power.first = true)) ∧
    (∃ (s : State) (w : Writer), (s.commandReason 0x4432 0 w (s.shipReason 0x50494853) = 0)) ∧
    (∃ s : State, (s.power.shipPending = true) ∧ (s.dirtyBytes = 0) ∧ (s.power.supply = .normal)) ∧
    (∃ (s : State) (uv : Nat) (_dc : Int), (s.power.packState = 2) ∧ (s.power.shipArmed = true) ∧ (packCutMv s.pack * 1000 ≤ uv) ∧ (uv ≤ packMaxMv s.pack * 1000)) :=
  ⟨⟨packed (fun p => { p with packState := 1 }) id, 0, by decide +kernel⟩,
   ⟨packed (fun p => { p with packState := 0, first := true }) id, 12000, 250, by decide +kernel⟩,
   ⟨packed (fun p => { p with supply := .normal }) id, host0, by decide +kernel⟩,
   ⟨packed (fun p => { p with supply := .normal, shipPending := true }) id, by decide +kernel⟩,
   ⟨packed (fun p => { p with packState := 2, shipArmed := true }) id, 10000000, 250, by decide +kernel⟩⟩

/-- The cases of Obligations.ChargerAndEstimatorAnswerTheirEvents are met. -/
theorem witness_ChargerAndEstimatorAnswerTheirEvents :
    (∃ s : State, (s.power.charger = 1)) ∧
    (∃ s : State, (s.power.charger ≠ 1)) ∧
    (∃ (s : State) (_uv : Nat) (_dc : Int) (moved t0 : Nat), (s.power.startRest = some t0) ∧ (t0 + 120000 * 1000000 ≤ s.clk.opNs) ∧ (s.power.packState ≠ 2) ∧ (2000 < moved)) ∧
    (∃ (s : State) (_uv : Nat) (_dc : Int) (moved t0 : Nat), (s.power.startRest = some t0) ∧ (t0 + 120000 * 1000000 ≤ s.clk.opNs) ∧ (s.power.packState ≠ 2) ∧ (s.power.first = false) ∧ (moved ≤ 2000)) ∧
    (∃ (s : State) (_uv : Nat) (_dc : Int) (_moved t0 : Nat), (s.power.startRest = some t0) ∧ (t0 + 120000 * 1000000 ≤ s.clk.opNs) ∧ (s.power.packState = 2)) ∧
    (∃ (s : State) (_uv : Nat) (_dc : Int) (_moved : Nat), ((∀ t0, s.power.startRest = some t0 → s.clk.opNs < t0 + 120000 * 1000000))) ∧
    (∃ (s : State) (uv : Nat) (dc : Int), (s.power.learn ≠ 3) ∧ ((1 : Rat) / 2 ≤ ratio ((uv : Rat) / 1000000) (packIchg s.pack * packRs s.pack dc)) ∧ (ratio ((uv : Rat) / 1000000) (packIchg s.pack * packRs s.pack dc) ≤ 4)) ∧
    (∃ (s : State) (uv : Nat) (dc : Int), (s.power.learn = 3 ∨
    ratio ((uv : Rat) / 1000000) (packIchg s.pack * packRs s.pack dc) < (1 : Rat) / 2 ∨
    4 < ratio ((uv : Rat) / 1000000) (packIchg s.pack * packRs s.pack dc))) ∧
    (∃ s : State, (s.power.pause = 1) ∧ (s.val 0x4421 = 1) ∧ (s.power.supply = .normal)) ∧
    (∃ (s : State) (_uv : Nat) (_dc : Int) (t0 : Nat), (s.power.pause = 2) ∧ (s.power.pauseNs = some t0) ∧ (t0 + 1800000 * 1000000 ≤ s.clk.opNs) ∧ (s.atRest = true)) ∧
    (∃ (s : State) (_uv : Nat) (_dc : Int) (t0 : Nat), (s.power.pause = 2) ∧ (s.power.pauseNs = some t0) ∧ (t0 + 1800000 * 1000000 ≤ s.clk.opNs) ∧ (s.atRest = false)) ∧
    (∃ s : State, (s.power.pause = 2) ∧ (s.val 0x4421 = 0)) ∧
    (∃ s : State, (s.power.pause = 1) ∧ (s.power.learn ≠ 3) ∧ (s.power.pauseDueNs + 86400000 * 1000000 ≤ s.clk.opNs)) ∧
    (∃ (s : State) (w : Writer), (s.commandReason 0x4431 0 w 0 = 0)) :=
  ⟨⟨packed (fun p => { p with charger := 1 }) id, by decide +kernel⟩,
   ⟨State.reset, by decide +kernel⟩,
   ⟨packed (fun p => { p with startRest := some 0 }) (late (10 ^ 18)), 0, 0, 2001, 0, by decide +kernel⟩,
   ⟨packed (fun p => { p with startRest := some 0, first := false }) (late (10 ^ 18)), 0, 0, 2000, 0, by decide +kernel⟩,
   ⟨packed (fun p => { p with startRest := some 0, packState := 2 }) (late (10 ^ 18)), 0, 0, 0, 0, by decide +kernel⟩,
   ⟨packed (fun p => { p with startRest := none }) id, 0, 0, 0, fun _ h => nomatch h⟩,
   ⟨packed id id, 1000000, 0, by decide +kernel⟩,
   ⟨packed (fun p => { p with learn := 3 }) id, 0, 0, by decide +kernel⟩,
   ⟨packed (fun p => { p with pause := 1 }) (fun c => c.setVal 0x4421 0 1), by decide +kernel⟩,
   ⟨packed (fun p => { p with pause := 2, pauseNs := some 0, first := false, packState := 1 }) (late (10 ^ 18)), 0, 0, 0, by decide +kernel⟩,
   ⟨packed (fun p => { p with pause := 2, pauseNs := some 0, packState := 0 }) (late (10 ^ 18)), 0, 0, 0, by decide +kernel⟩,
   ⟨packed (fun p => { p with pause := 2 }) (fun c => c.setVal 0x4421 0 0), by decide +kernel⟩,
   ⟨packed (fun p => { p with pause := 1 }) (late (10 ^ 18)), by decide +kernel⟩,
   ⟨State.reset, host0, by decide +kernel⟩⟩

/-- The cases of Obligations.VaultEnds are met. -/
theorem witness_VaultEnds :
    (∃ (s : State) (_ms : Nat), (s.power.vaultStep = 4) ∧ (s.power.supply = .vault)) ∧
    (∃ s : State, (s.power.supply = .vault) ∧ (s.power.vaultStep ≠ 0)) ∧
    (∃ (s : State) (drive : Nat), (s.power.vaultStep ≠ 0) ∧ (drive ∈ s.power.vaultDrives)) ∧
    (∃ (s : State) (_rate _mib _ms slot : Nat), (s.power.test = some slot)) :=
  ⟨⟨packed (fun p => { p with supply := .vault, vaultStep := 4 }) id, 0, by decide +kernel⟩,
   ⟨packed (fun p => { p with supply := .vault, vaultStep := 1 }) id, by decide +kernel⟩,
   ⟨packed (fun p => { p with vaultStep := 4, vaultDrives := [46] }) id, 46, by decide +kernel⟩,
   ⟨packed (fun p => { p with test := some 3 }) id, 0, 0, 0, 3, by decide +kernel⟩⟩

/-- The cases of Obligations.MemoryErrorsTakeTheirOutcome are met. -/
theorem witness_MemoryErrorsTakeTheirOutcome :
    (∃ (s : State) (region address bit : Nat), (48 ≤ region) ∧ (region < 64) ∧ ((region, address, bit) ∉ s.mem.hard) ∧ ((region, address, bit) ∉ s.mem.corrected) ∧ (s.mem.scrub.covers region address = false)) ∧
    (∃ (s : State) (region address bit : Nat), (48 ≤ region) ∧ (region < 64) ∧ ((region, address, bit) ∉ s.mem.hard) ∧ ((region, address, bit) ∈ s.mem.corrected) ∧ (s.mem.scrub.covers region address = false)) ∧
    (∃ (s : State) (region address _bit : Nat), (region < 48) ∧ (s.mem.scrub.covers region address = false)) ∧
    (∃ (s : State) (region address : Nat), (48 ≤ region) ∧ (region < 64) ∧ (s.mem.scrub.covers region address = false)) ∧
    (∃ (_s : State) (entry _region _address : Nat) (_m : MemoryContent), (entry < 64)) ∧
    (∃ (s : State) (ch : DmaChannel), (ch ∈ s.mem.halted) ∧ (ch ≠ .host)) ∧
    (∃ s : State, (.host ∈ s.mem.halted)) :=
  ⟨⟨State.reset, 48, 5, 3, by decide +kernel⟩,
   ⟨st (fun c => c.onMem (fun m => { m with corrected := [(48, 5, 3)] })), 48, 5, 3, by decide +kernel⟩,
   ⟨State.reset, 0, 5, 3, by decide +kernel⟩,
   ⟨State.reset, 63, 5, by decide +kernel⟩,
   ⟨State.reset, 63, 0, 0, .other, by decide +kernel⟩,
   ⟨st (fun c => c.onMem (fun m => { m with halted := [.utofer 1] })), .utofer 1, by decide +kernel⟩,
   ⟨st (fun c => c.onMem (fun m => { m with halted := [.host] })), by decide +kernel⟩⟩

/-- The cases of Obligations.ScrubsRunAndEnd are met. -/
theorem witness_ScrubsRunAndEnd :
    (∃ (s : State) (b : Bytes) (w : Writer), (s.commandReason 0x4840 0 w (s.scrubReason b) = 0)) ∧
    (∃ (s : State) (w : Writer), (s.commandReason 0x4843 0 w 0 = 0) ∧ (s.mem.scrub.state = 1)) ∧
    (∃ s : State, (s.mem.scrub.state = 1) ∧ (s.mem.scrub.cancel = false)) ∧
    (∃ (s : State) (lines : Nat), (s.val 0x4848 ≠ 0) ∧ (s.mem.patrol + 64 * lines < Config.lpddrBytes)) ∧
    (∃ (s : State) (lines : Nat), (s.val 0x4848 ≠ 0) ∧ (Config.lpddrBytes ≤ s.mem.patrol + 64 * lines)) :=
  ⟨⟨State.reset, [1, 48] ++ leBytes 14 0 ++ leBytes 8 8, host0, by decide +kernel⟩,
   ⟨st (fun c => c.onMem (fun m => { m with scrub := { m.scrub with state := 1 } })), host0, by decide +kernel⟩,
   ⟨st (fun c => c.onMem (fun m => { m with scrub := { m.scrub with state := 1 } })), by decide +kernel⟩,
   ⟨State.reset, 0, by decide +kernel, Nat.lt_of_lt_of_le (by decide +kernel : State.reset.mem.patrol + 64 * 0 < 96 * 2 ^ 30) (Nat.le_add_right _ _)⟩,
   ⟨State.reset, 2 ^ 33, by decide +kernel, Nat.le_trans (Nat.add_le_add_left (Nat.le_of_lt_succ (Nat.mod_lt _ (by decide))) _) (by decide +kernel)⟩⟩

/-- The cases of Obligations.FaultsAreTakenClearedAndForced are met. -/
theorem witness_FaultsAreTakenClearedAndForced :
    (∃ (_s : State) (source kind : Nat) (_address : Option Nat), (kindOf source kind = true) ∧ (directKind kind = false)) ∧
    (∃ (s : State) (source : Nat) (p : PendingFault), (s.faults.pending = [(source, p)]) ∧ (p.started = true) ∧ (p.left = 0)) ∧
    (∃ (s : State) (value : Nat) (w : Writer), (s.commandReason 0x4C11 0 w (s.clearReason value w) = 0)) ∧
    (∃ (s : State) (source kind : Nat) (w : Writer), (kindOf source kind = true) ∧ (directKind kind = false) ∧ (s.commandReason (0x4C40 + source / 256) (source % 256) w 0 = 0)) :=
  ⟨⟨State.reset, 0xC0, 0x20, none, by decide +kernel⟩,
   ⟨st (fun c => c.onFaults (fun f => { f with pending := [(0xC0, pend0)] })), 0xC0, pend0, by decide +kernel⟩,
   ⟨st (fun c => c.onFaults (fun f => { f with pending := [(0xC0, { pend0 with started := false, left := 1, forced := true })] })), 0xC0, net0, by decide +kernel⟩,
   ⟨State.reset, 0xC0, 0x20, net0, by decide +kernel⟩⟩

/-- The cases of Obligations.RecorderFlushesAndCheckpoints are met. -/
theorem witness_RecorderFlushesAndCheckpoints :
    (∃ (s : State) (w : Writer), (s.commandReason 0x5040 0 w 0 = 0)) ∧
    (∃ s : State, (s.recorder.flushed < s.recorder.seq) ∧ (s.recorder.lastFlushLap + 1024 ≤ s.lap)) :=
  ⟨⟨State.reset, host0, by decide +kernel⟩,
   ⟨st (fun c => (c.onRec (fun r => { r with seq := 5 })).onClk (fun k => { k with stride := 2 ^ 20 })), by decide +kernel⟩⟩

/-- The cases of Obligations.StartsAndResetsSetTheClock are met. -/
theorem witness_StartsAndResetsSetTheClock :
    (∃ (s : State) (i : StartInputs), (s.start.powered = false) ∧ (i.railsOk = true) ∧ (i.referenceOk = true) ∧ (s.ring.stale = false)) ∧
    (∃ (s : State) (us : Nat), (10 ≤ us) ∧ (s.start.powered = true) ∧ (s.power.supply ≠ .vault) ∧ (s.power.supply ≠ .watch) ∧ (s.ring.stale = false)) ∧
    (∃ (s : State) (us : Nat), (10 ≤ us) ∧ (s.start.powered = true) ∧ (s.power.supply = .vault ∨ s.power.supply = .watch)) ∧
    (∃ (s : State) (_i : StartInputs), (s.start.resetN = true) ∧ (s.power.resetHeld = false) ∧ (s.start.powered = true) ∧ (s.ring.stale = false)) ∧
    (∃ s : State, (s.start.powered = true) ∧ (s.start.phase = 0) ∧ (s.clk.running = false) ∧ (s.start.resetN = false) ∧ (s.power.vinReset = false)) ∧
    (∃ s : State, (s.start.phase = 2) ∧ (s.membersOver = true) ∧ (s.chooseSource = .retained) ∧ (s.paired = false)) ∧
    (∃ (s : State) (w : Writer), (s.commandReason 0x5430 0 w (s.unitResetReason 0x52540001) = 0) ∧ (s.ring.stale = false)) ∧
    (∃ s : State, (s.start.powered = true) ∧ (s.ring.stale = false)) ∧
    (∃ (s : State) (b : Bytes) (w : Writer), (s.commandReason 0x5420 0 w (chunkReason b) = 0)) ∧
    (∃ (s : State) (found : FlashImage) (w : Writer), (s.commandReason 0x5421 0 w (if s.imageOk found then 0 else 6) = 0)) :=
  ⟨⟨st (fun c => c.onStart (fun x => { x with powered := false })), inputs0, by decide +kernel⟩,
   ⟨st (fun c => c.onStart (fun x => { x with powered := true })), 10, by decide +kernel⟩,
   ⟨st (fun c => (c.onStart (fun x => { x with powered := true })).onPower (fun p => { p with supply := .watch })), 10, by decide +kernel⟩,
   ⟨st (fun c => c.onStart (fun x => { x with powered := true, resetN := true })), inputs0, by decide +kernel⟩,
   ⟨st (fun c => c.onStart (fun x => { x with powered := true, phase := 0, resetN := false })), by decide +kernel⟩,
   ⟨st (fun c => late (10 ^ 18) (c.onStart (fun x => { x with powered := true, phase := 2, retained := true, lostMemory := false }))), by decide +kernel⟩,
   ⟨State.reset, host0, by decide +kernel⟩,
   ⟨st (fun c => c.onStart (fun x => { x with powered := true })), by decide +kernel⟩,
   ⟨State.reset, List.replicate 4096 0, host0, by decide +kernel⟩,
   ⟨State.reset, flashImage0, host0, by decide +kernel⟩⟩

end Sys2Proof.Tests
end

section
/-! The writes the dictionary refuses for their range, and the supply and confidence objects of chapter 13. -/

namespace Sys2Proof.Machine

/-! ### Numbers as bytes -/

@[simp] theorem length_leBytes (n v : Nat) : (leBytes n v).length = n := by
  induction n generalizing v with
  | zero => rfl
  | succ n ih => simp [leBytes, ih]

/-- A number that fits its bytes is read back from them. -/
theorem leNat_leBytes (n v : Nat) (h : v < 256 ^ n) : leNat (leBytes n v) = v := by
  induction n generalizing v with
  | zero => simp at h; simp [leBytes, leNat, h]
  | succ n ih =>
    have hq : v / 256 < 256 ^ n := Nat.div_lt_of_lt_mul (by rwa [pow_succ'] at h)
    have hb : (BitVec.ofNat 8 v).toNat = v % 256 := BitVec.toNat_ofNat v 8
    rw [leBytes, leNat, ih _ hq, hb]
    exact Nat.mod_add_div v 256

/-! ### Objects of the directory -/

/-- An object with the one subindex 0 is present whatever the arrangement of slots. -/
theorem Chip.object_of_findObj (c : Chip) {index : Nat} {o : Obj} (h : findObj index = some o) (hf : o.first = 0)
    (hl : o.last = 0) : c.object index 0 = some o := by
  simp [Chip.object, h, Chip.hasSub, hf, hl]

/-- A present object reads as its value. -/
theorem Chip.readObject_of_object (c : Chip) {index sub : Nat} {o : Obj} (h : c.object index sub = some o) :
    c.readObject index sub = some (c.valueOf o sub) := by
  rw [Chip.readObject, h, Option.map_some]

/-- A readable object kept as state of a chapter has the value that chapter computes. -/
theorem Chip.valueOf_of_computed (c : Chip) {o : Obj} {sub : Nat} {b : Bytes} (ha : o.access ≠ 4) (hs : o.secret = false)
    (h : c.computed o.index sub = some b) : c.valueOf o sub = b := by
  simp [Chip.valueOf, ha, hs, h]

/-- A readable number the dictionary stores has its stored value, in as many bytes as the object has. -/
theorem Chip.valueOf_of_stored (c : Chip) {o : Obj} {sub : Nat} (ha : o.access ≠ 4) (hs : o.secret = false)
    (ht : o.ty ≠ 12 ∧ o.ty ≠ 13 ∧ o.ty ≠ 10) (h : c.computed o.index sub = none) :
    c.valueOf o sub = leBytes o.len (c.val o.index sub) := by
  obtain ⟨h12, h13, h10⟩ := ht
  simp [Chip.valueOf, ha, hs, h, h12, h13, h10]

/-! ### The confidence (R380) -/

/-- confidence_permille and confidence_in_force_permille as the directory has them (Table 13.13). -/
theorem findObj_confidence : findObj 0x441D = some (obj 0x441D 0 0 3 2 2 800 0x0D 500 1000 1 true false) := by
  decide +kernel

theorem findObj_confidenceInForce : findObj 0x441E = some (obj 0x441E 0 0 3 2 1 800 0x00 0 65535 1 false false) := by
  decide +kernel

/-- Object 0x441E reads the confidence in force. -/
theorem Chip.readObject_confidenceInForce (c : Chip) : c.readObject 0x441E 0 = some (leBytes 2 c.confidence) := by
  have hc : c.computed 0x441E 0 = some (leBytes 2 c.confidence) := by simp [Chip.computed, Chip.computed44]
  rw [c.readObject_of_object (c.object_of_findObj findObj_confidenceInForce rfl rfl),
    c.valueOf_of_computed (by decide) rfl hc]

/-- Object 0x441D reads its stored value. -/
theorem Chip.readObject_confidence (c : Chip) : c.readObject 0x441D 0 = some (leBytes 2 (c.val 0x441D)) := by
  have hc : c.computed 0x441D 0 = none := by simp [Chip.computed, Chip.computed44]
  rw [c.readObject_of_object (c.object_of_findObj findObj_confidence rfl rfl),
    c.valueOf_of_stored (by decide) rfl (by decide) hc]
  rfl

theorem Chip.confidence_of_learned (c : Chip) (h : c.power.learn = 1 ∨ c.power.learn = 2) : c.confidence = 1000 :=
  if_pos h

theorem Chip.confidence_of_unlearned (c : Chip) (h : c.power.learn = 0 ∨ c.power.learn = 3) :
    c.confidence = c.val 0x441D :=
  if_neg (by omega)

/-- An object nothing has been stored at has its default. -/
theorem Chip.val_of_find_none (c : Chip) {index sub : Nat} (h : c.dict.values.find (objKey index sub) = none) :
    c.val index sub = objDefault c index sub := by
  rw [Chip.val, h]

/-- At reset the confidence is the directory's default. -/
theorem val_confidence_reset : State.reset.val 0x441D = 800 := by
  rw [Chip.val_of_find_none _ rfl]
  simp [objDefault, findObj_confidence, obj]

/-- Settles O16: 0x441E is computed from the learn state, 0x441D is stored. -/
theorem confidenceFollowsTheLearnState : Obligations.ConfidenceFollowsTheLearnState := by
  intro s
  refine ⟨fun learned => ?_, fun unlearned => ?_, s.readObject_confidence, val_confidence_reset⟩
  · rw [s.readObject_confidenceInForce, s.confidence_of_learned learned]
  · rw [s.readObject_confidenceInForce, s.confidence_of_unlearned unlearned]

/-! ### A write refused for its range (Table 12.4, R333) -/

/-- A writer with the right, whom the filter does not exclude, passes the checks of access. -/
theorem Chip.accessReason_eq_zero (c : Chip) {index sub : Nat} {w : Writer} {o : Obj} (hobj : c.object index sub = some o)
    (hserved : c.served index = true) (haccess : 2 ≤ o.access)
    (hright : (c.rightsOf o).testBit (originCode w.origin) = true) (hfilter : c.filtered w = false) :
    c.accessReason index sub w = 0 := by
  simp [Chip.accessReason, hobj, hserved, hright, hfilter, Nat.not_lt.mpr haccess]

/-- A write that passes the checks of access and not that of its range has the reason `range`. -/
theorem Chip.writeReason_of_range (c : Chip) {index sub : Nat} {b : Bytes} {w : Writer} {o : Obj}
    (hobj : c.object index sub = some o) (haccess : c.accessReason index sub w = 0) (hrange : c.rangeOk o sub b w = false) :
    c.writeReason index sub b w = 4 := by
  simp [Chip.writeReason, haccess, hobj, hrange]

/-- A value whose write is refused is logged with the reason, and that is all. -/
theorem Chip.dictDo_of_refused (c : Chip) {sub reason : Nat} {b : Bytes} {w : Writer} {o : Obj}
    (hhome : homeOf o.index sub = (o.index, sub)) (hobj : c.object o.index sub = some o) (hserved : c.served o.index = true)
    (hvalue : o.access ≠ 4) (hreason : c.writeReason o.index sub b w = reason) (hrefused : reason ≠ 0) :
    c.dictDo o.index sub b w = c.logChange o.index sub w reason 0 (c.first8 o.index sub) (leNat (b.take 8)) o.secret := by
  simp [Chip.dictDo, Chip.dictTake, hhome, hobj, hserved, hvalue, Chip.takeValue, hreason, hrefused]

/-- In every phase but NO_IMAGE all objects are served (R433). -/
theorem Chip.served_of_phase (c : Chip) (index : Nat) (h : c.start.phase ≠ 6) : c.served index = true := by
  simp [Chip.served, h]

/-- A number that the ranges depending on other objects exclude is out of range. -/
theorem Chip.rangeOk_of_dynamicOk (c : Chip) {o : Obj} {sub v : Nat} {w : Writer} (ht : o.ty ≠ 12 ∧ o.ty ≠ 13)
    (hfits : v < 256 ^ o.len) (hdyn : c.dynamicOk o.index sub v = false) :
    c.rangeOk o sub (leBytes o.len v) w = false := by
  obtain ⟨h12, h13⟩ := ht
  simp [Chip.rangeOk, h12, h13, leNat_leBytes _ _ hfits, hdyn]

/-! ### The supply levels (R359) -/

/-- The directory row of a supply level (Table 13.13). -/
def supplyLevel (index dflt lo hi : Nat) : Obj := obj index 0 0 3 2 2 dflt 0x0D lo hi 1 true false

theorem findObj_warn : findObj 0x4400 = some (supplyLevel 0x4400 11200 10400 11800) := by decide +kernel

theorem findObj_switch : findObj 0x4401 = some (supplyLevel 0x4401 10800 10000 11400) := by decide +kernel

theorem findObj_reset : findObj 0x4402 = some (supplyLevel 0x4402 10000 9000 10600) := by decide +kernel

theorem Chip.dynamicOk_warn (c : Chip) (v : Nat) : c.dynamicOk 0x4400 0 v = decide (c.val 0x4401 + 200 ≤ v) := by
  simp [Chip.dynamicOk]

theorem Chip.dynamicOk_switch (c : Chip) (v : Nat) :
    c.dynamicOk 0x4401 0 v = (decide (v + 200 ≤ c.val 0x4400) && decide (c.val 0x4402 + 400 ≤ v)) := by
  simp [Chip.dynamicOk]

theorem Chip.dynamicOk_reset (c : Chip) (v : Nat) : c.dynamicOk 0x4402 0 v = decide (v + 400 ≤ c.val 0x4401) := by
  simp [Chip.dynamicOk]

/-- A write to a supply level by a writer with the right, of a value too near a neighbour, is logged as refused for its range. -/
theorem exec_dictWriteOther_supplyLevel (s : State) (w : Writer) {v index dflt lo hi : Nat}
    (hphase : s.start.phase ≠ 6) (hv : v < 65536) (hfilter : s.filtered w = false)
    (hrow : findObj index = some (supplyLevel index dflt lo hi)) (hhome : homeOf index 0 = (index, 0))
    (hsecret : (supplyLevel index dflt lo hi).secret = false)
    (hright : ∀ o, s.object index 0 = some o → (s.rightsOf o).testBit (originCode w.origin) = true)
    (hnear : s.dynamicOk index 0 v = false) :
    exec (.dictWriteOther index 0 (leBytes 2 v) w) s = .next (s.resetLeft
      (s.logChange index 0 w 4 0 (s.first8 index 0) v false).pumpHost) := by
  have hobj := s.object_of_findObj hrow rfl rfl
  have hserved := s.served_of_phase index hphase
  have haccess := s.accessReason_eq_zero hobj hserved (by simp [supplyLevel, obj]) (hright _ hobj) hfilter
  have hrange : s.rangeOk (supplyLevel index dflt lo hi) 0 (leBytes 2 v) w = false :=
    s.rangeOk_of_dynamicOk (by simp [supplyLevel, obj]) hv hnear
  have hreason := s.writeReason_of_range hobj haccess hrange
  have hnew : leNat ((leBytes 2 v).take 8) = v := leNat_leBytes 2 v hv
  have hdo : s.dictDo index 0 (leBytes 2 v) w = s.logChange index 0 w 4 0 (s.first8 index 0) v false := by
    have h := s.dictDo_of_refused (o := supplyLevel index dflt lo hi) hhome hobj hserved (by simp [supplyLevel, obj])
      hreason (by decide)
    rwa [hsecret, hnew] at h
  rw [← hdo]
  exact s.resetEffect_left _

/-- Settles O18: each level's neighbours exclude the value, so the write fails the check of its range. -/
theorem supplyLevelsKeepTheirDistance : Obligations.SupplyLevelsKeepTheirDistance := by
  intro s w v hphase hv hfilter hright refused
  refine ⟨fun hnear => ?_, fun hnear => ?_, fun hnear => ?_⟩
  · refine exec_dictWriteOther_supplyLevel s w hphase hv hfilter findObj_warn rfl rfl (hright _ (by simp)) ?_
    simpa [Chip.dynamicOk_warn] using hnear
  · refine exec_dictWriteOther_supplyLevel s w hphase hv hfilter findObj_switch rfl rfl (hright _ (by simp)) ?_
    rw [Chip.dynamicOk_switch, Bool.and_eq_false_iff, decide_eq_false_iff_not, decide_eq_false_iff_not]
    omega
  · refine exec_dictWriteOther_supplyLevel s w hphase hv hfilter findObj_reset rfl rfl (hright _ (by simp)) ?_
    simpa [Chip.dynamicOk_reset] using hnear

end Sys2Proof.Machine
end

section
/-! The fault collector's objects of chapter 15: the pending fault of each source. -/

namespace Sys2Proof.Machine

/-! ### The pending fault of a source (R415) -/

/-- An object of fixed range is present at each subindex of its range. -/
theorem Chip.object_of_mem_range (c : Chip) {index sub : Nat} {o : Obj} (h : findObj index = some o) (hf : o.first ≤ sub)
    (hl : sub ≤ o.last) (hfixed : o.last ≠ 1000) : c.object index sub = some o := by
  simp [Chip.object, h, Chip.hasSub, hf, hl, hfixed]

/-- The directory row of one of the four source_pending objects (Table 15.10). -/
def sourcePending (index : Nat) : Obj := obj index 0 255 13 16 1 0 0x00 0 0 1 false false

theorem findObj_sourcePending : ∀ bank < 4, findObj (0x4C21 + bank) = some (sourcePending (0x4C21 + bank)) := by
  decide +kernel

/-- Each source_pending object is present with all 256 subindices. -/
theorem Chip.object_sourcePending (c : Chip) {bank sub : Nat} (hbank : bank < 4) (hsub : sub < 256) :
    c.object (0x4C21 + bank) sub = some (sourcePending (0x4C21 + bank)) :=
  c.object_of_mem_range (findObj_sourcePending bank hbank) (Nat.zero_le sub) (Nat.le_of_lt_succ hsub)
    (show (255 : Nat) ≠ 1000 by decide)

/-- The source_pending objects are computed by the fault collector. -/
theorem Chip.computed_sourcePending (c : Chip) {bank : Nat} (sub : Nat) (hbank : bank < 4) :
    c.computed (0x4C21 + bank) sub = c.computed4C (0x4C21 + bank) sub := by
  have hgroup : (0x4C21 + bank) / 256 = 0x4C := by omega
  simp [Chip.computed, hgroup]

/-- The collector finds the source by its bank of 256 and its place there. -/
theorem Chip.computed4C_sourcePending (c : Chip) {bank : Nat} (sub : Nat) (hbank : bank < 4) :
    c.computed4C (0x4C21 + bank) sub =
      some (((c.faults.pending.find (bank * 256 + sub)).map PendingFault.bytes).getD (List.replicate 16 0)) := by
  rw [Chip.computed4C, if_neg (by omega), if_neg (by omega), if_neg (by omega), if_neg (by omega), if_pos (by omega),
    Nat.add_sub_cancel_left]
  cases c.faults.pending.find (bank * 256 + sub) with
  | none => rfl
  | some p => rfl

/-- A source's subindex reads its pending fault, or zeros. -/
theorem Chip.readObject_sourcePending (c : Chip) {source : Nat} (h : source < 1024) :
    c.readObject (0x4C21 + source / 256) (source % 256) =
      some (((c.faults.pending.find source).map PendingFault.bytes).getD (List.replicate 16 0)) := by
  have hbank : source / 256 < 4 := by omega
  have hsub : source % 256 < 256 := Nat.mod_lt _ (by decide)
  have hvalue := (c.computed_sourcePending (source % 256) hbank).trans (c.computed4C_sourcePending (source % 256) hbank)
  rw [Nat.div_add_mod'] at hvalue
  have hopen : (sourcePending (0x4C21 + source / 256)).secret = false := by
    simp only [sourcePending, obj, decide_eq_false_iff_not]
    omega
  rw [c.readObject_of_object (c.object_sourcePending hbank hsub)]
  exact congrArg some (c.valueOf_of_computed (by simp [sourcePending, obj]) hopen hvalue)

/-- Settles O17: the object of the source's bank is computed from the collector's pending table. -/
theorem pendingFaultsAreRead : Obligations.PendingFaultsAreRead := by
  intro s source hsource
  refine ⟨fun p hpending => ?_, fun hnone => ?_⟩
  · rw [s.readObject_sourcePending hsource, hpending]
    rfl
  · rw [s.readObject_sourcePending hsource, hnone]
    rfl

end Sys2Proof.Machine
end

section
/-! What a step is (O1 to O3), and what reporting a command touches (O8). -/

namespace Sys2Proof.Machine

/-! ### A step takes the front command -/

theorem step_cons (s : State) (i : Instr) (r : List Instr) (h : s.pending = i :: r) :
    step s = exec i { s with pending := r } := by
  simp only [step, h]

theorem step_nil (s : State) (h : s.pending = []) : step s = .next s := by
  simp only [step, h]

/-- Settles O1. -/
theorem stepRunsTheFrontCommand : Obligations.StepRunsTheFrontCommand :=
  fun s i => step_cons { s with pending := i :: s.pending } i s.pending rfl

/-- Settles O2. -/
theorem emptyQueueIdles : Obligations.EmptyQueueIdles := step_nil

/-- Settles O3: a command goes on and keeps the commands that wait behind it. -/
theorem everyStepTakesOneCommand : Obligations.EveryStepTakesOneCommand := by
  intro s
  cases hq : s.pending with
  | nil => exact ⟨s, step_nil s hq, by simp [takesFront, hq]⟩
  | cons i r =>
    obtain ⟨c, hc⟩ := exec_pending i { s with pending := r }
    exact ⟨_, (step_cons s i r hq).trans hc, by simp [takesFront, hq]⟩

/-- Settles O7: such a command is an effect, which keeps the clock and the straps. -/
theorem otherCommandsLeaveTheClock : Obligations.OtherCommandsLeaveTheClock := by
  intro i s t hi ht
  obtain ⟨f, hf⟩ := exec_effect i s hi
  rw [hf, State.effect_left] at ht
  cases ht
  exact ⟨State.left_clk s _, State.left_straps s _⟩

/-! ### Reporting counts the flits that no path reaches -/

/-- The chip at reset once it has sent a message to node 5, which no link reaches. -/
def strayMessage : Chip := Chip.reset.send 5 4 1 []

theorem Chip.sameBut_unrouted {a b : Chip} (h : a.sameBut b) : a.ring.unrouted = b.ring.unrouted := by
  have e := congrArg (fun c : Chip => c.ring.unrouted) h
  exact e

/-- Reporting counts the one flit of the stray message. -/
theorem strayMessage_unrouted : (State.reset.leaves strayMessage).ring.unrouted = 1 := by decide +kernel

/-- Refutes O8: reporting also raises the ring's count of flits without a path (R310). -/
theorem not_reportingTouchesFourParts : ¬ Obligations.ReportingTouchesFourParts := by
  intro h
  have hring := Chip.sameBut_unrouted (h State.reset strayMessage).1
  rw [strayMessage_unrouted] at hring
  exact absurd hring (by decide)

end Sys2Proof.Machine
end

section
/-! The legal states of the stride clock (O5, O6): each of the clock's operations keeps them, and so does every step. -/

namespace Sys2Proof.Machine

/-! ### Clocks -/

/-- The stride clock of a node is in a state the rules allow: what `ClockLegal` says of a chip, of its clock and node ID. -/
structure Clock.Legal (k : Clock) (node : Nat) : Prop where
  ticks_pos : 0 < k.ticks
  free : k.sync = .free → k.pacer = false ∧ k.pacerNode = 255 ∧ k.correction = 0
  pacer : k.pacer = true → k.sync = .locked ∧ k.pacerNode = node ∧ k.correction = 0
  awaitLap : k.awaitLap = true → k.sync = .acquiring
  bounded : k.sync ≠ .acquiring → -4 ≤ k.correction ∧ k.correction ≤ 4
  lengthens : k.sync = .acquiring → 0 ≤ k.correction
  counts : k.good = 0 ∨ k.bad = 0
  hold : k.holdStrides ≠ 0 → k.sync = .holdover

theorem clockLegal_iff (c : Chip) : ClockLegal c ↔ c.straps.nodeId < 32 ∧ c.clk.Legal c.straps.nodeId := by
  constructor
  · rintro ⟨hn, ht, hf, hp, ha, hb, hl, hc, hh⟩
    exact ⟨hn, ht, hf, hp, ha, hb, hl, hc, hh⟩
  · rintro ⟨hn, ht, hf, hp, ha, hb, hl, hc, hh⟩
    exact ⟨hn, ht, hf, hp, ha, hb, hl, hc, hh⟩

/-- A free clock that nothing has been measured by is legal. -/
theorem Clock.Legal.of_free {k : Clock} {n : Nat} (ht : 0 < k.ticks) (hs : k.sync = .free) (hp : k.pacer = false)
    (hn : k.pacerNode = 255) (hc : k.correction = 0) (ha : k.awaitLap = false) (hg : k.good = 0 ∨ k.bad = 0)
    (hh : k.holdStrides = 0) : k.Legal n := by
  constructor <;> simp_all

namespace Clock.Legal
variable {k : Clock} {n : Nat} (h : k.Legal n)
include h

/-- A change of what the rules of the sync states do not speak of. -/
theorem congr {j : Clock} (ht : 0 < j.ticks) (hs : j.sync = k.sync) (hp : j.pacer = k.pacer) (hn : j.pacerNode = k.pacerNode)
    (hc : j.correction = k.correction) (ha : j.awaitLap = k.awaitLap) (hg : j.good = k.good) (hb : j.bad = k.bad)
    (hh : j.holdStrides = k.holdStrides) : j.Legal n := by
  obtain ⟨_, hf, hp', ha', hb', hl, hc', hh'⟩ := h
  constructor <;> simpa only [hs, hp, hn, hc, ha, hg, hb, hh]

/-- The stride advances: a correction made while ACQUIRING is spent, and strides of HOLDOVER are counted. -/
theorem advance : k.advance.Legal n := by
  obtain ⟨ht, hf, hp, ha, hb, hl, hc, hh⟩ := h
  constructor <;> (simp only [Clock.advance]; cases hs : k.sync <;> simp_all)

theorem phaseLap : k.phaseLap.Legal n := h.congr h.ticks_pos rfl rfl rfl rfl rfl rfl rfl rfl

theorem hearLower : k.hearLower.Legal n := h.congr h.ticks_pos rfl rfl rfl rfl rfl rfl rfl rfl

/-- ACQUIRING begins with nothing counted and nothing corrected, whatever pacer is named. -/
theorem acquire (m : Nat) : ({ k.acquire with pacerNode := m } : Clock).Legal n := by
  constructor <;> simp [Clock.acquire, h.ticks_pos]

theorem markerLoss : k.markerLoss.Legal n := by
  unfold Clock.markerLoss
  split
  · next hcond =>
    obtain ⟨hs, hp, -⟩ := hcond
    have hb := h.bounded (by simp [hs])
    have ha : k.awaitLap = false := by simpa [hs] using h.awaitLap
    constructor <;> simp_all [h.ticks_pos]
  · exact h

theorem holdoverExpiry : k.holdoverExpiry.Legal n := by
  unfold Clock.holdoverExpiry
  split
  · exact h.acquire 255
  · exact h

/-- The pacer names itself, LOCKED and without a correction. -/
theorem pace : ({ k with pacer := true, sync := .locked, offset := 0, pacerNode := n, correction := 0
                         pacerChanges := k.pacerChanges + 1, good := 0, bad := 0, awaitLap := false, holdStrides := 0
                         lowerRun := 0 } : Clock).Legal n := by
  constructor <;> simp [h.ticks_pos]

/-- A marker is measured by a node that is in the ring and no pacer: one of the two counts is 0. -/
theorem measure (m : MarkerMsg) (e : Int) (hs : k.sync ≠ .free) (hp : k.pacer = false) : (k.measure m e).Legal n := by
  obtain ⟨ht, hf, hp', ha, hb, hl, -, hh⟩ := h
  constructor <;> simp_all [Clock.measure]

/-- ACQUIRING ends with the pacer's stride number. -/
theorem takeStride (m : Nat) (hs : k.sync = .acquiring) (hp : k.pacer = false) : (k.takeStride m).Legal n := by
  have hh : k.holdStrides = 0 := by simpa [hs] using h.hold
  constructor <;> simp [Clock.takeStride, h.ticks_pos, hp, hh]

/-- ACQUIRING only lengthens a stride: the remainder by the stride's ticks is not negative. -/
theorem pullIn (e : Int) (hs : k.sync = .acquiring) (hp : k.pacer = false) : (k.pullIn e).Legal n := by
  have hpos : (k.ticks : Int) ≠ 0 := by exact_mod_cast h.ticks_pos.ne'
  have hcorr : 0 ≤ (k.pullIn e).correction := by
    simp only [Clock.pullIn]
    split
    · exact le_refl 0
    · exact Int.emod_nonneg _ hpos
  have hh : k.holdStrides = 0 := by simpa [hs] using h.hold
  obtain ⟨ht, -, -, -, -, -, hc, -⟩ := h
  constructor <;> simp_all [Clock.pullIn]

end Clock.Legal

theorem clamp4_bounds (x : Int) : -4 ≤ clamp4 x ∧ clamp4 x ≤ 4 := by
  unfold clamp4
  split
  · decide
  · split <;> omega

namespace Clock.Legal
variable {k : Clock} {n : Nat} (h : k.Legal n)
include h

/-- LOCKED, reached or kept, takes a correction of at most 4 ticks. -/
theorem lock (x : Int) (hp : k.pacer = false) (ha : k.awaitLap = false) (hh : k.holdStrides = 0) :
    ({ k with sync := .locked, correction := clamp4 x } : Clock).Legal n := by
  have hx := clamp4_bounds x
  constructor <;> simp_all [h.ticks_pos, h.counts]

end Clock.Legal

/-! ### Chips -/

/-- The clock and the node ID of a chip are legal. -/
theorem ClockLegal.congr {c d : Chip} (h : ClockLegal c) (hn : d.straps.nodeId = c.straps.nodeId) (hk : d.clk.Legal c.straps.nodeId) :
    ClockLegal d := by
  rw [clockLegal_iff, hn]
  exact ⟨((clockLegal_iff c).mp h).1, hk⟩

theorem ClockLegal.clock {c : Chip} (h : ClockLegal c) : c.clk.Legal c.straps.nodeId := ((clockLegal_iff c).mp h).2

/-- Only the clock and the straps matter. -/
theorem ClockLegal.of_eq {c d : Chip} (h : ClockLegal c) (hk : d.clk = c.clk) (hs : d.straps = c.straps) : ClockLegal d :=
  h.congr (by rw [hs]) (by rw [hk]; exact h.clock)

theorem ClockLegal.aside {c : Chip} (h : ClockLegal c) (f : Chip → Chip) : ClockLegal (c.aside f) := h.of_eq rfl rfl

theorem ClockLegal.onClk {c : Chip} (h : ClockLegal c) {f : Clock → Clock} (hf : (f c.clk).Legal c.straps.nodeId) :
    ClockLegal (c.onClk f) := h.congr rfl hf

theorem ClockLegal.afterCommand {c : Chip} (h : ClockLegal c) (old : Chip) : ClockLegal (Chip.afterCommand old c) := h.of_eq rfl rfl

/-- The clock of a node that enters the ring (Table 2.6). -/
def Clock.entered (k : Clock) : Clock :=
  if k.sync = SyncState.free then { k with sync := .acquiring, good := 0, bad := 0, awaitLap := false } else k

/-- The clock of a node that leaves the ring, or stays outside. -/
def Clock.departed (k : Clock) : Clock :=
  { k with sync := .free, pacer := false, pacerNode := 255, correction := 0, awaitLap := false, holdStrides := 0 }

theorem Clock.Legal.entered {k : Clock} {n : Nat} (h : k.Legal n) : k.entered.Legal n := by
  unfold Clock.entered
  split
  · next hfree =>
    obtain ⟨hp, -, hc⟩ := h.free hfree
    have hh : k.holdStrides = 0 := by simpa [hfree] using h.hold
    constructor <;> simp [h.ticks_pos, hp, hc, hh]
  · exact h

theorem Clock.Legal.departed {k : Clock} {n : Nat} (h : k.Legal n) : k.departed.Legal n :=
  .of_free h.ticks_pos rfl rfl rfl rfl rfl h.counts rfl

/-- Working the ring's state out again moves the clock in or out of the ring at most. -/
theorem Chip.ringUpdate_clk (c : Chip) : c.ringUpdate.clk = c.clk.entered ∨ c.ringUpdate.clk = c.clk.departed :=
  ite_eq_or_eq _ c.clk.entered c.clk.departed

theorem ClockLegal.ringUpdate {c : Chip} (h : ClockLegal c) : ClockLegal c.ringUpdate := by
  refine h.congr rfl ?_
  rcases c.ringUpdate_clk with e | e <;> rw [e]
  · exact h.clock.entered
  · exact h.clock.departed

theorem ClockLegal.ringSettle {c : Chip} (h : ClockLegal c) : ClockLegal c.ringSettle := by
  unfold Chip.ringSettle
  split
  · exact h.ringUpdate
  · exact h

theorem Clock.restarted_legal (k : Clock) (kind ms n : Nat) : (k.restarted kind ms).Legal n :=
  .of_free (by decide : 0 < 4096) rfl rfl rfl rfl rfl (.inl rfl) rfl

theorem Straps.restarted_nodeId_lt {t : Straps} (h : t.nodeId < 32) (kind : Nat) (i : StartInputs) : (t.restarted kind i).nodeId < 32 := by
  unfold Straps.restarted
  split
  · exact Nat.mod_lt _ (by decide)
  · exact h

theorem Chip.startDirectory_straps (c : Chip) : c.startDirectory.straps = c.straps := by
  unfold Chip.startDirectory
  split <;> rfl

/-- A start leaves the clock at its reset, the straps read again. -/
theorem ClockLegal.clear {c : Chip} (h : ClockLegal c) (kind : Nat) (i : StartInputs) : ClockLegal (c.clear kind i) := by
  rw [clockLegal_iff]
  refine ⟨?_, Clock.restarted_legal ..⟩
  show (c.startDirectory.straps.restarted kind i).nodeId < 32
  rw [Chip.startDirectory_straps]
  exact Straps.restarted_nodeId_lt ((clockLegal_iff c).mp h).1 kind i

theorem ClockLegal.restart {c : Chip} (h : ClockLegal c) (kind : Nat) (i : StartInputs) : ClockLegal (c.restart kind i) := by
  refine ClockLegal.aside (ClockLegal.clear ?_ kind i) _
  split
  · exact h
  · exact h.aside _

theorem ClockLegal.heldInReset {c : Chip} (h : ClockLegal c) (powered : Bool) : ClockLegal (c.heldInReset powered) :=
  h.congr rfl (h.clock.congr h.clock.ticks_pos rfl rfl rfl rfl rfl rfl rfl rfl)

theorem ClockLegal.resetSettle {c : Chip} (h : ClockLegal c) : ClockLegal c.resetSettle := by
  unfold Chip.resetSettle
  split
  · exact h
  · exact h.restart ..
  · exact (h.aside _).restart ..
  · exact h.heldInReset _
  · exact h.heldInReset _

/-! ### The commands of the clock -/

theorem ClockLegal.strideBoundary {c : Chip} (h : ClockLegal c) (x : Option Nat) : ClockLegal (c.strideBoundary x) := by
  have hadv : ClockLegal (c.onClk Clock.advance) := h.onClk h.clock.advance
  unfold Chip.strideBoundary
  split
  · exact h
  · dsimp only
    split
    · exact (hadv.aside _).resetSettle
    · exact ((hadv.aside _).resetSettle).aside _

theorem ClockLegal.ringLap {c : Chip} (h : ClockLegal c) : ClockLegal c.ringLap := by
  unfold Chip.ringLap
  dsimp only
  split
  · exact h.aside _
  · exact (h.aside _).ringUpdate.aside _

theorem ClockLegal.lapBoundary {c : Chip} (h : ClockLegal c) (x : LapSample) : ClockLegal (c.lapBoundary x) := by
  have hdone : ClockLegal (c.onClk (fun k => { k with lapDone := true })) :=
    h.onClk (h.clock.congr h.clock.ticks_pos rfl rfl rfl rfl rfl rfl rfl rfl)
  unfold Chip.lapBoundary
  split
  · exact h
  · have hlap := (hdone.aside (fun c => (c.estimatorDuty x).computeCeiling.leakBuckets.laneDuty.heartbeatDuty)).ringLap
    exact (hlap.onClk hlap.clock.phaseLap).aside _

theorem ClockLegal.setTimebase {c : Chip} (h : ClockLegal c) (b : Bool) : ClockLegal (c.onClk (fun k => { k with locked := b })) :=
  h.onClk (h.clock.congr h.clock.ticks_pos rfl rfl rfl rfl rfl rfl rfl rfl)

theorem ClockLegal.timebaseUnlock {c : Chip} (h : ClockLegal c) : ClockLegal c.timebaseUnlock := by
  unfold Chip.timebaseUnlock
  split
  · exact (h.setTimebase false).aside _
  · exact h

theorem ClockLegal.timebaseRelock {c : Chip} (h : ClockLegal c) : ClockLegal c.timebaseRelock := by
  unfold Chip.timebaseRelock
  split
  · exact h
  · exact (h.setTimebase true).aside _

/-- What a marker does once it is measured, in each sync state. -/
theorem ClockLegal.track {c : Chip} (h : ClockLegal c) (hp : c.clk.pacer = false) (m : MarkerMsg) (e : Int) :
    ClockLegal (c.track m e) := by
  have hk := h.clock
  unfold Chip.track
  split
  · exact h
  · next hs =>
    split
    · exact h.onClk (hk.takeStride m.stride hs hp)
    · exact h.onClk (hk.pullIn e hs hp)
  · next hs =>
    have ha : c.clk.awaitLap = false := by simpa [hs] using hk.awaitLap
    have hh : c.clk.holdStrides = 0 := by simpa [hs] using hk.hold
    split
    · exact (h.onClk (hk.acquire c.clk.pacerNode)).aside _
    · refine h.onClk ?_
      have hlock := hk.lock (ticksOf (-e)) hp ha hh
      rwa [← hs] at hlock
  · next hs =>
    have ha : c.clk.awaitLap = false := by simpa [hs] using hk.awaitLap
    split
    · refine h.onClk ?_
      have hx := clamp4_bounds (ticksOf (-e))
      constructor <;> simp [hk.ticks_pos, hk.counts, hp, ha, hx]
    · exact h

theorem Chip.validMarker_sync {c : Chip} {port : Nat} {m : MarkerMsg} (h : c.validMarker port m = true) : c.clk.sync ≠ .free := by
  simp only [Chip.validMarker, Bool.and_eq_true, decide_eq_true_eq] at h
  obtain ⟨⟨⟨⟨⟨⟨-, hs⟩, -⟩, -⟩, -⟩, -⟩, -⟩ := h
  exact hs

/-- The chip once a marker of a lower node is noted (R315). -/
def Chip.notedLower (c : Chip) (m : MarkerMsg) : Chip := if m.pacerNode < c.straps.nodeId then c.onClk Clock.hearLower else c

/-- What a valid marker does once it is noted. -/
def Chip.heedMarker (c : Chip) (port : Nat) (m : MarkerMsg) (arrivalPs : Int) : Chip :=
  if c.clk.pacer then
    (if 4 ≤ c.clk.lowerRun then (c.onClk (fun k => { k.acquire with pacerNode := m.pacerNode })).aside (fun c => c.ringRecord 4 (some m.pacerNode)) else c)
  else if !c.clk.follows m || c.clk.worseCopy m then c
  else (c.onClk (fun k => k.measure m (c.phaseError port m arrivalPs))).track m (c.phaseError port m arrivalPs)

theorem Chip.timeMarker_of_valid {c : Chip} {port : Nat} {m : MarkerMsg} (h : c.validMarker port m = true) (a : Int) :
    c.timeMarker port m a = (c.notedLower m).heedMarker port m a := by
  simp only [Chip.timeMarker, h, Bool.not_true, Bool.false_eq_true, if_false]
  rfl

theorem Chip.timeMarker_of_invalid {c : Chip} {port : Nat} {m : MarkerMsg} (h : c.validMarker port m = false) (a : Int) :
    c.timeMarker port m a = c := by
  simp only [Chip.timeMarker, h, Bool.not_false, if_true]

theorem Chip.notedLower_sync (c : Chip) (m : MarkerMsg) : (c.notedLower m).clk.sync = c.clk.sync := by
  unfold Chip.notedLower
  split <;> rfl

theorem ClockLegal.notedLower {c : Chip} (h : ClockLegal c) (m : MarkerMsg) : ClockLegal (c.notedLower m) := by
  unfold Chip.notedLower
  split
  · exact h.onClk h.clock.hearLower
  · exact h

theorem ClockLegal.heedMarker {c : Chip} (h : ClockLegal c) (hs : c.clk.sync ≠ .free) (port : Nat) (m : MarkerMsg) (a : Int) :
    ClockLegal (c.heedMarker port m a) := by
  unfold Chip.heedMarker
  split
  · split
    · refine (h.onClk ?_).aside _
      exact h.clock.acquire m.pacerNode
    · exact h
  · next hp =>
    rw [Bool.not_eq_true] at hp
    split
    · exact h
    · have hm : ClockLegal (c.onClk (fun k => k.measure m (c.phaseError port m a))) := h.onClk (h.clock.measure m _ hs hp)
      exact hm.track hp m _

theorem ClockLegal.timeMarker {c : Chip} (h : ClockLegal c) (port : Nat) (m : MarkerMsg) (a : Int) : ClockLegal (c.timeMarker port m a) := by
  cases hv : c.validMarker port m with
  | false => rwa [Chip.timeMarker_of_invalid hv]
  | true =>
    rw [Chip.timeMarker_of_valid hv]
    exact (h.notedLower m).heedMarker (by rw [c.notedLower_sync m]; exact Chip.validMarker_sync hv) port m a

theorem ClockLegal.pacerElection {c : Chip} (h : ClockLegal c) : ClockLegal c.pacerElection := by
  unfold Chip.pacerElection
  split
  · exact (h.onClk h.clock.pace).aside _
  · exact h

theorem ClockLegal.groupTime {c : Chip} (h : ClockLegal c) : ClockLegal c.groupTime := by
  unfold Chip.groupTime
  split
  · exact h.congr rfl (h.clock.congr h.clock.ticks_pos rfl rfl rfl rfl rfl rfl rfl rfl)
  · exact h

theorem ClockLegal.firmwareStart {c : Chip} (h : ClockLegal c) : ClockLegal c.firmwareStart := by
  have hstart : ClockLegal c.startClock :=
    h.congr rfl (h.clock.congr (show 0 < 2048 * 2 ^ c.val 0x1200 by positivity) rfl rfl rfl rfl rfl rfl rfl rfl)
  unfold Chip.firmwareStart
  split
  · exact h
  · exact hstart.aside _

/-! ### Every command -/

/-- The outcome of a command, where it is a next state, has a legal clock. -/
def Ticks (o : Host.Outcome State Fault Refusal) : Prop := ∀ t, o = .next t → ClockLegal t.toChip

theorem Ticks.clockEffect {s : State} {f : Chip → Chip} (h : ClockLegal (f s.toChip)) : Ticks (s.clockEffect f) := by
  rintro t ⟨⟩
  exact h.afterCommand _

theorem Ticks.ringEffect {s : State} (h : ClockLegal s.toChip) (f : Chip → Chip) : Ticks (s.ringEffect f) :=
  Ticks.clockEffect (h.aside f).ringSettle

theorem Ticks.resetEffect {s : State} (h : ClockLegal s.toChip) (f : Chip → Chip) : Ticks (s.resetEffect f) :=
  Ticks.clockEffect (h.aside f).ringSettle.resetSettle

/-- A command of the clock's families leads from a legal clock to one. -/
theorem exec_movesClock_legal {i : Instr} {s : State} (hi : movesClock i = true) (h : ClockLegal s.toChip) : Ticks (exec i s) := by
  have clockEffect : ∀ o f, o = s.clockEffect f → ClockLegal (f s.toChip) → Ticks o := fun _ _ e hf => e ▸ Ticks.clockEffect hf
  have ringEffect : ∀ o f, o = s.ringEffect f → Ticks o := fun _ f e => e ▸ Ticks.ringEffect h f
  have resetEffect : ∀ o f, o = s.resetEffect f → Ticks o := fun _ f e => e ▸ Ticks.resetEffect h f
  cases i <;> first | exact absurd hi Bool.false_ne_true | clear hi
  case ringHb | ringMemberLost | echoReply | hello | roster | nodeAlias | utoferLinkUp | pLinkUp | utoferRecoveryTimeout =>
    exact ringEffect _ _ rfl
  case coldPowerOn | resetNAssert | resetNRelease | unitReset | unitResetMsg | railFault | vinReset | vinResetRelease
      | vaultInputRecovered | dictWrite | windowWrite | mailboxWrite | adpWrite | pairWrite | dictWriteOther =>
    exact resetEffect _ _ rfl
  case strideBoundary x => exact clockEffect _ (fun c => c.strideBoundary x) rfl (h.strideBoundary x)
  case lapBoundary x => exact clockEffect _ (fun c => c.lapBoundary x) rfl (h.lapBoundary x)
  case timebaseUnlock => exact clockEffect _ (fun c => c.timebaseUnlock.ringUpdate) rfl h.timebaseUnlock.ringUpdate
  case timebaseRelock => exact clockEffect _ (fun c => c.timebaseRelock.ringUpdate) rfl h.timebaseRelock.ringUpdate
  case marker p m a => exact clockEffect _ (fun c => (c.timeMarker p m a).aside Chip.noteLocked) rfl ((h.timeMarker p m a).aside _)
  case markerLoss => exact clockEffect _ (fun c => c.onClk Clock.markerLoss) rfl (h.onClk h.clock.markerLoss)
  case holdoverExpiry => exact clockEffect _ (fun c => c.onClk Clock.holdoverExpiry) rfl (h.onClk h.clock.holdoverExpiry)
  case pacerElection => exact clockEffect _ (fun c => c.pacerElection.aside Chip.noteLocked) rfl (h.pacerElection.aside _)
  case slotPowerGroup => exact clockEffect _ (fun c => c.groupTime.aside Chip.powerGroup) rfl (h.groupTime.aside _)
  case firmwareStart => exact clockEffect _ Chip.firmwareStart rfl h.firmwareStart

theorem exec_legal (i : Instr) {s : State} (h : ClockLegal s.toChip) : Ticks (exec i s) := by
  cases hi : movesClock i with
  | true => exact exec_movesClock_legal hi h
  | false =>
    intro t ht
    obtain ⟨hk, hs⟩ := otherCommandsLeaveTheClock i s t hi ht
    exact h.of_eq hk hs

/-- Settles O5. -/
theorem clockIsLegalAtReset : Obligations.ClockIsLegalAtReset :=
  (clockLegal_iff _).mpr ⟨by decide, .of_free (by decide) rfl rfl rfl rfl rfl (.inl rfl) rfl⟩

/-- Settles O6: every operation of the clock keeps its legal states, and every other command leaves the clock. -/
theorem clockStaysLegal : Obligations.ClockStaysLegal := by
  intro s t h ht
  cases hq : s.pending with
  | nil =>
    rw [step_nil s hq] at ht
    cases ht
    exact h
  | cons i r =>
    rw [step_cons s i r hq] at ht
    exact exec_legal i (s := { s with pending := r }) h t ht

end Sys2Proof.Machine
end

section
/-! Parity (O11, O12): multiplication in GF(2^8), P and Q byte by byte, and the solving of lost strips. -/

namespace Sys2Proof.Machine

/-! ### Multiplication in GF(2^8) (R47) -/

theorem xtime_xor (a b : Byte) : xtime (a ^^^ b) = xtime a ^^^ xtime b := by
  have shift : (a ^^^ b) <<< 1 = a <<< 1 ^^^ b <<< 1 := BitVec.shiftLeft_xor_distrib a b 1
  have key : ∀ p q r : Byte, p ^^^ q ^^^ r = p ^^^ r ^^^ q := fun p q r => by rw [BitVec.xor_assoc, BitVec.xor_comm q, BitVec.xor_assoc]
  unfold xtime
  rw [BitVec.getLsbD_xor, shift]
  cases a.getLsbD 7 <;> cases b.getLsbD 7
  · rfl
  · simp [BitVec.xor_assoc]
  · simp [key]
  · simp only [Bool.xor_self, Bool.false_eq_true, if_false, if_true]
    rw [← BitVec.xor_assoc, key (a <<< 1) 0x1D, BitVec.xor_assoc (a <<< 1 ^^^ b <<< 1), BitVec.xor_self, BitVec.xor_zero]

@[simp] theorem xtime_zero : xtime 0#8 = 0#8 := by decide

theorem xpow_xor (n : Nat) (a b : Byte) : xpow n (a ^^^ b) = xpow n a ^^^ xpow n b := by
  induction n with
  | zero => rfl
  | succ n ih => rw [xpow, ih, xtime_xor]; rfl

@[simp] theorem xpow_zero_byte (n : Nat) : xpow n 0#8 = 0#8 := by
  induction n with
  | zero => rfl
  | succ n ih => rw [xpow, ih, xtime_zero]

theorem xpow_xtime (n : Nat) (b : Byte) : xpow n (xtime b) = xtime (xpow n b) := by
  induction n with
  | zero => rfl
  | succ n ih => rw [xpow, ih]; rfl

theorem xor_xor_xor_comm (a b c d : Byte) : (a ^^^ b) ^^^ (c ^^^ d) = (a ^^^ c) ^^^ (b ^^^ d) := by
  rw [BitVec.xor_assoc, ← BitVec.xor_assoc b, BitVec.xor_comm b c, BitVec.xor_assoc c, ← BitVec.xor_assoc]

theorem gmulN_xor_right (n : Nat) (a b c : Byte) : gmulN n a (b ^^^ c) = gmulN n a b ^^^ gmulN n a c := by
  induction n with
  | zero => exact (BitVec.xor_zero (x := 0#8)).symm
  | succ n ih =>
    rw [gmulN, gmulN, gmulN, ih, xpow_xor]
    cases a.getLsbD n
    · simp
    · exact xor_xor_xor_comm ..

theorem gmulN_xor_left (n : Nat) (a b c : Byte) : gmulN n (a ^^^ b) c = gmulN n a c ^^^ gmulN n b c := by
  induction n with
  | zero => exact (BitVec.xor_zero (x := 0#8)).symm
  | succ n ih =>
    rw [gmulN, gmulN, gmulN, ih, BitVec.getLsbD_xor, xor_xor_xor_comm]
    cases a.getLsbD n <;> cases b.getLsbD n <;> simp

theorem gmul_xor_right (a b c : Byte) : gmul a (b ^^^ c) = gmul a b ^^^ gmul a c := gmulN_xor_right 8 a b c

theorem gmul_xor_left (a b c : Byte) : gmul (a ^^^ b) c = gmul a c ^^^ gmul b c := gmulN_xor_left 8 a b c

@[simp] theorem gmul_zero (a : Byte) : gmul a 0#8 = 0#8 := by
  have h := gmul_xor_right a 0#8 0#8
  rwa [BitVec.xor_self, BitVec.xor_self] at h

@[simp] theorem zero_gmul (c : Byte) : gmul 0#8 c = 0#8 := by
  have h := gmul_xor_left 0#8 0#8 c
  rwa [BitVec.xor_self, BitVec.xor_self] at h

theorem gmul_one_left : ∀ b : Byte, gmul 1 b = b := by decide +kernel

/-- g^8 is the polynomial's remainder 0x1D. -/
theorem xpow_eight : ∀ b : Byte, gmul 0x1D b = xpow 8 b := by decide +kernel

theorem xtime_gmulN (n : Nat) (a b : Byte) : xtime (gmulN n a b) = gmulN n a (xtime b) := by
  induction n with
  | zero => exact xtime_zero
  | succ n ih =>
    rw [gmulN, gmulN, xtime_xor, ih, xpow_xtime]
    cases a.getLsbD n <;> simp

/-- The product by a factor moved up by one place, its top place aside. -/
theorem gmul_shiftLeft_one (a b : Byte) : gmul (a <<< 1) b = gmulN 7 a (xtime b) := by
  simp [gmul, gmulN, xpow]

/-- Multiplying the first factor by g multiplies the product by g. -/
theorem gmul_xtime_left (a b : Byte) : gmul (xtime a) b = xtime (gmul a b) := by
  have htop : gmul a b = (if a.getLsbD 7 then xpow 7 b else 0) ^^^ gmulN 7 a b := rfl
  rw [htop, xtime_xor, xtime_gmulN, ← gmul_shiftLeft_one, xtime]
  cases a.getLsbD 7
  · simp
  · simp only [if_true]
    rw [gmul_xor_left, xpow_eight, BitVec.xor_comm]
    rfl

theorem gmul_xpow_left (n : Nat) (a b : Byte) : gmul (xpow n a) b = xpow n (gmul a b) := by
  induction n with
  | zero => rfl
  | succ n ih => rw [xpow, gmul_xtime_left, ih]; rfl

theorem gmul_gmulN (n : Nat) (a b c : Byte) : gmul (gmulN n a b) c = gmulN n a (gmul b c) := by
  induction n with
  | zero => exact zero_gmul c
  | succ n ih =>
    rw [gmulN, gmulN, gmul_xor_left, ih, ← gmul_xpow_left]
    cases a.getLsbD n
    · simp
    · rfl

theorem gmul_assoc (a b c : Byte) : gmul (gmul a b) c = gmul a (gmul b c) := gmul_gmulN 8 a b c

theorem gmul_gpow (n : Nat) (b : Byte) : gmul (gpow n) b = xpow n b := by
  induction n with
  | zero => exact gmul_one_left b
  | succ n ih => rw [gpow, gmul_xtime_left, ih]; rfl

theorem gmul_two (b : Byte) : gmul 2 b = xtime b := gmul_gpow 1 b

theorem xpow_gpow (m n : Nat) : xpow m (gpow n) = gpow (m + n) := by
  induction m with
  | zero => rw [Nat.zero_add]; rfl
  | succ m ih => rw [xpow, ih, Nat.succ_add]; rfl

theorem gpow_mul_gpow (m n : Nat) : gmul (gpow m) (gpow n) = gpow (m + n) := by rw [gmul_gpow, xpow_gpow]

theorem gsq_gpow (k n : Nat) : gsq k (gpow n) = gpow (n * 2 ^ k) := by
  induction k with
  | zero => simp [gsq]
  | succ k ih =>
    have h : gsq (k + 1) (gpow n) = gmul (gsq k (gpow n)) (gsq k (gpow n)) := rfl
    rw [h, ih, gpow_mul_gpow, pow_succ, ← Nat.mul_assoc, Nat.mul_two]

/-- g generates the 255 units: its powers come back to 1. -/
theorem gpow_mul_255 (n : Nat) : gpow (255 * n) = 1 := by
  have h255 : gpow 255 = 1 := by decide +kernel
  induction n with
  | zero => rfl
  | succ n ih => rw [Nat.mul_succ, ← gpow_mul_gpow, ih, h255, gmul_one_left]

/-- A power of g has its inverse, its 254th power. -/
theorem ginv_gpow_mul (n : Nat) : gmul (ginv (gpow n)) (gpow n) = 1 := by
  simp only [ginv, gsq_gpow, gpow_mul_gpow]
  rw [← gpow_mul_255 n]
  congr 1
  omega

theorem ginv_gpow_cancel (n : Nat) (b : Byte) : gmul (ginv (gpow n)) (gmul (gpow n) b) = b := by
  rw [← gmul_assoc, ginv_gpow_mul, gmul_one_left]

/-- 1 + g^d is a power of g for the differences of the numbers of data strips. -/
theorem exists_one_xor_gpow : ∀ d < 30, d ≠ 0 → ∃ m < 255, 1 ^^^ gpow d = gpow m := by decide +kernel

/-- The sum of the factors of two data strips is a power of g, so it has an inverse. -/
theorem exists_gpow_xor {x y : Nat} (hxy : x < y) (hy : y < 30) : ∃ n, gpow x ^^^ gpow y = gpow n := by
  obtain ⟨m, -, hm⟩ := exists_one_xor_gpow (y - x) (by omega) (by omega)
  refine ⟨x + m, ?_⟩
  have hsplit : gpow y = xpow x (gpow (y - x)) := by rw [xpow_gpow]; congr 1; omega
  rw [hsplit, ← xpow_gpow x m, ← hm, xpow_xor]
  congr 1
  exact (xpow_gpow x 0).symm

/-! ### Strips byte by byte -/

/-- The byte at place `t` of block `j` of a strip; zero past its end. -/
def cell (d : List Bytes) (j t : Nat) : Byte := byteAt (atD d j []) t

/-- A strip of `b` blocks of `w` bytes. -/
def Shaped (b w : Nat) (d : List Bytes) : Prop := d.length = b ∧ ∀ x ∈ d, x.length = w

@[simp] theorem byteAt_nil (t : Nat) : byteAt [] t = 0 := rfl

@[simp] theorem cell_nil (j t : Nat) : cell [] j t = 0 := rfl

theorem byteAt_xorBytes (a b : Bytes) (t : Nat) : byteAt (xorBytes a b) t = byteAt a t ^^^ byteAt b t := by
  induction a generalizing b t with
  | nil => simp [xorBytes]
  | cons x a ih =>
    cases b with
    | nil => simp [xorBytes]
    | cons y b =>
      cases t with
      | zero => rfl
      | succ t => exact ih b t

theorem cell_xorBlocks (a b : List Bytes) (j t : Nat) : cell (xorBlocks a b) j t = cell a j t ^^^ cell b j t := by
  induction a generalizing b j with
  | nil => simp [xorBlocks]
  | cons x a ih =>
    cases b with
    | nil => simp [xorBlocks]
    | cons y b =>
      cases j with
      | zero => exact byteAt_xorBytes x y t
      | succ j => exact ih b j

theorem byteAt_gscale (c : Byte) (a : Bytes) (t : Nat) : byteAt (gscale c a) t = gmul c (byteAt a t) := by
  induction a generalizing t with
  | nil => exact (gmul_zero c).symm
  | cons x a ih =>
    cases t with
    | zero => rfl
    | succ t => exact ih t

theorem cell_gscaleBlocks (c : Byte) (d : List Bytes) (j t : Nat) : cell (gscaleBlocks c d) j t = gmul c (cell d j t) := by
  induction d generalizing j with
  | nil => exact (gmul_zero c).symm
  | cons x d ih =>
    cases j with
    | zero => exact byteAt_gscale c x t
    | succ j => exact ih j

/-! ### P and Q byte by byte (R48) -/

theorem cell_foldl_xorBlocks (cols : List (List Bytes)) (a : List Bytes) (j t : Nat) :
    cell (cols.foldl xorBlocks a) j t = cols.foldl (fun s d => s ^^^ cell d j t) (cell a j t) := by
  induction cols generalizing a with
  | nil => rfl
  | cons d r ih => rw [List.foldl_cons, List.foldl_cons, ih, cell_xorBlocks]

theorem cell_parityP (cols : List (List Bytes)) (j t : Nat) :
    cell (parityP cols) j t = cols.foldl (fun s d => s ^^^ cell d j t) 0 := cell_foldl_xorBlocks cols [] j t

/-- The sum of a list of bytes. -/
def xorSum (l : List Byte) : Byte := l.foldr (· ^^^ ·) 0

theorem foldl_xor_eq {α : Type} (l : List α) (f : α → Byte) (a : Byte) :
    l.foldl (fun s x => s ^^^ f x) a = a ^^^ xorSum (l.map f) := by
  induction l generalizing a with
  | nil => exact (BitVec.xor_zero).symm
  | cons x r ih => rw [List.foldl_cons, ih, BitVec.xor_assoc]; rfl

theorem xtime_xorSum (l : List Byte) : xtime (xorSum l) = xorSum (l.map xtime) := by
  induction l with
  | nil => exact xtime_zero
  | cons x r ih =>
    show xtime (x ^^^ xorSum r) = xtime x ^^^ xorSum (r.map xtime)
    rw [xtime_xor, ih]

theorem cell_parityQ (cols : List (List Bytes)) (j t : Nat) :
    cell (parityQ cols) j t = xorSum ((List.range cols.length).map (fun i => xpow i (cell (atD cols i []) j t))) := by
  induction cols with
  | nil => rfl
  | cons d r ih =>
    rw [parityQ, cell_xorBlocks, cell_gscaleBlocks, gmul_two, ih, xtime_xorSum, List.map_map, List.length_cons,
      List.range_succ_eq_map, List.map_cons, List.map_map]
    rfl

/-- Settles O11: both sums are taken byte by byte, Q's by Horner's rule. -/
theorem syndromesAreR48 : Obligations.SyndromesAreR48 := by
  intro cols b w _ j t _ _
  refine ⟨cell_parityP cols j t, ?_⟩
  rw [foldl_xor_eq]
  simp only [gmul_gpow]
  exact (cell_parityQ cols j t).trans BitVec.zero_xor.symm

/-! ### Shapes -/

theorem ext_byteAt {a b : Bytes} (hlen : a.length = b.length) (h : ∀ t, byteAt a t = byteAt b t) : a = b := by
  induction a generalizing b with
  | nil => exact (List.length_eq_zero_iff.mp hlen.symm).symm
  | cons x a ih =>
    cases b with
    | nil => simp at hlen
    | cons y b =>
      have hx : x = y := h 0
      rw [hx, ih (by simpa using hlen) (fun t => h (t + 1))]

theorem Shaped.tail {b w : Nat} {x : Bytes} {d : List Bytes} (h : Shaped b w (x :: d)) : Shaped (b - 1) w d :=
  ⟨by simp [← h.1], fun z hz => h.2 z (by simp [hz])⟩

theorem Shaped.cons {b w : Nat} {x : Bytes} {d : List Bytes} (hx : x.length = w) (h : Shaped b w d) : Shaped (b + 1) w (x :: d) :=
  ⟨by simp [h.1], by simpa [hx] using h.2⟩

/-- Strips of one shape are equal once their bytes are. -/
theorem Shaped.ext {b w : Nat} {d e : List Bytes} (hd : Shaped b w d) (he : Shaped b w e) (h : ∀ j t, cell d j t = cell e j t) :
    d = e := by
  induction d generalizing e b with
  | nil => exact (List.length_eq_zero_iff.mp (he.1.trans hd.1.symm)).symm
  | cons x d ih =>
    cases e with
    | nil => simpa using hd.1.trans he.1.symm
    | cons y e =>
      have hxy : x = y := ext_byteAt ((hd.2 x (by simp)).trans (he.2 y (by simp)).symm) (fun t => h 0 t)
      rw [hxy, ih hd.tail he.tail (fun j t => h (j + 1) t)]

theorem length_xorBytes {a b : Bytes} {w : Nat} (ha : a.length = w) (hb : b.length = w) : (xorBytes a b).length = w := by
  induction a generalizing b w with
  | nil => simpa [xorBytes] using hb
  | cons x a ih =>
    cases b with
    | nil => simpa [xorBytes] using ha
    | cons y b =>
      simp only [List.length_cons] at ha hb
      have hab : (xorBytes a b).length = a.length := ih rfl (by omega)
      simp only [xorBytes, List.length_cons, hab]
      omega

theorem Shaped.xor {b w : Nat} {d e : List Bytes} (hd : Shaped b w d) (he : Shaped b w e) : Shaped b w (xorBlocks d e) := by
  induction d generalizing e b with
  | nil => exact he
  | cons x d ih =>
    cases e with
    | nil => exact hd
    | cons y e =>
      have hb : b - 1 + 1 = b := Nat.succ_pred_eq_of_pos (by simp [← hd.1])
      have hxy := (ih hd.tail he.tail).cons (length_xorBytes (hd.2 x (by simp)) (he.2 y (by simp)))
      rwa [hb] at hxy

theorem Shaped.scale {b w : Nat} {d : List Bytes} (hd : Shaped b w d) (c : Byte) : Shaped b w (gscaleBlocks c d) := by
  refine ⟨by simpa [gscaleBlocks] using hd.1, ?_⟩
  intro z hz
  obtain ⟨x, hx, rfl⟩ := List.mem_map.mp hz
  simpa [gscale] using hd.2 x hx

/-- A strip of the shape, or none: what a column left out of a sum counts as. -/
def Part (b w : Nat) (d : List Bytes) : Prop := d = [] ∨ Shaped b w d

theorem xorBlocks_nil (d : List Bytes) : xorBlocks d [] = d := by cases d <;> rfl

theorem Shaped.xor_part {b w : Nat} {d e : List Bytes} (hd : Shaped b w d) (he : Part b w e) : Shaped b w (xorBlocks d e) := by
  rcases he with rfl | he
  · rwa [xorBlocks_nil]
  · exact hd.xor he

theorem Part.xor {b w : Nat} {d e : List Bytes} (hd : Part b w d) (he : Part b w e) : Part b w (xorBlocks d e) := by
  rcases hd with rfl | hd
  · exact he
  · exact .inr (hd.xor_part he)

theorem Part.scale {b w : Nat} {d : List Bytes} (hd : Part b w d) (c : Byte) : Part b w (gscaleBlocks c d) := by
  rcases hd with rfl | hd
  · exact .inl rfl
  · exact .inr (hd.scale c)

theorem Part.foldl {b w : Nat} {cols : List (List Bytes)} (h : ∀ d ∈ cols, Part b w d) {a : List Bytes} (ha : Part b w a) :
    Part b w (cols.foldl xorBlocks a) := by
  induction cols generalizing a with
  | nil => exact ha
  | cons d r ih => exact ih (fun e he => h e (by simp [he])) (ha.xor (h d (by simp)))

theorem Part.parityP {b w : Nat} {cols : List (List Bytes)} (h : ∀ d ∈ cols, Part b w d) : Part b w (parityP cols) :=
  Part.foldl h (.inl rfl)

theorem Part.parityQ {b w : Nat} {cols : List (List Bytes)} (h : ∀ d ∈ cols, Part b w d) : Part b w (parityQ cols) := by
  induction cols with
  | nil => exact .inl rfl
  | cons d r ih => exact (h d (by simp)).xor ((ih (fun e he => h e (by simp [he]))).scale 2)

theorem Shaped.foldl {b w : Nat} {cols : List (List Bytes)} (h : ∀ d ∈ cols, Shaped b w d) {a : List Bytes} (ha : Shaped b w a) :
    Shaped b w (cols.foldl xorBlocks a) := by
  induction cols generalizing a with
  | nil => exact ha
  | cons d r ih => exact ih (fun e he => h e (by simp [he])) (ha.xor (h d (by simp)))

theorem Shaped.parityP {b w : Nat} {cols : List (List Bytes)} (h : ∀ d ∈ cols, Shaped b w d) (hne : cols ≠ []) :
    Shaped b w (parityP cols) := by
  cases cols with
  | nil => exact absurd rfl hne
  | cons d r => exact Shaped.foldl (a := d) (fun e he => h e (by simp [he])) (h d (by simp))

theorem Shaped.parityQ {b w : Nat} {cols : List (List Bytes)} (h : ∀ d ∈ cols, Shaped b w d) (hne : cols ≠ []) :
    Shaped b w (parityQ cols) := by
  cases cols with
  | nil => exact absurd rfl hne
  | cons d r => exact (h d (by simp)).xor_part ((Part.parityQ (fun e he => .inr (h e (by simp [he])))).scale 2)

/-! ### Sums with columns left out -/

theorem xorSum_append (l r : List Byte) : xorSum (l ++ r) = xorSum l ^^^ xorSum r := by
  induction l with
  | nil => exact BitVec.zero_xor.symm
  | cons x l ih =>
    show x ^^^ xorSum (l ++ r) = (x ^^^ xorSum l) ^^^ xorSum r
    rw [ih, BitVec.xor_assoc]

theorem xorSum_map_xor {α : Type} (l : List α) (f g : α → Byte) :
    xorSum (l.map (fun i => f i ^^^ g i)) = xorSum (l.map f) ^^^ xorSum (l.map g) := by
  induction l with
  | nil => exact BitVec.zero_xor.symm
  | cons x l ih =>
    show (f x ^^^ g x) ^^^ xorSum (l.map _) = (f x ^^^ xorSum (l.map f)) ^^^ (g x ^^^ xorSum (l.map g))
    rw [ih, xor_xor_xor_comm]

/-- A sum of which one term at most is not zero. -/
theorem xorSum_single (k x : Nat) (f : Nat → Byte) :
    xorSum ((List.range k).map (fun i => if i = x then f i else 0#8)) = if x < k then f x else 0#8 := by
  induction k with
  | zero => rfl
  | succ k ih =>
    rw [List.range_succ, List.map_append, xorSum_append, ih]
    show _ ^^^ ((if k = x then f k else 0#8) ^^^ 0#8) = _
    rw [BitVec.xor_zero]
    rcases Nat.lt_trichotomy x k with h | rfl | h
    · rw [if_pos h, if_neg (by omega), if_pos (by omega), BitVec.xor_zero]
    · rw [if_neg (by omega), if_pos rfl, if_pos (by omega), BitVec.zero_xor]
    · rw [if_neg (by omega), if_neg (by omega), if_neg (by omega), BitVec.xor_zero]

/-- A sum and the same without the terms left out differ by these. -/
theorem xorSum_skip_one {k x : Nat} (hx : x < k) (f : Nat → Byte) :
    xorSum ((List.range k).map f) ^^^ xorSum ((List.range k).map (fun i => if i ∈ [x] then 0#8 else f i)) = f x := by
  rw [← xorSum_map_xor]
  have h : ∀ i, (f i ^^^ if i ∈ [x] then 0#8 else f i) = if i = x then f i else 0#8 := by
    intro i
    by_cases hi : i = x <;> simp [hi]
  simp only [h, xorSum_single, if_pos hx]

theorem xorSum_skip_two {k x y : Nat} (hx : x < k) (hy : y < k) (hxy : x ≠ y) (f : Nat → Byte) :
    xorSum ((List.range k).map f) ^^^ xorSum ((List.range k).map (fun i => if i ∈ [x, y] then 0#8 else f i)) = f x ^^^ f y := by
  rw [← xorSum_map_xor]
  have h : ∀ i, (f i ^^^ if i ∈ [x, y] then 0#8 else f i) = (if i = x then f i else 0#8) ^^^ (if i = y then f i else 0#8) := by
    intro i
    by_cases hi : i = x
    · subst hi
      simp [hxy]
    · by_cases hj : i = y <;> simp [hi, hj, Ne.symm hxy]
  simp only [h, xorSum_map_xor, xorSum_single, if_pos hx, if_pos hy]

/-! ### What is held of a stripe -/

/-- The strip of a column: data, P, Q. -/
def stripOf (cols : List (List Bytes)) (c : Nat) : List Bytes :=
  if c < cols.length then atD cols c [] else if c = cols.length then parityP cols else parityQ cols

/-- Every column of the stripe but those in `lost` is held as it is. -/
def Knows (cols : List (List Bytes)) (m : Columns) (lost : List Nat) : Prop :=
  ∀ c < cols.length + 2, c ∉ lost → KMap.find m c = some (stripOf cols c)

theorem atD_mem {α : Type} {l : List α} {i : Nat} (h : i < l.length) (d : α) : atD l i d ∈ l := by
  induction l generalizing i with
  | nil => simp at h
  | cons a r ih =>
    cases i with
    | zero => simp [atD]
    | succ i => exact List.mem_cons_of_mem a (ih (by simpa using h))

theorem map_atD_range {α : Type} (l : List α) (d : α) : (List.range l.length).map (fun i => atD l i d) = l := by
  induction l with
  | nil => rfl
  | cons a r ih =>
    rw [List.length_cons, List.range_succ_eq_map, List.map_cons, List.map_map]
    exact congrArg (a :: ·) ih

theorem find_map_of_mem {β : Type} (f : Nat → β) {l : List Nat} {c : Nat} (h : c ∈ l) :
    KMap.find (l.map (fun c => (c, f c))) c = some (f c) := by
  induction l with
  | nil => simp at h
  | cons a r ih =>
    rw [List.map_cons, KMap.find]
    by_cases hac : a = c
    · rw [if_pos hac, hac]
    · rw [if_neg hac]
      exact ih ((List.mem_cons.mp h).resolve_left (Ne.symm hac))

namespace Knows
variable {cols : List (List Bytes)} {m : Columns} {lost : List Nat}

theorem put (h : Knows cols m lost) (x : Nat) (v : List Bytes) (hv : v = stripOf cols x) :
    Knows cols (m.put x v) (lost.filter (fun c => decide (c ≠ x))) := by
  subst hv
  intro c hc hlost
  by_cases hcx : c = x
  · subst hcx
    exact KMap.find_put_same ..
  · rw [KMap.find_put_other _ _ _ _ hcx]
    exact h c hc (fun hl => hlost (List.mem_filter.mpr ⟨hl, by simpa using hcx⟩))

theorem getD (h : Knows cols m lost) {c : Nat} (hc : c < cols.length + 2) (hl : c ∉ lost) : KMap.getD m c [] = stripOf cols c := by
  rw [KMap.getD, h c hc hl, Option.getD_some]

theorem data (h : Knows cols m lost) {c : Nat} (hc : c < cols.length) (hl : c ∉ lost) : KMap.getD m c [] = atD cols c [] :=
  (h.getD (by omega) hl).trans (if_pos hc)

theorem pStrip (h : Knows cols m lost) (hl : cols.length ∉ lost) : KMap.getD m cols.length [] = parityP cols := by
  rw [h.getD (by omega) hl, stripOf, if_neg (by omega), if_pos rfl]

theorem qStrip (h : Knows cols m lost) (hl : cols.length + 1 ∉ lost) : KMap.getD m (cols.length + 1) [] = parityQ cols := by
  rw [h.getD (by omega) hl, stripOf, if_neg (by omega), if_neg (by omega)]

/-- The data strips at hand, those left out as nothing. -/
theorem dataCols (h : Knows cols m lost) {skip : List Nat} (hs : ∀ i < cols.length, i ∈ lost → i ∈ skip) :
    (List.range cols.length).map (fun i => if i ∈ skip then [] else KMap.getD m i []) =
      (List.range cols.length).map (fun i => if i ∈ skip then [] else atD cols i []) := by
  refine List.map_congr_left (fun i hi => ?_)
  by_cases hl : i ∈ skip
  · rw [if_pos hl, if_pos hl]
  · rw [if_neg hl, if_neg hl, h.data (List.mem_range.mp hi) (fun h => hl (hs i (List.mem_range.mp hi) h))]

theorem allData (h : Knows cols m lost) (hl : ∀ i < cols.length, i ∉ lost) :
    (List.range cols.length).map (fun i => KMap.getD m i []) = cols := by
  rw [List.map_congr_left (fun i hi => h.data (List.mem_range.mp hi) (hl i (List.mem_range.mp hi))), map_atD_range]

end Knows

/-- The data strips of the stripe without those lost. -/
def dataWithout (cols : List (List Bytes)) (lost : List Nat) : List (List Bytes) :=
  (List.range cols.length).map (fun i => if i ∈ lost then [] else atD cols i [])

theorem Knows.knownP {cols : List (List Bytes)} {m : Columns} {lost skip : List Nat} (h : Knows cols m lost)
    (hs : ∀ i < cols.length, i ∈ lost → i ∈ skip) : knownP cols.length m skip = parityP (dataWithout cols skip) :=
  congrArg parityP (h.dataCols hs)

theorem Knows.knownQ {cols : List (List Bytes)} {m : Columns} {lost skip : List Nat} (h : Knows cols m lost)
    (hs : ∀ i < cols.length, i ∈ lost → i ∈ skip) : knownQ cols.length m skip = parityQ (dataWithout cols skip) :=
  congrArg parityQ (h.dataCols hs)

theorem atD_map_range {α : Type} (f : Nat → α) (n i : Nat) (d : α) : atD ((List.range n).map f) i d = if i < n then f i else d := by
  induction n generalizing f i with
  | zero => rfl
  | succ n ih =>
    rw [List.range_succ_eq_map, List.map_cons, List.map_map]
    cases i with
    | zero => rfl
    | succ i =>
      rw [atD, ih]
      simp

theorem cell_parityP_sum (cols : List (List Bytes)) (j t : Nat) :
    cell (parityP cols) j t = xorSum ((List.range cols.length).map (fun i => cell (atD cols i []) j t)) := by
  rw [cell_parityP, foldl_xor_eq]
  refine BitVec.zero_xor.trans (congrArg xorSum ?_)
  conv_lhs => rw [← map_atD_range cols []]
  rw [List.map_map]
  rfl

theorem cell_dataWithout (cols : List (List Bytes)) (lost : List Nat) {i : Nat} (hi : i < cols.length) (j t : Nat) :
    cell (atD (dataWithout cols lost) i []) j t = if i ∈ lost then 0#8 else cell (atD cols i []) j t := by
  rw [dataWithout, atD_map_range, if_pos hi]
  split <;> rfl

theorem length_dataWithout (cols : List (List Bytes)) (lost : List Nat) : (dataWithout cols lost).length = cols.length := by
  simp [dataWithout]

theorem cell_parityP_dataWithout (cols : List (List Bytes)) (lost : List Nat) (j t : Nat) :
    cell (parityP (dataWithout cols lost)) j t =
      xorSum ((List.range cols.length).map (fun i => if i ∈ lost then 0#8 else cell (atD cols i []) j t)) := by
  rw [cell_parityP_sum, length_dataWithout]
  exact congrArg xorSum (List.map_congr_left (fun i hi => cell_dataWithout cols lost (List.mem_range.mp hi) j t))

theorem cell_parityQ_dataWithout (cols : List (List Bytes)) (lost : List Nat) (j t : Nat) :
    cell (parityQ (dataWithout cols lost)) j t =
      xorSum ((List.range cols.length).map (fun i => if i ∈ lost then 0#8 else xpow i (cell (atD cols i []) j t))) := by
  rw [cell_parityQ, length_dataWithout]
  refine congrArg xorSum (List.map_congr_left (fun i hi => ?_))
  rw [cell_dataWithout cols lost (List.mem_range.mp hi)]
  split
  · exact xpow_zero_byte i
  · rfl

section
variable {cols : List (List Bytes)} {b w : Nat} (hcols : ∀ d ∈ cols, Shaped b w d)
include hcols

theorem part_dataWithout (lost : List Nat) : ∀ d ∈ dataWithout cols lost, Part b w d := by
  intro d hd
  obtain ⟨i, hi, rfl⟩ := List.mem_map.mp hd
  split
  · exact .inl rfl
  · exact .inr (hcols _ (atD_mem (List.mem_range.mp hi) []))

theorem shaped_lostP (hne : cols ≠ []) (lost : List Nat) : Shaped b w (xorBlocks (parityP cols) (parityP (dataWithout cols lost))) :=
  (Shaped.parityP hcols hne).xor_part (Part.parityP (part_dataWithout hcols lost))

theorem shaped_lostQ (hne : cols ≠ []) (lost : List Nat) : Shaped b w (xorBlocks (parityQ cols) (parityQ (dataWithout cols lost))) :=
  (Shaped.parityQ hcols hne).xor_part (Part.parityQ (part_dataWithout hcols lost))

/-- One lost data strip is P less the others. -/
theorem lost_from_P {x : Nat} (hx : x < cols.length) :
    xorBlocks (parityP cols) (parityP (dataWithout cols [x])) = atD cols x [] := by
  have hne : cols ≠ [] := List.ne_nil_of_length_pos (by omega)
  refine Shaped.ext (shaped_lostP hcols hne [x]) (hcols _ (atD_mem hx [])) (fun j t => ?_)
  rw [cell_xorBlocks, cell_parityP_sum, cell_parityP_dataWithout]
  exact xorSum_skip_one hx _

/-- One lost data strip is Q less the others, divided by its factor. -/
theorem lost_from_Q {x : Nat} (hx : x < cols.length) :
    gscaleBlocks (ginv (gpow x)) (xorBlocks (parityQ cols) (parityQ (dataWithout cols [x]))) = atD cols x [] := by
  have hne : cols ≠ [] := List.ne_nil_of_length_pos (by omega)
  refine Shaped.ext ((shaped_lostQ hcols hne [x]).scale _) (hcols _ (atD_mem hx [])) (fun j t => ?_)
  rw [cell_gscaleBlocks, cell_xorBlocks, cell_parityQ, cell_parityQ_dataWithout,
    xorSum_skip_one hx (fun i => xpow i (cell (atD cols i []) j t)), ← gmul_gpow, ginv_gpow_cancel]

/-- Two lost data strips: the first, of their sum and their sum by factors. -/
theorem lost_first {x y : Nat} (hxy : x < y) (hy : y < cols.length) (hk : cols.length ≤ 30) :
    gscaleBlocks (ginv (gpow x ^^^ gpow y)) (xorBlocks
      (gscaleBlocks (gpow y) (xorBlocks (parityP cols) (parityP (dataWithout cols [x, y]))))
      (xorBlocks (parityQ cols) (parityQ (dataWithout cols [x, y])))) = atD cols x [] := by
  have hne : cols ≠ [] := List.ne_nil_of_length_pos (by omega)
  obtain ⟨n, hn⟩ := exists_gpow_xor hxy (by omega : y < 30)
  refine Shaped.ext ((((shaped_lostP hcols hne [x, y]).scale _).xor (shaped_lostQ hcols hne [x, y])).scale _)
    (hcols _ (atD_mem (by omega) [])) (fun j t => ?_)
  rw [cell_gscaleBlocks, cell_xorBlocks, cell_gscaleBlocks, cell_xorBlocks, cell_xorBlocks, cell_parityP_sum,
    cell_parityP_dataWithout, cell_parityQ, cell_parityQ_dataWithout,
    xorSum_skip_two (by omega) hy (by omega) (fun i => cell (atD cols i []) j t),
    xorSum_skip_two (by omega) hy (by omega) (fun i => xpow i (cell (atD cols i []) j t)), ← gmul_gpow, ← gmul_gpow]
  have hsum : ∀ u v : Byte, gmul (gpow y) (u ^^^ v) ^^^ (gmul (gpow x) u ^^^ gmul (gpow y) v) = gmul (gpow x ^^^ gpow y) u := fun u v => by
    rw [gmul_xor_right, xor_xor_xor_comm, BitVec.xor_self, BitVec.xor_zero, BitVec.xor_comm, gmul_xor_left]
  rw [hsum, hn, ginv_gpow_cancel]

/-- Two lost data strips: the second, of their sum and the first. -/
theorem lost_second {x y : Nat} (hxy : x < y) (hy : y < cols.length) :
    xorBlocks (xorBlocks (parityP cols) (parityP (dataWithout cols [x, y]))) (atD cols x []) = atD cols y [] := by
  have hne : cols ≠ [] := List.ne_nil_of_length_pos (by omega)
  refine Shaped.ext ((shaped_lostP hcols hne [x, y]).xor (hcols _ (atD_mem (by omega) []))) (hcols _ (atD_mem hy [])) (fun j t => ?_)
  rw [cell_xorBlocks, cell_xorBlocks, cell_parityP_sum, cell_parityP_dataWithout,
    xorSum_skip_two (by omega) hy (by omega) (fun i => cell (atD cols i []) j t), BitVec.xor_comm, ← BitVec.xor_assoc,
    BitVec.xor_self, BitVec.zero_xor]

end

/-! ### The cases of Table 3.4 -/

theorem solve_data_data {k x y : Nat} (hx : x < k) (hy : y < k) (cs : Columns) :
    solve k [x, y] cs =
      let a := xorBlocks (cs.getD k []) (knownP k cs [x, y])
      let d := gscaleBlocks (ginv (gpow x ^^^ gpow y)) (xorBlocks (gscaleBlocks (gpow y) a)
        (xorBlocks (cs.getD (k + 1) []) (knownQ k cs [x, y])))
      some ((cs.put x d).put y (xorBlocks a d)) := by
  have hxk : k ≠ x ∧ k ≠ y ∧ k + 1 ≠ x ∧ k + 1 ≠ y := by omega
  simp [solve, hx, hy, hxk]

theorem solve_data_p {k x : Nat} (hx : x < k) (cs : Columns) :
    solve k [x, k] cs =
      let m := cs.put x (gscaleBlocks (ginv (gpow x)) (xorBlocks (cs.getD (k + 1) []) (knownQ k cs [x])))
      some (m.put k (parityP ((List.range k).map (fun i => m.getD i [])))) := by
  have hxk : k + 1 ≠ x := by omega
  simp [solve, hx, hxk]

theorem solve_data_q {k x : Nat} (hx : x < k) (cs : Columns) :
    solve k [x, k + 1] cs =
      let m := cs.put x (xorBlocks (cs.getD k []) (knownP k cs [x]))
      some (m.put (k + 1) (parityQ ((List.range k).map (fun i => m.getD i [])))) := by
  have hxk : k ≠ x := by omega
  simp [solve, hx, hxk]

theorem solve_data {k x : Nat} (hx : x < k) (cs : Columns) :
    solve k [x] cs = some (cs.put x (xorBlocks (cs.getD k []) (knownP k cs [x]))) := by
  have hxk : k ≠ x ∧ k + 1 ≠ x := by omega
  simp [solve, hx, hxk]

theorem solve_p (k : Nat) (cs : Columns) :
    solve k [k] cs = some (cs.put k (parityP ((List.range k).map (fun i => cs.getD i [])))) := by
  simp [solve]

theorem solve_p_q (k : Nat) (cs : Columns) :
    solve k [k, k + 1] cs =
      let cols := (List.range k).map (fun i => cs.getD i [])
      some ((cs.put k (parityP cols)).put (k + 1) (parityQ cols)) := by
  simp [solve]

section
variable {cols : List (List Bytes)} {b w : Nat} (hcols : ∀ d ∈ cols, Shaped b w d) {cs : Columns}

theorem stripOf_data {x : Nat} (hx : x < cols.length) : stripOf cols x = atD cols x [] := if_pos hx

theorem stripOf_p : stripOf cols cols.length = parityP cols := by simp [stripOf]

theorem stripOf_q : stripOf cols (cols.length + 1) = parityQ cols := by simp [stripOf]

include hcols

/-- Two lost strips come back as they were. -/
theorem solve_two {x y : Nat} (hk : cols.length ≤ 30) (hxy : x < y) (hy : y < cols.length + 2) (h : Knows cols cs [x, y]) :
    ∃ m, solve cols.length [x, y] cs = some m ∧ Knows cols m [] := by
  rcases Nat.lt_or_ge y cols.length with hyk | hyk
  · refine ⟨_, solve_data_data (by omega) hyk cs, ?_⟩
    rw [h.pStrip (by simp; omega), h.qStrip (by simp; omega), h.knownP (fun _ _ hi => hi), h.knownQ (fun _ _ hi => hi),
      lost_first hcols hxy hyk hk, lost_second hcols hxy hyk]
    have hall := (h.put x _ (stripOf_data (by omega)).symm).put y _ (stripOf_data hyk).symm
    simpa using hall
  · rcases Nat.lt_or_ge x cols.length with hx | hx
    · have hs : ∀ i < cols.length, i ∈ [x, y] → i ∈ [x] := by
        intro i hi hm
        rcases List.mem_cons.mp hm with rfl | hm
        · simp
        · rw [List.mem_singleton] at hm
          omega
      obtain rfl | rfl : y = cols.length ∨ y = cols.length + 1 := by omega
      · refine ⟨_, solve_data_p hx cs, ?_⟩
        rw [h.qStrip (by simp; omega), h.knownQ hs, lost_from_Q hcols hx]
        have hdata := h.put x _ (stripOf_data hx).symm
        rw [hdata.allData (by intro i hi; simp; omega)]
        have hall := hdata.put _ _ stripOf_p.symm
        simpa using hall
      · refine ⟨_, solve_data_q hx cs, ?_⟩
        rw [h.pStrip (by simp; omega), h.knownP hs, lost_from_P hcols hx]
        have hdata := h.put x _ (stripOf_data hx).symm
        rw [hdata.allData (by intro i hi; simp; omega)]
        have hall := hdata.put _ _ stripOf_q.symm
        simpa using hall
    · obtain ⟨rfl, rfl⟩ : x = cols.length ∧ y = cols.length + 1 := by omega
      refine ⟨_, solve_p_q cols.length cs, ?_⟩
      rw [h.allData (by intro i hi; simp; omega)]
      have hall := (h.put _ _ stripOf_p.symm).put _ _ stripOf_q.symm
      simpa using hall

/-- One lost strip, data or P, comes back as it was. -/
theorem solve_one {x : Nat} (hx : x ≤ cols.length) (h : Knows cols cs [x]) :
    ∃ m, solve cols.length [x] cs = some m ∧ Knows cols m [] := by
  rcases Nat.lt_or_eq_of_le hx with hx | rfl
  · refine ⟨_, solve_data hx cs, ?_⟩
    rw [h.pStrip (by simp; omega), h.knownP (fun _ _ hi => hi), lost_from_P hcols hx]
    have hall := h.put x _ (stripOf_data hx).symm
    simpa using hall
  · refine ⟨_, solve_p cols.length cs, ?_⟩
    rw [h.allData (by intro i hi; simp; omega)]
    have hall := h.put _ _ stripOf_p.symm
    simpa using hall

end

/-- Settles O12: each case of Table 3.4 gives back what was lost, for the factors of two data strips differ. -/
theorem twoLostStripsComeBack : Obligations.TwoLostStripsComeBack := by
  intro cols b w x y hk hcols hxy hy k strip held
  have hheld : Knows cols held [x, y] := by
    intro c hc hl
    refine find_map_of_mem strip (List.mem_filter.mpr ⟨List.mem_range.mpr hc, ?_⟩)
    simpa using hl
  have hone : Knows cols (held.put y (strip y)) [x] := by
    have h := hheld.put y _ rfl
    rwa [List.filter_cons_of_pos (by simpa using hxy.ne), List.filter_cons_of_neg (by simp)] at h
  constructor
  · obtain ⟨m, hm, hall⟩ := solve_two hcols hk hxy hy hheld
    exact ⟨m, hm, fun c hc => hall c hc (by simp)⟩
  · obtain ⟨m, hm, hall⟩ := solve_one hcols (by omega) hone
    exact ⟨m, hm, fun c hc => hall c hc (by simp)⟩

end Sys2Proof.Machine
end

section
/-! Admission, engine budgets and engine steps (O9, O10, O21, O22). -/

namespace Sys2Proof.Machine

/-! ### Lists by place -/

section
variable {α : Type}

theorem length_setAt (l : List α) (n : Nat) (x : α) : (setAt l n x).length = l.length := by
  induction l generalizing n with
  | nil => rfl
  | cons a r ih => cases n <;> simp [setAt, ih]

theorem atD_setAt_same {l : List α} {n : Nat} (h : n < l.length) (x d : α) : atD (setAt l n x) n d = x := by
  induction l generalizing n with
  | nil => simp at h
  | cons a r ih =>
    cases n with
    | zero => rfl
    | succ n => exact ih (by simpa using h)

theorem atD_setAt_other (l : List α) {n m : Nat} (h : m ≠ n) (x d : α) : atD (setAt l n x) m d = atD l m d := by
  induction l generalizing n m with
  | nil => rfl
  | cons a r ih =>
    cases n with
    | zero => cases m with
      | zero => exact absurd rfl h
      | succ m => rfl
    | succ n => cases m with
      | zero => rfl
      | succ m => exact ih (by omega)

/-- What is taken out of one list of a list of lists, and what is left there, are what stood in all. -/
theorem flatten_setAt_perm {l : List (List α)} {n : Nat} (h : n < l.length) {t k : List α} (hp : (atD l n []).Perm (t ++ k)) :
    l.flatten.Perm (t ++ (setAt l n k).flatten) := by
  induction l generalizing n with
  | nil => simp at h
  | cons a r ih =>
    cases n with
    | zero =>
      have ha : a.Perm (t ++ k) := hp
      simpa [setAt] using ha.append_right r.flatten
    | succ n =>
      have hr := (ih (by simpa using h) hp).append_left a
      rw [List.flatten_cons, setAt, List.flatten_cons]
      refine hr.trans ?_
      rw [← List.append_assoc, ← List.append_assoc]
      exact List.perm_append_comm.append_right _

end

/-! ### Admission (R26, R27) -/

/-- A member command that moves payload (R27). -/
def MCmd.moves (k : MCmd) : Bool := decide (k.bytes ≠ 0)

/-- What one loop over a class's queue does: it takes allowed commands within the room and leaves the others, those that move payload
in their order. -/
structure Takes (ok : MCmd → Bool) (queue : List MCmd) (room : Nat) (taken left : List MCmd) (roomLeft : Nat) : Prop where
  room_eq : taken.length + roomLeft = room
  allowed : ∀ k ∈ taken, ok k = true
  ordered : left.filter MCmd.moves <:+ queue.filter MCmd.moves
  perm : queue.Perm (taken ++ left)

theorem Takes.nothing (ok : MCmd → Bool) (queue : List MCmd) (room : Nat) : Takes ok queue room [] queue room :=
  ⟨Nat.zero_add room, by simp, List.suffix_rfl, List.Perm.refl _⟩

/-- What bypasses the credits moves no payload: the commands that do all stay, in their order. -/
theorem admitFree_keeps_moving (ok : MCmd → Bool) (l : List MCmd) (room : Nat) :
    (admitFree ok l room).2.1.filter MCmd.moves = l.filter MCmd.moves := by
  induction l generalizing room with
  | nil => rfl
  | cons k r ih =>
    unfold admitFree
    split
    · next h =>
      rw [List.filter_cons_of_neg (by simp [MCmd.moves, h.1])]
      exact ih (room - 1)
    · rw [List.filter_cons, List.filter_cons, ih room]

theorem admitFree_takes (ok : MCmd → Bool) (l : List MCmd) (room : Nat) :
    Takes ok l room (admitFree ok l room).1 (admitFree ok l room).2.1 (admitFree ok l room).2.2 := by
  suffices h : (admitFree ok l room).1.length + (admitFree ok l room).2.2 = room ∧ (∀ k ∈ (admitFree ok l room).1, ok k = true) ∧
      l.Perm ((admitFree ok l room).1 ++ (admitFree ok l room).2.1) by
    obtain ⟨hr, ha, hp⟩ := h
    exact ⟨hr, ha, by rw [admitFree_keeps_moving], hp⟩
  induction l generalizing room with
  | nil => exact ⟨Nat.zero_add room, by simp [admitFree], List.Perm.refl _⟩
  | cons k r ih =>
    unfold admitFree
    split
    · next h =>
      obtain ⟨-, hk, hroom⟩ := h
      obtain ⟨hr, ha, hp⟩ := ih (room - 1)
      refine ⟨?_, by simpa [hk] using ha, hp.cons k⟩
      simp only [List.length_cons]
      omega
    · obtain ⟨hr, ha, hp⟩ := ih room
      exact ⟨hr, ha, (hp.cons k).trans List.perm_middle.symm⟩

theorem admitHeads_takes (ok : MCmd → Bool) (guarded : Bool) (l : List MCmd) (cc cr : Int) (room : Nat) :
    Takes ok l room (admitHeads ok guarded l cc cr room).1 (admitHeads ok guarded l cc cr room).2.1
      (admitHeads ok guarded l cc cr room).2.2.2.2 := by
  induction l generalizing cc cr room with
  | nil => exact .nothing ok [] room
  | cons k r ih =>
    unfold admitHeads
    split
    · next h =>
      obtain ⟨hk, -, -, hroom, hb⟩ := h
      obtain ⟨hr, ha, ho, hp⟩ := ih (if guarded then cc - k.bytes else cc) (cr - k.bytes) (room - 1)
      refine ⟨?_, ?_, ?_, hp.cons k⟩
      · simp only [List.length_cons]
        omega
      · simpa [hk] using ha
      · rw [List.filter_cons_of_pos (by simpa [MCmd.moves] using hb)]
        exact ho.trans (List.suffix_cons k _)
    · exact .nothing ok _ room

/-- How an admission stands to the one it began as, as the passes go on. -/
structure Admits (ok : MCmd → Bool) (a b : Admission) : Prop where
  room_eq : b.admitted.length + b.room = a.admitted.length + a.room
  allowed : (∀ k ∈ a.admitted, ok k = true) → ∀ k ∈ b.admitted, ok k = true
  ordered : ∀ cls, (atD b.queues cls []).filter MCmd.moves <:+ (atD a.queues cls []).filter MCmd.moves
  perm : (a.admitted ++ a.queues.flatten).Perm (b.admitted ++ b.queues.flatten)
  classes : b.queues.length = a.queues.length

theorem Admits.refl (ok : MCmd → Bool) (a : Admission) : Admits ok a a :=
  ⟨rfl, fun h => h, fun _ => List.suffix_rfl, List.Perm.refl _, rfl⟩

theorem Admits.trans {ok : MCmd → Bool} {a b c : Admission} (h : Admits ok a b) (k : Admits ok b c) : Admits ok a c :=
  ⟨k.room_eq.trans h.room_eq, fun ha => k.allowed (h.allowed ha), fun cls => (k.ordered cls).trans (h.ordered cls),
    h.perm.trans k.perm, k.classes.trans h.classes⟩

/-- Taking commands out of one class's queue. -/
theorem Takes.admits {ok : MCmd → Bool} {a b : Admission} {cls : Nat} (hcls : cls < a.queues.length) {taken left : List MCmd}
    (h : Takes ok (atD a.queues cls []) a.room taken left b.room) (hq : b.queues = setAt a.queues cls left)
    (hadm : b.admitted = a.admitted ++ taken) : Admits ok a b := by
  obtain ⟨hr, ha, ho, hp⟩ := h
  refine ⟨?_, ?_, ?_, ?_, ?_⟩
  · rw [hadm, List.length_append]
    omega
  · intro hall k hk
    rw [hadm] at hk
    exact (List.mem_append.mp hk).elim (hall k) (ha k)
  · intro d
    rw [hq]
    by_cases hd : d = cls
    · subst hd
      rwa [atD_setAt_same hcls]
    · rw [atD_setAt_other _ hd]
  · rw [hadm, hq, List.append_assoc]
    exact (flatten_setAt_perm hcls hp).append_left _
  · rw [hq, length_setAt]

/-- A pass over some classes, each of which admits. -/
theorem Admits.foldl {ok : MCmd → Bool} {f : Admission → Nat → Admission} {n : Nat}
    (hf : ∀ a cls, a.queues.length = n → cls < n → Admits ok a (f a cls)) {l : List Nat} (hl : ∀ cls ∈ l, cls < n) (a : Admission)
    (ha : a.queues.length = n) : Admits ok a (l.foldl f a) := by
  induction l generalizing a with
  | nil => exact .refl ok a
  | cons cls r ih =>
    have h := hf a cls ha (hl cls (by simp))
    exact h.trans (ih (fun c hc => hl c (by simp [hc])) _ (h.classes.trans ha))

theorem admitBypass_admits (ok : MCmd → Bool) (a : Admission) (cls : Nat) (ha : a.queues.length = 8) (hcls : cls < 8) :
    Admits ok a (admitBypass ok a cls) :=
  (admitFree_takes ok _ a.room).admits (ha ▸ hcls) rfl rfl

theorem admitClass_admits (ok : MCmd → Bool) (guarded : Bool) (a : Admission) (cls : Nat) (ha : a.queues.length = 8) (hcls : cls < 8) :
    Admits ok a (admitClass ok guarded a cls) :=
  (admitHeads_takes ok guarded _ _ _ a.room).admits (ha ▸ hcls) rfl rfl

/-- The admission of a member: the bypass, then the two passes. -/
theorem admitMember_admits (rate : Nat) (shares : List Nat) (ok : MCmd → Bool) (braced : Bool) (a : Admission)
    (ha : a.queues.length = 8) : Admits ok a (admitMember rate shares ok braced a) := by
  have hrange : ∀ cls ∈ List.range 8, cls < 8 := fun cls h => List.mem_range.mp h
  have hlast : ∀ cls ∈ (if braced then List.range 5 else List.range 8), cls < 8 := by
    intro cls h
    cases braced <;> simp at h <;> omega
  unfold admitMember
  generalize hup : ({ a with credit := _, ccred := _ } : Admission) = up
  have h0 : Admits ok a up := by
    subst hup
    exact ⟨rfl, fun h => h, fun _ => List.suffix_rfl, List.Perm.refl _, rfl⟩
  have h1 := Admits.foldl (admitBypass_admits ok) hrange up (h0.classes.trans ha)
  have h2 := Admits.foldl (admitClass_admits ok true) hrange _ (h1.classes.trans (h0.classes.trans ha))
  have h3 := Admits.foldl (admitClass_admits ok false) hlast _ (h2.classes.trans (h1.classes.trans (h0.classes.trans ha)))
  exact ((h0.trans h1).trans h2).trans h3

/-- Settles O9: every loop of an admission takes allowed commands within the room and leaves the others in their order. -/
theorem admissionKeepsOrderAndWindow : Obligations.AdmissionKeepsOrderAndWindow := by
  intro rate shares ok braced a hadm hq
  obtain ⟨hr, ha, ho, hp, -⟩ := admitMember_admits rate shares ok braced a hq
  rw [hadm] at hr ha hp
  exact ⟨by simpa using hr, ha (by simp), ho, hp⟩

/-! ### Engine steps are cut and placed (R29, R30) -/

/-- An engine that carries 10 clocks over from the stride before. -/
def carryingEngine : Engine := { Engine.reset with carried := 10 }

/-- Every engine carries 10 clocks over. -/
def carryingEngines : KMap Engine := (List.range 24).map (fun i => (i, carryingEngine))

/-- A step of one clock. -/
def oneClockStep : EngineStep := { id := 0, cls := 0, bytes := 0, clocks := 1, job := 0 }

/-- Refutes O10: the clocks an engine carries over are not charged when a step is placed (notes/assumptions/16.md), so a step of one
clock is placed under a budget of 1 in an engine that carries 10. -/
theorem not_engineStepsAreCutAndFit : ¬ Obligations.EngineStepsAreCutAndFit := by
  rintro ⟨-, hplace⟩
  have hcarried : ∀ i < 24, (KMap.getD carryingEngines i Engine.reset).carried = 10 := by decide
  obtain ⟨f, hf⟩ : ∃ f, placeStep 1 carryingEngines oneClockStep = some f :=
    Option.isSome_iff_exists.mp (by decide)
  obtain ⟨i, hi, heq, hbudget, -⟩ := hplace 1 carryingEngines f oneClockStep hf
  have h10 := hcarried i hi
  rw [heq] at hbudget
  change _ + (KMap.getD carryingEngines i Engine.reset).carried ≤ 1 at hbudget
  omega

/-! ### The plan of the next stride (R21, R29) -/

/-- Engines loaded further, none of them beyond the budget. -/
def LoadsWithin (budget : Nat) (e f : KMap Engine) : Prop :=
  ∀ i, clocksOf (KMap.getD e i Engine.reset).loaded ≤ budget → clocksOf (KMap.getD f i Engine.reset).loaded ≤ budget

theorem sumOf_eq_sum {α : Type} (l : List α) (f : α → Nat) : sumOf l f = (l.map f).sum := by
  rw [sumOf, List.sum_eq_foldl, List.foldl_map]

theorem clocksOf_cons (x : EngineStep) (r : List EngineStep) : clocksOf (x :: r) = x.clocks + clocksOf r := by
  simp [clocksOf, sumOf_eq_sum]

theorem clocksOf_append_singleton (l : List EngineStep) (x : EngineStep) : clocksOf (l ++ [x]) = clocksOf l + x.clocks := by
  simp [clocksOf, sumOf_eq_sum]

theorem placeStep_loadsWithin {budget : Nat} {e f : KMap Engine} {x : EngineStep} (h : placeStep budget e x = some f) :
    LoadsWithin budget e f := by
  unfold placeStep at h
  split at h
  · cases h
  · next i hfind =>
    cases h
    intro j hj
    by_cases hji : j = i
    · subst hji
      have hroom := List.find?_some hfind
      rw [KMap.upd, KMap.getD_put_same, clocksOf_append_singleton]
      simpa using hroom
    · rwa [KMap.upd, KMap.getD_put_other _ _ _ _ _ hji]

/-- A fold that places a step or passes it by keeps within the budget. -/
theorem LoadsWithin.foldl {α : Type} {budget : Nat} {f : KMap Engine × List EngineStep → α → KMap Engine × List EngineStep}
    (hf : ∀ a x, LoadsWithin budget a.1 (f a x).1) (l : List α) (a : KMap Engine × List EngineStep) :
    LoadsWithin budget a.1 (l.foldl f a).1 := by
  induction l generalizing a with
  | nil => exact fun _ h => h
  | cons x r ih => exact fun i h => ih (f a x) i (hf a x i h)

theorem placeFirst_loadsWithin (budget : Nat) (e : KMap Engine) (l : List EngineStep) :
    LoadsWithin budget e (placeFirst budget e l).1 := by
  refine LoadsWithin.foldl (fun a x => ?_) l (e, [])
  split
  · next hp => exact placeStep_loadsWithin hp
  · exact fun _ h => h

theorem placeClass_loadsWithin (budget cls : Nat) (a : KMap Engine × List EngineStep) :
    LoadsWithin budget a.1 (placeClass budget cls a).1 := by
  refine LoadsWithin.foldl (fun a x => ?_) a.2 (a.1, [])
  split
  · split
    · next hp => exact placeStep_loadsWithin hp
    · exact fun _ h => h
  · exact fun _ h => h

section
variable {c : Chip} (hrun : c.clk.running = true) (hopen : c.sched.frozen = false)
include hrun hopen

theorem Chip.planCutoff_of_stopped (hstop : c.enginesStopped = true) :
    c.planCutoff = { c with sched := { c.sched with frozen := true, planId := c.sched.nextId } } := by
  simp [Chip.planCutoff, hrun, hopen, hstop, Chip.onSched]

/-- The plan is frozen, within the engines' budget. -/
theorem Chip.planCutoff_sched : c.planCutoff.sched.frozen = true ∧ c.planCutoff.sched.planId = c.sched.nextId ∧
    LoadsWithin c.engineBudget c.sched.engines c.planCutoff.sched.engines := by
  cases hstop : c.enginesStopped with
  | true =>
    rw [Chip.planCutoff_of_stopped hrun hopen hstop]
    exact ⟨rfl, rfl, fun _ h => h⟩
  | false =>
    have hcut : (!c.clk.running || c.sched.frozen) = false := by simp [hrun, hopen]
    simp only [Chip.planCutoff, hcut, hstop, Bool.false_eq_true, if_false]
    refine ⟨rfl, rfl, fun i h => ?_⟩
    exact LoadsWithin.foldl (fun a x => placeClass_loadsWithin _ x a) (List.range 8) _ i (placeFirst_loadsWithin _ _ _ i h)

end

theorem fitPrefix_within (budget : Nat) (l : List EngineStep) : clocksOf (fitPrefix budget l).1 ≤ budget := by
  induction l generalizing budget with
  | nil => exact Nat.zero_le budget
  | cons x r ih =>
    unfold fitPrefix
    split
    · have hrest := ih (budget - x.clocks)
      rw [clocksOf_cons]
      omega
    · exact Nat.zero_le budget

/-- Settles O21: a step is placed where it fits, and at the boundary what does not fit is moved. -/
theorem thePlanFreezesWithinTheBudget : Obligations.ThePlanFreezesWithinTheBudget := by
  refine ⟨fun s hrun hopen hstop => ?_, fun s hrun hopen => ?_, fun e budget draw => ⟨?_, rfl⟩⟩
  · rw [← Chip.planCutoff_of_stopped hrun hopen hstop]
    exact s.effect_left _
  · obtain ⟨hfrozen, hplan, hloads⟩ := Chip.planCutoff_sched hrun hopen
    refine ⟨_, s.effect_left Chip.planCutoff, ?_⟩
    simp only [Chip.engine, State.left_sched]
    exact ⟨hfrozen, hplan, fun i _ h => hloads i h⟩
  · have hfit : clocksOf (fitSteps (budget - remainingClocks draw e.running) e.loaded).1 ≤ budget - remainingClocks draw e.running :=
      fitPrefix_within _ _
    change _ + remainingClocks draw e.running ≤ _
    omega

/-! ### The end of an engine step (R23, R30 to R32) -/

theorem Chip.engineStep_none {c : Chip} {e k : Nat} (h : (c.stepDone e k).2 = none) : c.engineStep e k = (c.stepDone e k).1 := by
  simp only [Chip.engineStep, h]

theorem Chip.engineStep_even {c : Chip} {e k j : Nat} (h : (c.stepDone e k).2 = some (2 * j)) :
    c.engineStep e k = Chip.gatherEnd ((c.stepDone e k).1.gatherSolved j) := by
  simp [Chip.engineStep, h]

theorem Chip.engineStep_odd {c : Chip} {e k j : Nat} (h : (c.stepDone e k).2 = some (2 * j + 1)) :
    c.engineStep e k = ((c.stepDone e k).1.computeEntry j).pumpEntry j := by
  have hdiv : (2 * j + 1) / 2 = j := by omega
  simp [Chip.engineStep, h, hdiv]

@[simp] theorem Chip.endFault_sched (c : Chip) (source disposition : Nat) : (c.endFault source disposition).sched = c.sched := by
  unfold Chip.endFault
  split <;> rfl

@[simp] theorem Chip.selfClear_sched (c : Chip) (source : Nat) : (c.selfClear source).sched = c.sched := by
  unfold Chip.selfClear
  split
  · rfl
  · split <;> simp

/-- The clearing of an overrun leaves the engines. -/
theorem Chip.clearOverrun_engine (c : Chip) (e : Nat) : c.clearOverrun.engine e = c.engine e := by
  unfold Chip.clearOverrun
  dsimp only
  split <;> simp [Chip.engine]

/-- A step that ends leaves its engine, and its clocks are counted. -/
theorem Chip.stepDone_engine {c : Chip} {e k : Nat} {x : EngineStep}
    (h : (c.engine e).running.find? (fun y => decide (y.id = k)) = some x) :
    (c.stepDone e k).1.engine e = { c.engine e with
      running := (c.engine e).running.filter (fun y => decide (y.id ≠ k)), clocksLap := (c.engine e).clocksLap + x.clocks } := by
  simp only [Chip.stepDone, h, Chip.clearOverrun_engine]
  exact KMap.getD_put_same _ _ _ _

/-- Settles O22: the last step of a job leads to what the job was for. -/
theorem engineStepsEndOnce : Obligations.EngineStepsEndOnce := by
  refine ⟨fun s e k x _ h => ?_, fun s e k j h => ?_, fun s e k j h => ?_, fun s e k x h => ?_⟩
  · rw [← Chip.engineStep_none h]
    exact s.effect_left _
  · rw [← Chip.engineStep_even h]
    exact s.effect_left _
  · rw [← Chip.engineStep_odd h]
    exact s.effect_left _
  · rw [Chip.stepDone_engine h]
    exact ⟨rfl, rfl⟩

end Sys2Proof.Machine
end

section
/-! The placement table (O13), the numbers of event records (O14), and keys (O15). -/

namespace Sys2Proof.Machine

/-! ### The placement table (R51) -/

theorem setAt_eq_set {α : Type} (l : List α) (n : Nat) (x : α) : setAt l n x = l.set n x := by
  induction l generalizing n with
  | nil => rfl
  | cons a r ih => cases n <;> simp [setAt, ih]

theorem atD_eq_getElem {α : Type} {l : List α} {n : Nat} (h : n < l.length) (d : α) : atD l n d = l[n] := by
  induction l generalizing n with
  | nil => simp at h
  | cons a r ih =>
    cases n with
    | zero => rfl
    | succ n => exact ih (by simpa using h)

/-- An exchange of two places keeps the members. -/
theorem swapAt_perm {l : List Nat} {i j : Nat} (hi : i < l.length) (hj : j < l.length) : (swapAt l i j).Perm l := by
  simp only [swapAt, setAt_eq_set, atD_eq_getElem hi, atD_eq_getElem hj]
  exact List.set_set_perm hi hj

/-- One exchange, then the rest (through `eq_def`: the generator's constants make the equation costly to check by `rfl`). -/
theorem shuffleFrom_succ (i st : Nat) (l : List Nat) : shuffleFrom (i + 1) (st, l) =
    shuffleFrom i ((rngNext st).1, swapAt l (i + 1) ((rngNext st).2 % (i + 2))) := by
  rw [shuffleFrom.eq_def]

/-- A shuffle of places keeps the members, whatever the generator draws. -/
theorem shuffleFrom_perm (i st : Nat) (l : List Nat) (h : i < l.length ∨ i = 0) : (shuffleFrom i (st, l)).2.Perm l := by
  induction i generalizing st l with
  | zero => exact List.Perm.refl _
  | succ i ih =>
    have hi : i + 1 < l.length := h.resolve_right (Nat.succ_ne_zero i)
    rw [shuffleFrom_succ]
    generalize rngNext st = r
    have hj : r.2 % (i + 2) < l.length := (Nat.mod_lt r.2 (Nat.succ_pos _)).trans_le hi
    have hswap := swapAt_perm hi hj
    exact (ih r.1 _ (.inl (hswap.length_eq ▸ Nat.lt_of_succ_lt hi))).trans hswap

theorem shuffleFrom_range_perm (st n : Nat) : (shuffleFrom (n - 1) (st, List.range n)).2.Perm (List.range n) :=
  shuffleFrom_perm _ _ _ (by simp; omega)

theorem sigmaAt_perm (seed n blk : Nat) : (sigmaAt seed n blk).2.Perm (List.range n) := by
  cases blk with
  | zero => rw [sigmaAt]; exact shuffleFrom_range_perm _ n
  | succ blk => rw [sigmaAt]; exact shuffleFrom_range_perm _ n

/-- A list read from another place on, cyclically, keeps its members. -/
theorem map_atD_rotate_perm (l : List Nat) (k : Nat) :
    ((List.range l.length).map (fun c => atD l ((c + k % l.length) % l.length) 0)).Perm l := by
  have hrot : (List.range l.length).map (fun c => atD l ((c + k % l.length) % l.length) 0) = l.rotate k := by
    refine List.ext_getElem (by simp) (fun i hi _ => ?_)
    have hlen : i < l.length := by simpa using hi
    have hmod : (i + k % l.length) % l.length < l.length := Nat.mod_lt _ (by omega)
    rw [List.getElem_map, List.getElem_range, atD_eq_getElem hmod, List.getElem_rotate]
    simp
  rw [hrot]
  exact List.rotate_perm l k

theorem tableRow_perm (seed n row : Nat) : (tableRow seed n row).Perm (List.range n) := by
  have hs := sigmaAt_perm seed n (row / n)
  have hlen : (sigmaAt seed n (row / n)).2.length = n := by simpa using hs.length_eq
  have hrot := map_atD_rotate_perm (sigmaAt seed n (row / n)).2 row
  rw [hlen] at hrot
  exact hrot.trans hs

theorem length_tableRow (seed n row : Nat) : (tableRow seed n row).length = n := by
  simpa using (tableRow_perm seed n row).length_eq

theorem atD_tableRow_lt {seed n row c : Nat} (h : c < n) : atD (tableRow seed n row) c 0 < n := by
  have hc : c < (tableRow seed n row).length := by rwa [length_tableRow]
  rw [atD_eq_getElem hc]
  exact List.mem_range.mp ((tableRow_perm seed n row).subset (List.getElem_mem hc))

/-- Different columns of a row hold different members. -/
theorem atD_tableRow_ne {seed n row a b : Nat} (ha : a < n) (hb : b < n) (hab : a ≠ b) :
    atD (tableRow seed n row) a 0 ≠ atD (tableRow seed n row) b 0 := by
  have hla : a < (tableRow seed n row).length := by rwa [length_tableRow]
  have hlb : b < (tableRow seed n row).length := by rwa [length_tableRow]
  have hnodup : (tableRow seed n row).Nodup := (tableRow_perm seed n row).nodup_iff.mpr List.nodup_range
  rw [atD_eq_getElem hla, atD_eq_getElem hlb]
  exact fun h => hab ((List.Nodup.getElem_inj_iff hnodup).mp h)

/-! ### The strips of a stripe (R53) -/

theorem Geometry.colOf_lt {g : Geometry} (hm : g.m ≠ 0) {stripe i : Nat} (hi : i < g.k + 2) : g.colOf stripe i < g.m * (g.k + 2) := by
  have hmod : stripe % g.m < g.m := Nat.mod_lt _ (Nat.pos_of_ne_zero hm)
  calc g.colOf stripe i < stripe % g.m * (g.k + 2) + (g.k + 2) := Nat.add_lt_add_left hi _
    _ = (stripe % g.m + 1) * (g.k + 2) := (Nat.succ_mul _ _).symm
    _ ≤ g.m * (g.k + 2) := Nat.mul_le_mul_right _ hmod

/-- Without replacements a column lies where the table has it. -/
theorem stripIndex_unreplaced (seed : Nat) {g : Geometry} (hm : g.m ≠ 0) {stripe i : Nat} (hi : i < g.k + 2) :
    stripIndex seed g [] stripe i = some (atD (tableRow seed g.n (g.rowOf stripe % 4096)) (g.colOf stripe i) 0) := by
  have hc := g.colOf_lt hm (stripe := stripe) hi
  have hlen : g.colOf stripe i < ((List.range (g.m * (g.k + 2))).map some).length := by simpa using hc
  simp only [stripIndex, place, placeRow, placeAll, atD_eq_getElem hlen, List.getElem_map, List.getElem_range, Option.map_some]

/-! ### Host blocks (R55) -/

theorem Geometry.b_pos (g : Geometry) : 0 < g.b := Nat.pow_pos (by decide)

theorem Geometry.hostBlock_locate (g : Geometry) (l : Nat) : g.hostBlock (g.locate l).1 (g.locate l).2.1 (g.locate l).2.2 = l := by
  have hb := Nat.div_add_mod' (l % g.d) g.b
  have hd := Nat.div_add_mod' l g.d
  simp only [Geometry.hostBlock, Geometry.locate]
  omega

theorem Geometry.locate_hostBlock {g : Geometry} {stripe i o : Nat} (hi : i < g.k) (ho : o < g.b) :
    g.locate (g.hostBlock stripe i o) = (stripe, i, o) := by
  have hrest : i * g.b + o < g.d := by
    calc i * g.b + o < i * g.b + g.b := Nat.add_lt_add_left ho _
      _ = (i + 1) * g.b := (Nat.succ_mul _ _).symm
      _ ≤ g.d := Nat.mul_le_mul_right _ hi
  have hblock : g.hostBlock stripe i o = (i * g.b + o) + stripe * g.d := by
    simp only [Geometry.hostBlock]
    omega
  have hstripe : g.hostBlock stripe i o / g.d = stripe := by
    rw [hblock, Nat.add_mul_div_right _ _ (by omega), Nat.div_eq_of_lt hrest, Nat.zero_add]
  have hmod : g.hostBlock stripe i o % g.d = o + i * g.b := by
    rw [hblock, Nat.add_mul_mod_self_right, Nat.mod_eq_of_lt hrest, Nat.add_comm]
  rw [Geometry.locate, hstripe, hmod, Nat.add_mul_div_right _ _ g.b_pos, Nat.div_eq_of_lt ho, Nat.zero_add,
    Nat.add_mul_mod_self_right, Nat.mod_eq_of_lt ho]

/-- Settles O13: the shuffle exchanges places, so rows are permutations and columns of a stripe lie apart. -/
theorem placementSpreadsEveryStripe : Obligations.PlacementSpreadsEveryStripe := by
  refine ⟨tableRow_perm, fun seed g stripe i j hm hfit hi hj hij => ?_, fun g l hk => ⟨g.hostBlock_locate l, ?_, ?_⟩,
    fun g stripe i o hi ho => g.locate_hostBlock hi ho⟩
  · have hci : g.colOf stripe i < g.n := (g.colOf_lt hm hi).trans_le hfit
    have hcj : g.colOf stripe j < g.n := (g.colOf_lt hm hj).trans_le hfit
    exact ⟨_, _, stripIndex_unreplaced seed hm hi, stripIndex_unreplaced seed hm hj,
      atD_tableRow_ne hci hcj (fun h => hij (Nat.add_left_cancel h)), atD_tableRow_lt hci, atD_tableRow_lt hcj⟩
  · exact Nat.div_lt_of_lt_mul ((Nat.mod_lt _ (Nat.mul_pos hk g.b_pos)).trans_eq (Nat.mul_comm _ _))
  · exact Nat.mod_lt _ g.b_pos

/-! ### The numbers of event records (R422 to R424) -/

theorem getLast?_keepLast_append {n : Nat} (hn : 0 < n) {α : Type} (l : List α) (x : α) : (keepLast n (l ++ [x])).getLast? = some x := by
  have hle : (l ++ [x]).length - n ≤ l.length := by
    rw [List.length_append, List.length_singleton]
    omega
  rw [keepLast, List.drop_append_of_le_length hle, List.getLast?_append]
  rfl

/-- A record as it is stored: with the next number, and the mark of whether the permanent part has room. -/
theorem Chip.storeRecord_recorder (c : Chip) (r : Rec) : ∃ x : Rec, x.seq = c.recorder.seq + 1 ∧
    (c.storeRecord r).recorder.seq = c.recorder.seq + 1 ∧ (c.storeRecord r).recorder.circ = keepLast 4096 (c.recorder.circ ++ [x]) ∧
    (c.storeRecord r).recorder.permanent =
      if c.recorder.permanent.length < 512 then c.recorder.permanent ++ [x] else c.recorder.permanent := by
  refine ⟨{ r with seq := c.recorder.seq + 1, suppressed := if r.only then r.suppressed else c.recorder.suppressed.getD r.code 0,
                   permanent := decide (c.recorder.permanent.length < 512) }, rfl, ?_, ?_, ?_⟩
  all_goals simp [Chip.storeRecord]

/-- Settles O14: the next number is one more, and a start's first lies past the next multiple of 2^40. -/
theorem recordsAreNumberedInOrder : Obligations.RecordsAreNumberedInOrder := by
  refine ⟨fun c r => ?_, fun k kind => ?_⟩
  · obtain ⟨x, hx, hseq, hcirc, hperm⟩ := c.storeRecord_recorder r
    refine ⟨hseq, ?_, fun hroom => ?_, fun hfull => ?_⟩
    · rw [hcirc, getLast?_keepLast_append (by decide), Option.map_some, hx]
    · rw [hperm, if_pos hroom, List.map_append, List.map_singleton, hx]
    · rw [hperm, if_neg (by omega)]
  · have hseq : (k.restarted kind).seq = (k.saved / 2 ^ 40 + 1) * 2 ^ 40 := rfl
    rw [hseq]
    omega

/-! ### Command objects (Table 12.3) -/

/-- A command that passes its checks is logged, then acted on. -/
theorem Chip.command_of_accepted {c : Chip} {index sub : Nat} {w : Writer} {own : Nat} (h : c.commandReason index sub w own = 0)
    (value : Nat) (act : Chip → Chip) :
    c.command index sub value w own act = act (c.logChange index sub w 0 0 0 value (decide (index = 0x4020))) := by
  simp only [Chip.command, h, if_true]

/-! ### Keys (R339, R347) -/

/-- adp_key as the directory has it (Table 12.14): a command object of 32 bytes for each of two slots. -/
theorem findObj_adpKey : findObj 0x4020 = some (obj 0x4020 0 1 13 32 4 0 0x11 0 0 1 false false) := by decide +kernel

/-- The change log and the recorder: where a write leaves its trace. -/
def Chip.trace (c : Chip) : List ChangeRec × Recorder := (c.dict.log, c.recorder)

@[simp] theorem Chip.sendFrame_trace (c : Chip) (f : AdpFrame) : (c.sendFrame f).trace = c.trace := by
  unfold Chip.sendFrame
  dsimp only
  split
  · rfl
  · split <;> rfl

@[simp] theorem Chip.openSession_trace (c : Chip) (judge : Bool) : (c.openSession judge).trace = c.trace := by
  unfold Chip.openSession
  split
  · rfl
  · exact Chip.sendFrame_trace ..

@[simp] theorem Chip.keepSession_trace (c : Chip) (judge : Bool) : (c.keepSession judge).trace = c.trace := by
  unfold Chip.keepSession
  dsimp only
  split
  · exact c.openSession_trace judge
  · rfl

theorem Chip.keepSessions_trace (c : Chip) : (if c.paired then (c.keepSession false).keepSession true else c).trace = c.trace := by
  split
  · rw [Chip.keepSession_trace, Chip.keepSession_trace]
  · rfl

/-- Loading a key leaves no trace: only the ADP block and its sessions follow it. -/
theorem Chip.setKey_trace (c : Chip) (slot : Nat) (key : Bytes) : (c.setKey slot key).trace = c.trace := by
  unfold Chip.setKey
  generalize hf : (fun d : Dict => { d with keys := if key.all (· == 0) then d.keys.drop slot else d.keys.put slot key }) = f
  have hlog : (c.onDict f).trace = c.trace := by
    subst hf
    rfl
  dsimp only
  split
  · exact (Chip.keepSessions_trace _).trans hlog
  · exact hlog

/-- A write of a key leaves the trace of the write, which does not show the key. -/
theorem Chip.keyWrite_trace (c : Chip) (slot : Nat) (key : Bytes) (w : Writer) (own : Nat) :
    (c.command 0x4020 slot 0 w own (fun c => c.setKey slot key)).trace =
      (c.logChange 0x4020 slot w (c.commandReason 0x4020 slot w own) 0 0 0 true).trace := by
  unfold Chip.command
  dsimp only
  split
  · exact Chip.setKey_trace ..
  · rfl

/-- Settles O15: the key is a secret command object, and its write is logged with the value 0. -/
theorem keysNeverLeave : Obligations.KeysNeverLeave := by
  refine ⟨fun c sub hsub => ?_, fun s slot k1 k2 w hlen => ?_⟩
  · have hobj : c.object 0x4020 sub = some (obj 0x4020 0 1 13 32 4 0 0x11 0 0 1 false false) :=
      c.object_of_mem_range findObj_adpKey (Nat.zero_le _) hsub (show (1 : Nat) ≠ 1000 by decide)
    rw [c.readObject_of_object hobj]
    rfl
  · refine ⟨_, _, s.effect_left _, s.effect_left _, ?_⟩
    have hreason : keyReason k1 = keyReason k2 := by simp only [keyReason, hlen]
    have htrace := (Chip.keyWrite_trace s.toChip slot k1 w (keyReason k1)).trans
      ((congrArg (fun r => (s.logChange 0x4020 slot w (s.commandReason 0x4020 slot w r) 0 0 0 true).trace) hreason).trans
        (Chip.keyWrite_trace s.toChip slot k2 w (keyReason k2)).symm)
    exact ⟨congrArg Prod.fst htrace, congrArg Prod.snd htrace⟩

end Sys2Proof.Machine
end

section
/-! Markers, their loss and the pacer's election (O20). -/

namespace Sys2Proof.Machine

/-! ### A marker that is followed -/

/-- The clock once a marker is noted and measured. -/
def Chip.measuredClock (c : Chip) (port : Nat) (m : MarkerMsg) (a : Int) : Clock :=
  (if m.pacerNode < c.straps.nodeId then c.clk.hearLower else c.clk).measure m (c.phaseError port m a)

theorem Chip.measuredClock_sync (c : Chip) (port : Nat) (m : MarkerMsg) (a : Int) : (c.measuredClock port m a).sync = c.clk.sync := by
  unfold Chip.measuredClock
  split <;> rfl

/-- A marker in phase starts the count of bad ones anew. -/
theorem Chip.measuredClock_bad {c : Chip} {port : Nat} {m : MarkerMsg} {a : Int} (h : inPhase (c.phaseError port m a) = true) :
    (c.measuredClock port m a).bad = 0 := by
  simp only [Chip.measuredClock, Clock.measure, h, if_true]

/-- A marker out of phase that is no second copy counts as bad. -/
theorem Chip.measuredClock_bad_succ {c : Chip} {port : Nat} {m : MarkerMsg} {a : Int} (h : inPhase (c.phaseError port m a) = false)
    (hnew : c.clk.sinceMarker ≠ 0) : (c.measuredClock port m a).bad = c.clk.bad + 1 := by
  unfold Chip.measuredClock
  split <;> simp [Clock.measure, Clock.hearLower, h, hnew]

/-- A marker in phase that is no second copy counts as good. -/
theorem Chip.measuredClock_good_succ {c : Chip} {port : Nat} {m : MarkerMsg} {a : Int} (h : inPhase (c.phaseError port m a) = true)
    (hnew : c.clk.sinceMarker ≠ 0) : (c.measuredClock port m a).good = c.clk.good + 1 := by
  unfold Chip.measuredClock
  split <;> simp [Clock.measure, Clock.hearLower, h, hnew]

/-- A valid marker that a follower heeds is measured, then tracked. -/
theorem Chip.timeMarker_of_followed {c : Chip} {port : Nat} {m : MarkerMsg} {a : Int} (hv : c.validMarker port m = true)
    (hp : c.clk.pacer = false) (hf : c.clk.follows m = true) (hw : c.clk.worseCopy m = false) :
    c.timeMarker port m a = Chip.track { c with clk := c.measuredClock port m a } m (c.phaseError port m a) := by
  have hfollows : (c.notedLower m).clk.follows m = true := by
    unfold Chip.notedLower
    split <;> exact hf
  have hcopy : (c.notedLower m).clk.worseCopy m = false := by
    unfold Chip.notedLower
    split <;> exact hw
  have hpacer : (c.notedLower m).clk.pacer = false := by
    unfold Chip.notedLower
    split <;> exact hp
  rw [Chip.timeMarker_of_valid hv, Chip.heedMarker, if_neg (by rw [hpacer]; decide), if_neg (by rw [hfollows, hcopy]; decide)]
  unfold Chip.notedLower Chip.measuredClock
  split <;> rfl

section
variable {c : Chip} {m : MarkerMsg} {e : Int}

theorem Chip.track_of_locked (hs : c.clk.sync = .locked) (hb : c.clk.bad < 4) :
    c.track m e = c.onClk (fun k => { k with correction := clamp4 (ticksOf (-e)) }) := by
  simp only [Chip.track, hs, if_neg (Nat.not_le.mpr hb)]

theorem Chip.track_clk_of_locked_bad (hs : c.clk.sync = .locked) (hb : 4 ≤ c.clk.bad) : (c.track m e).clk = c.clk.acquire := by
  simp only [Chip.track, hs, if_pos hb]
  rfl

theorem Chip.track_of_holdover_good (hs : c.clk.sync = .holdover) (hg : 4 ≤ c.clk.good) :
    c.track m e = c.onClk (fun k => { k with sync := .locked, holdStrides := 0, correction := clamp4 (ticksOf (-e)) }) := by
  simp only [Chip.track, hs, if_pos hg]

end

/-! ### Loss of markers, the end of HOLDOVER, the election -/

theorem Clock.markerLoss_of_locked {k : Clock} (hs : k.sync = .locked) (hp : k.pacer = false) (h8 : 8 ≤ k.sinceMarker) :
    k.markerLoss = { k with sync := .holdover, good := 0, bad := 0, holdStrides := 0 } :=
  if_pos ⟨hs, by simpa using hp, h8⟩

theorem Clock.holdoverExpiry_of_holdover {k : Clock} (hs : k.sync = .holdover) (h : 256 ≤ k.holdStrides) :
    k.holdoverExpiry = { k.acquire with pacerNode := 255 } := if_pos ⟨hs, h⟩

theorem Chip.pacerElection_clk {c : Chip} (h : c.mayPace = true) : c.pacerElection.clk = { c.clk with
    pacer := true, sync := .locked, offset := 0, pacerNode := c.straps.nodeId, correction := 0
    pacerChanges := c.clk.pacerChanges + 1, good := 0, bad := 0, awaitLap := false, holdStrides := 0, lowerRun := 0 } := by
  simp only [Chip.pacerElection, if_pos h]
  rfl

/-- Settles O20: each state of Table 2.6 by what it does with a measured marker, and the three commands of the timers. -/
theorem markersSteerTheClock : Obligations.MarkersSteerTheClock := by
  refine ⟨fun s port m ps hv hp hf hw hs hin => ?_, fun s port m ps hv hp hf hw hs hout hbad hnew => ?_,
    fun s port m ps hv hp hf hw hs hin hgood hnew => ?_, clamp4_bounds, fun s hs hp h8 => ?_, fun s hs h => ?_, fun s h => ?_⟩
  · have htrack := Chip.track_of_locked (c := { s.toChip with clk := s.measuredClock port m ps }) (m := m)
      (e := s.phaseError port m ps) ((s.measuredClock_sync ..).trans hs) (by rw [Chip.measuredClock_bad hin]; decide)
    exact congrArg (fun c : Chip => Host.Outcome.next (s.leaves (c.aside Chip.noteLocked)))
      ((Chip.timeMarker_of_followed hv hp hf hw).trans htrack)
  · have htrack := Chip.track_clk_of_locked_bad (c := { s.toChip with clk := s.measuredClock port m ps }) (m := m)
      (e := s.phaseError port m ps) ((s.measuredClock_sync ..).trans hs) (by rw [Chip.measuredClock_bad_succ hout hnew]; omega)
    exact ⟨_, rfl, (congrArg Chip.clk (Chip.timeMarker_of_followed hv hp hf hw)).trans htrack⟩
  · have htrack := Chip.track_of_holdover_good (c := { s.toChip with clk := s.measuredClock port m ps }) (m := m)
      (e := s.phaseError port m ps) ((s.measuredClock_sync ..).trans hs) (by rw [Chip.measuredClock_good_succ hin hnew]; omega)
    exact ⟨_, rfl, congrArg Chip.clk ((Chip.timeMarker_of_followed hv hp hf hw).trans htrack)⟩
  · exact congrArg (fun k : Clock => Host.Outcome.next (s.leaves { s.toChip with clk := k })) (Clock.markerLoss_of_locked hs hp h8)
  · exact congrArg (fun k : Clock => Host.Outcome.next (s.leaves { s.toChip with clk := k })) (Clock.holdoverExpiry_of_holdover hs h)
  · exact ⟨_, rfl, Chip.pacerElection_clk h⟩

end Sys2Proof.Machine
end

section
/-! Events of groomed media (O25). -/

namespace Sys2Proof.Machine

/-! ### Shared: the state a clause states, and members and pistes after a change -/

/-- The state a command leaves, by the chip its effect comes to. -/
theorem State.effect_eq_left (s : State) {f : Chip → Chip} {c : Chip} (h : f s.toChip = c) :
    s.effect f = Host.Outcome.next (s.left c) := by rw [s.effect_left, h]

@[simp] theorem Chip.member_setMember_same (c : Chip) (k : Nat) (x : Member) : (c.setMember k x).member k = x := KMap.getD_put_same ..

theorem Chip.member_setMember_other (c : Chip) {j k : Nat} (h : j ≠ k) (x : Member) : (c.setMember k x).member j = c.member j :=
  KMap.getD_put_other _ _ _ _ _ h

@[simp] theorem Chip.member_updMember_same (c : Chip) (k : Nat) (f : Member → Member) : (c.updMember k f).member k = f (c.member k) :=
  c.member_setMember_same k _

theorem Chip.member_updMember_other (c : Chip) {j k : Nat} (h : j ≠ k) (f : Member → Member) : (c.updMember k f).member j = c.member j :=
  c.member_setMember_other h _

@[simp] theorem Chip.piste_setPiste_same (c : Chip) (k : Nat) (x : Piste) : (c.setPiste k x).piste k = x := KMap.getD_put_same ..

@[simp] theorem Chip.piste_updPiste_same (c : Chip) (k : Nat) (f : Piste → Piste) : (c.updPiste k f).piste k = f (c.piste k) :=
  c.piste_setPiste_same k _

theorem Chip.member_of_members {a b : Chip} (h : a.members = b.members) (k : Nat) : a.member k = b.member k :=
  congrArg (fun m : KMap Member => m.getD k Member.reset) h

theorem Chip.piste_of_pistes {a b : Chip} (h : a.pistes = b.pistes) (k : Nat) : a.piste k = b.piste k :=
  congrArg (fun m : KMap Piste => m.getD k Piste.reset) h

theorem KMap.find_mapVal {β : Type} (f : Nat → β → β) (m : KMap β) (k : Nat) : (m.mapVal f).find k = (m.find k).map (f k) := by
  induction m with
  | nil => rfl
  | cons p r ih =>
    obtain ⟨a, b⟩ := p
    by_cases h : a = k
    · subst h
      simp [KMap.mapVal, KMap.find]
    · simpa [KMap.mapVal, KMap.find, h] using ih

theorem KMap.mapVal_mapVal {β : Type} {f : Nat → β → β} (hf : ∀ k v, f k (f k v) = f k v) (m : KMap β) :
    (m.mapVal f).mapVal f = m.mapVal f := by
  simp [KMap.mapVal, hf]

/-! ### The census (R138) -/

/-- A zone as the census of a piste leaves it. -/
def Zone.counted (z : Zone) (p n : Nat) : Zone := if z.piste = p ∧ z.zstate ≠ 0 then { z with kill := n } else z

theorem Zone.counted_counted (z : Zone) (p n : Nat) : (z.counted p n).counted p n = z.counted p n := by
  by_cases h : z.piste = p ∧ z.zstate ≠ 0 <;> simp [Zone.counted, h]

/-- The records of the census' members. -/
theorem Chip.each_mapZones {f : Nat → Zone → Zone} (hf : ∀ k z, f k (f k z) = f k z) (l : List Nat) (c : Chip) (slot : Nat) :
    ((c.each l (fun c s => c.updMember s (fun m => { m with zones := m.zones.mapVal f }))).member slot).zones =
      if slot ∈ l then (c.member slot).zones.mapVal f else (c.member slot).zones := by
  induction l generalizing c with
  | nil => rfl
  | cons a l ih =>
    refine (ih (c.updMember a _)).trans ?_
    by_cases h : slot = a
    · subst h
      simp [KMap.mapVal_mapVal hf]
    · simp [h, Chip.member_updMember_other c h]

/-- What the census leaves of its piste and of the zones of its members. -/
theorem Chip.censusComplete_of_counted {c : Chip} {p : Nat} (hs : (c.piste p).suspended = true) (hleft : (c.piste p).censusLeft = 0) :
    ((c.censusComplete p).piste p).suspended = false ∧ ((c.censusComplete p).piste p).groomState = 0 ∧
    ∀ slot ∈ c.localSlots (c.piste p),
      ((c.censusComplete p).member slot).zones = (c.member slot).zones.mapVal (fun _ z => z.counted p c.journal.sealSeq) := by
  have hcond : ¬((!(c.piste p).suspended) = true ∨ (c.piste p).censusLeft ≠ 0) := by simp [hs, hleft]
  have hpistes : ∀ (l : List Nat) (f : Member → Member) (d : Chip), (d.each l (fun c s => c.updMember s f)).pistes = d.pistes :=
    fun l f d => Chip.each_keeps Chip.pistes (fun c s => c.updMember s f) (fun _ _ => rfl) l d
  rw [Chip.censusComplete, if_neg hcond]
  refine ⟨?_, ?_, fun slot hslot => ?_⟩
  · rw [Chip.piste_of_pistes ((Chip.record_pistes _ _ _ _).trans (hpistes _ _ _)), Chip.piste_updPiste_same]
  · rw [Chip.piste_of_pistes ((Chip.record_pistes _ _ _ _).trans (hpistes _ _ _)), Chip.piste_updPiste_same]
  · rw [Chip.member_of_members (Chip.record_members _ _ _ _)]
    exact (Chip.each_mapZones (fun _ z => z.counted_counted p c.journal.sealSeq) _ _ slot).trans (if_pos hslot)

/-- Settles O25: each event is one branch of its definition; the census marks every zone of the piste's members. -/
theorem groomedMediaEvents : Obligations.GroomedMediaEvents := by
  refine ⟨fun s slot z h2 hrole hmode hver hleft hdue => s.effect_eq_left ?_, fun s p page hpage hdirty hage hmay => s.effect_eq_left ?_,
    fun s p i page r hpage hslot hdue hmay => s.effect_eq_left ?_, fun s slot z p e hhold hrec => s.effect_eq_left ?_,
    fun s p e z r hg hs hq hmay hv => s.effect_eq_left ?_, fun s p hs hleft => ⟨_, s.effect_left _, ?_⟩⟩
  · rw [Chip.zoneVerify]
    simp only [h2, hrole, hmode, hver, hleft, hdue]
    rfl
  · rw [Chip.mapWriteback, if_neg (Nat.not_le.mpr hpage), if_pos ⟨hdirty, hage, hmay⟩]
  · have hdiv : ((i + 1) * 2 ^ 40 + page) / 2 ^ 40 - 1 = i := by omega
    have hmod : ((i + 1) * 2 ^ 40 + page) % 2 ^ 40 = page := by omega
    rw [Chip.mapWriteback, if_pos (by omega), hdiv, hmod, hslot]
    exact if_pos ⟨hdue, hmay⟩
  · rw [Chip.zoneReclaim, hhold]
    exact if_pos hrec
  · simp only [Chip.groomVictim, hg, hs, hq, hmay, hv]
    rfl
  · obtain ⟨hsus, hgroom, hzones⟩ := Chip.censusComplete_of_counted hs hleft
    refine ⟨?_, ?_, fun slot z r hslot hfind hp hz => ?_⟩
    · rw [Chip.piste_of_pistes (State.left_pistes _ _)]
      exact hsus
    · rw [Chip.piste_of_pistes (State.left_pistes _ _)]
      exact hgroom
    · rw [Chip.member_of_members (State.left_members _ _), Member.zone, hzones slot hslot, KMap.getD, KMap.find_mapVal, hfind]
      exact if_pos ⟨hp, hz⟩

end Sys2Proof.Machine
end

section
/-! The ends of degraded service (O26), of holds, sweeps and forced grooming (O27). -/

namespace Sys2Proof.Machine

/-- Settles O26: each end is the branch of its command that the conditions choose. -/
theorem degradedServiceEnds : Obligations.DegradedServiceEnds := by
  refine ⟨fun s slot id g col k hfind hdead hpurpose => s.effect_eq_left ?_, fun s hlap => s.effect_eq_left ?_,
    fun s slot ns hm hfail hgrace hover => s.effect_eq_left ?_, fun s slot hm hlog hhold => s.effect_eq_left ?_,
    fun s p i r hslot hr hpass hopen => s.effect_eq_left ?_, fun s p i x hitem hpass => s.effect_eq_left ?_,
    fun s slot hm hdone => s.effect_eq_left ?_, fun s p slot e r hg hfind hslot hrows hopen => s.effect_eq_left ?_⟩
  · rw [Chip.deadlineMiss, hfind]
    simp only [hdead, hpurpose, ne_eq, not_true_eq_false, if_false]
  · rw [Chip.bucketLeak, if_neg (not_not_intro hlap)]
  · rw [Chip.graceExpiry, hfail]
    exact if_pos ⟨hm, by rw [hgrace]; rfl, hover⟩
  · simp only [Chip.resyncDone, hm, hlog, hhold]
    rfl
  · rw [Chip.rebuildSlotDone, hslot]
    simp only [hr, hpass, hopen]
    rfl
  · rw [Chip.priorityEnd, hitem]
    simp only [hpass, Bool.not_true, Bool.false_eq_true, if_false]
  · rw [Chip.drainDone, if_neg (by simp [hm, hdone])]
  · have hended : (!decide ((s.piste p).geom.rows ≤ r.copyMark)) = false := by simpa using hrows
    unfold Chip.copybackDone
    dsimp only
    split
    · next hnone => exact absurd (hfind.symm.trans hnone) (by simp)
    · next e' he =>
      obtain rfl : e = e' := Option.some.inj (hfind.symm.trans he)
      simp only [hslot, Option.getD_some, hg, Bool.false_eq_true, if_false, hended, hopen]
      rfl

/-! ### Sweeps -/

/-- A sweep that is over, none of its reads under way, ends with its summary. -/
theorem Chip.sweepEnd_of_over {c : Chip} {h : Nat} {w : Sweep} (hw : c.sweepOf h = some w) (hover : c.sweepOver w = true)
    (hidle : c.gathers.vals.any (fun g => decide (g.why = .check h)) = false) : c.sweepEnd h =
      let b := w.summary (if w.cancelled then 1 else if (c.sweepNext w).isNone then 0 else 2) c.clk.stride
      let d := c.onCqi (fun k => { k with sweeps := k.sweeps.filter (fun y => decide (y.handle ≠ h)), lastSummary := b })
      if w.cancelled then d.endHandle h 3 0x0108 b else d.endHandle h 1 0 b := by
  rw [Chip.sweepEnd, hw]
  simp only [hover, hidle]
  rfl

theorem Chip.sweepOver_of_cancelled {c : Chip} {w : Sweep} (h : w.cancelled = true) : c.sweepOver w = true := by
  simp [Chip.sweepOver, h]

/-! ### Forced grooming -/

theorem Chip.each_append {α : Type} (c : Chip) (l m : List α) (f : Chip → α → Chip) : c.each (l ++ m) f = (c.each l f).each m f :=
  List.foldl_append ..

/-- Members of a list that change nothing may be passed over. -/
theorem Chip.each_of_idle {α : Type} {f : Chip → α → Chip} {l : List α} (h : ∀ c, ∀ x ∈ l, f c x = c) (c : Chip) : c.each l f = c := by
  induction l generalizing c with
  | nil => rfl
  | cons a l ih =>
    have ha := h c a List.mem_cons_self
    have hl := ih (fun c x hx => h c x (List.mem_cons_of_mem a hx)) c
    rw [Chip.each, List.foldl_cons, ha]
    exact hl

/-- Where one member alone changes something, it is its change. -/
theorem Chip.each_of_one {α : Type} {f : Chip → α → Chip} {a b : List α} {x : α} (h : ∀ c, ∀ y ∈ a ++ b, f c y = c) (c : Chip) :
    c.each (a ++ x :: b) f = f c x := by
  rw [Chip.each_append, Chip.each_of_idle (fun c y hy => h c y (List.mem_append_left b hy))]
  exact Chip.each_of_idle (fun c y hy => h c y (List.mem_append_right a hy)) _

/-- Settles O27: a hold ends with or without dirty blocks, a sweep cancelled or not; of the pistes one alone has the forced grooming. -/
theorem sweepsAndHoldsEnd : Obligations.SweepsAndHoldsEnd := by
  refine ⟨fun s p q l hfind hlap hnone => s.effect_eq_left ?_, fun s p q l hfind hlap hsome => s.effect_eq_left ?_,
    fun s h w hw hover hc hidle => s.effect_eq_left ?_, fun s h w hw hc hidle => s.effect_eq_left ?_,
    fun s h p n slot x a b hlive hothers hforced hn hcancel => s.effect_eq_left ?_⟩
  · rw [Chip.lostHoldExpiry, hfind]
    refine (if_neg (Nat.not_lt.mpr hlap)).trans ?_
    simp only [hnone]
    rfl
  · rw [Chip.lostHoldExpiry, hfind]
    refine (if_neg (Nat.not_lt.mpr hlap)).trans ?_
    exact if_neg (by rwa [List.isEmpty_iff])
  · rw [Chip.sweepEnd_of_over hw hover hidle]
    simp only [hc, Bool.false_eq_true, if_false]
    rfl
  · rw [Chip.sweepEnd_of_over hw (Chip.sweepOver_of_cancelled hc) hidle]
    simp only [hc, if_true]
    rfl
  · rw [Chip.groomForceDone, hlive, Chip.each_of_one (fun c y hy => by simp only [hothers y hy])]
    have hcount : n < 2 ^ 33 := lt_of_le_of_lt hn (by decide)
    simp only [hforced, hcancel, if_pos hcount, decide_eq_true hn]
    rfl

end Sys2Proof.Machine
end

section
/-! The states of a piste (O28). -/

namespace Sys2Proof.Machine

/-! ### Shared: directory changes and ends of handles -/

/-- A directory change writes copies to members: what neither queues, sched nor dir hold stays. -/
theorem Chip.directoryChange_keeps {β : Type} (g : Chip → β) (hm : ∀ c slot x, g (Chip.setMember c slot x) = g c)
    (hs : ∀ c f, g (Chip.onSched c f) = g c) (hd : ∀ (c : Chip) d, g { c with dir := d } = g c) (c : Chip) :
    g c.directoryChange = g c := by
  rw [Chip.directoryChange, Chip.each_keeps g]
  · exact hd c _
  · exact fun c s => by rw [Chip.issueWrite, Chip.issue, hs, hm]

@[simp] theorem Chip.directoryChange_pistes (c : Chip) : c.directoryChange.pistes = c.pistes :=
  Chip.directoryChange_keeps Chip.pistes (fun _ _ _ => rfl) (fun _ _ => rfl) (fun _ _ => rfl) c

@[simp] theorem Chip.directoryChange_cache (c : Chip) : c.directoryChange.cache = c.cache :=
  Chip.directoryChange_keeps Chip.cache (fun _ _ _ => rfl) (fun _ _ => rfl) (fun _ _ => rfl) c

@[simp] theorem Chip.setHandle_quiet (c : Chip) (slot : Nat) (h : Handle) : (c.setHandle slot h).quiet = c.quiet := rfl

@[simp] theorem Chip.endHandle_quiet (c : Chip) (slot state status : Nat) (detail : Bytes) :
    (c.endHandle slot state status detail).quiet = c.quiet := by
  unfold Chip.endHandle
  dsimp only
  split <;> simp

theorem Chip.endHandle_pistes (c : Chip) (slot state status : Nat) (detail : Bytes) :
    (c.endHandle slot state status detail).pistes = c.pistes := Chip.of_quiet Chip.pistes (fun _ => rfl) (by simp)

theorem Chip.endHandle_cache (c : Chip) (slot state status : Nat) (detail : Bytes) :
    (c.endHandle slot state status detail).cache = c.cache := Chip.of_quiet Chip.cache (fun _ => rfl) (by simp)

theorem Chip.piste_setPiste_other (c : Chip) {j k : Nat} (h : j ≠ k) (x : Piste) : (c.setPiste k x).piste j = c.piste j :=
  KMap.getD_put_other _ _ _ _ _ h

/-- The end of a piste's handle leaves every other piste and the cache. -/
theorem Chip.endPisteHandle_others (c : Chip) (p status : Nat) (detail : Bytes) :
    (∀ q, q ≠ p → (c.endPisteHandle p status detail).piste q = c.piste q) ∧ (c.endPisteHandle p status detail).cache = c.cache := by
  unfold Chip.endPisteHandle
  dsimp only
  split
  · exact ⟨fun _ _ => rfl, rfl⟩
  · exact ⟨fun q hq => (Chip.piste_of_pistes (Chip.endHandle_pistes ..) q).trans (c.piste_setPiste_other hq _), Chip.endHandle_cache ..⟩

/-! ### The end of a piste (R67) -/

/-- What the end of a deletion leaves of the pistes and the cache. -/
theorem Chip.pisteDeleteDone_of_released {c : Chip} {p : Nat} (hs : (c.piste p).state = .deleting) (hl : (c.piste p).releaseLeft = 0)
    (hd : (c.piste p).dirGen ≤ c.dir.durable) :
    (c.pisteDeleteDone p).pistes = (c.endPisteHandle p 0 []).pistes.drop p ∧
    (c.pisteDeleteDone p).cache = { c.cache with
      blocks := c.cache.blocks.filter (fun b => decide (b.1 / 2 ^ 64 ≠ p))
      lostRanges := c.cache.lostRanges.filter (fun r => decide (r.piste ≠ p))
      lostStripes := c.cache.lostStripes.filter (fun r => decide (r.piste ≠ p)) } := by
  rw [Chip.pisteDeleteDone, if_neg (by simp [hs, hl, hd])]
  obtain ⟨-, hcache⟩ := c.endPisteHandle_others p 0 []
  exact ⟨Chip.directoryChange_pistes _, by rw [Chip.directoryChange_cache, ← hcache]; rfl⟩

/-! ### Command objects that run and stop a piste (R66, R69) -/

theorem exec_pisteStop_of_accepted {s : State} {p : Nat} {w : Writer} (h : s.commandReason 0x3020 p w (s.runReason p 0) = 0) :
    exec (.pisteStop p w) s = .next (s.left ((s.logChange 0x3020 p w 0 0 0 0 false).runAct p 0)) :=
  s.effect_eq_left (Chip.command_of_accepted h 0 _)

theorem exec_pisteStart_of_accepted {s : State} {p : Nat} {w : Writer} (h : s.commandReason 0x3020 p w (s.runReason p 1) = 0) :
    exec (.pisteStart p w) s = .next (s.left ((s.logChange 0x3020 p w 0 0 0 1 false).runAct p 1)) :=
  s.effect_eq_left (Chip.command_of_accepted h 1 _)

/-! ### Durable directory changes (R68) -/

/-- A piste whose change is in generation `g` or before, once that is durable. -/
def Piste.madeDurable (x : Piste) (g : Nat) : Piste :=
  if x.dirGen ≤ g then
    { x with
      name := x.newName.getD x.name
      newName := none
      fall := { x.fall with durable := x.fall.saved }
      rebuildDurable := x.rebuildSaved
      rebuild := { x.rebuild with slots := x.rebuild.slots.map (fun r => { r with copyDurable := r.copySaved }) } }
  else x

theorem Chip.directoryDurable_of_copied {c : Chip} {g : Nat} (hnew : c.dir.durable < g) (hg : g ≤ c.dir.generation)
    (hcopies : min 3 c.directoryMembers.length ≤ (c.dir.copies.getD g []).length) : c.directoryDurable g = { c with
      dir := { c.dir with
        durable := g, copies := c.dir.copies.filter (fun e => decide (g ≤ e.1)), images := c.dir.images.filter (fun e => decide (g ≤ e.1)) }
      pistes := c.pistes.mapVal (fun _ x => x.madeDurable g) } := by
  rw [Chip.directoryDurable, if_neg (by omega)]
  rfl

/-- Settles O28: each change of state is one branch; the directory's copies make the pistes' changes durable. -/
theorem pistesChangeState : Obligations.PistesChangeState := by
  refine ⟨fun s p hs hz => s.effect_eq_left ?_, fun s p hs hd hj hc => s.effect_eq_left ?_,
    fun s p hs hl hd => ⟨_, s.effect_left _, ?_⟩, fun s p w h => exec_pisteStop_of_accepted h, fun s p w h => exec_pisteStart_of_accepted h,
    fun s g hnew hg hcopies => ⟨_, s.effect_left _, ?_⟩, fun s p hg h3 hh hf hdur hj hgat => s.effect_eq_left ?_,
    fun s p hg h3 hf => s.effect_eq_left ?_, fun s p h2 hslots hmem => s.effect_eq_left ?_⟩
  · rw [Chip.zeroingDone, if_neg (by simp [hs, hz])]
  · rw [Chip.pisteStopped, if_neg (by simp only [hs, hd, hj, hc]; decide)]
  · obtain ⟨hpistes, hcache⟩ := Chip.pisteDeleteDone_of_released hs hl hd
    obtain ⟨hothers, -⟩ := s.endPisteHandle_others p 0 []
    simp only [State.left_cache, hcache, Chip.piste, State.left_pistes, hpistes]
    refine ⟨?_, fun q hq => ?_, trivial, trivial⟩
    · rw [KMap.getD, KMap.find_drop_same]
      rfl
    · rw [KMap.getD, KMap.find_drop_other _ _ _ hq]
      exact hothers q hq
  · rw [Chip.directoryDurable_of_copied hnew hg hcopies]
    refine ⟨State.left_dir .., State.left_members .., State.left_cache .., fun p x hx hgen => ?_⟩
    simp only [Chip.piste, State.left_pistes, KMap.getD, KMap.find_mapVal, hx, Option.map_some, Option.getD_some, Piste.madeDurable,
      if_pos hgen, and_self]
  · rw [Chip.reshapeFinish]
    simp only [hg, h3, hf, hj, hgat, hh, Nat.not_lt.mpr hdur, decide_false]
    rfl
  · rw [Chip.reshapeFinish]
    simp only [hg, h3, hf]
    rfl
  · exact if_pos ⟨h2, (Bool.and_eq_true _ _).mpr ⟨hslots, hmem⟩⟩

end Sys2Proof.Machine
end

section
/-! The data commands begin (O29). -/

namespace Sys2Proof.Machine

theorem Chip.beginRead_of_whole {c : Chip} {q cid : Nat} {x : Cmd} (h : c.freshCmd q cid 1 = some x) (hseg : x.segment = none) :
    c.beginRead q cid = (c.continueRead x).pumpReads.flushHeld := by
  simp only [Chip.beginRead, h, hseg]

/-- A read with segments left asks for the next. -/
theorem Chip.beginRead_of_segment {c : Chip} {q cid a n : Nat} {x : Cmd} (h : c.freshCmd q cid 1 = some x)
    (hseg : x.segment = some (a, n)) :
    c.beginRead q cid = ((c.wantRead (.segment x.acc 0) a (16 * n)).continueRead x).pumpReads.flushHeld := by
  simp only [Chip.beginRead, h, hseg]

theorem Chip.continueRead_of_overlap {c : Chip} {x : Cmd} (h : (c.earlierWrites x).isEmpty = false) :
    c.continueRead x = c.putCmd { x with stage := .waitOverlap } := by
  rw [Chip.continueRead, if_pos (by rw [h]; rfl)]

theorem Chip.beginWrite_of_fresh {c : Chip} {q cid opcode : Nat} {x : Cmd} (h : c.freshCmd q cid opcode = some x) :
    c.beginWrite q cid opcode = (c.startWrite x).pumpHost := by rw [Chip.beginWrite, h]

/-- A write that the gate does not pass waits at an empty gate, and the host is told. -/
theorem Chip.toGate_of_shut {c : Chip} {x : Cmd} (hg : c.gated = []) (ht : (c.asMode x).through = false)
    (hn : c.gateNeed (c.asMode x) ≠ 0) (hp : c.gatePasses (c.gateNeed (c.asMode x)) = false) :
    c.toGate x = ((c.bump 0x241B).putCmd { c.asMode x with stage := .gated }).ltrCheck := by
  simp only [Chip.toGate, hg, ht, hn, hp, Bool.false_eq_true, if_false, false_and, List.isEmpty_nil, if_true, Bool.and_false]

/-- Settles O29: a fresh command is found by its opcode and begun. -/
theorem dataCommandsBegin : Obligations.DataCommandsBegin := by
  refine ⟨fun s q cid x h hseg hover => s.effect_eq_left ?_,
    fun s q cid x h hseg _ => s.effect_eq_left (Chip.beginRead_of_whole h hseg),
    fun s q cid a n x h hseg => s.effect_eq_left (Chip.beginRead_of_segment h hseg),
    fun s q cid x h => s.effect_eq_left (Chip.beginWrite_of_fresh h), fun s x hg ht hn hp => Chip.toGate_of_shut hg ht hn hp,
    fun s q cid x h => s.effect_eq_left ?_,
    fun s q cid x h => s.effect_eq_left (Chip.beginWrite_of_fresh h), fun s q cid x h => s.effect_eq_left (Chip.beginWrite_of_fresh h)⟩
  · rw [Chip.beginRead_of_whole h hseg, Chip.continueRead_of_overlap hover]
  · rw [Chip.beginFlush, h]

end Sys2Proof.Machine
end

section
/-! Commands of queue 0: the short ones answer (O30), the long-running ones take a handle (O31). -/

namespace Sys2Proof.Machine

/-! ### The entry at the head of queue 0 -/

/-- A command whose entry stands at queue 0's head, checked and complete, is run. -/
theorem Chip.admin_of_heads {s : State} {op cid : Nat} {f : Fetched} (h : Heads s op cid f) (run : Chip → Fetched → Sub → Chip) :
    s.admin op cid run = run s.toChip f (parseSub f.bytes) := by
  obtain ⟨hhead, hop, hcid, hq, hcheck, hphase, hst, hbr⟩ := h
  have hready : (decide ((parseSub f.bytes).mode = 2) || (parseSub f.bytes).needsData) = false ∨ f.phase = 3 := by
    rcases hphase with h3 | ⟨hmode, hdata⟩
    · exact .inr h3
    · exact .inl (by simp [hmode, hdata])
  rw [Chip.admin, hhead]
  simp only [hop, hcid, hq, hcheck, hst, hbr]
  rcases hready with hw | h3
  · simp [hw]
  · simp [h3]

/-- A long command whose handle is free begins with it. -/
theorem Chip.longCommand_of_free {c : Chip} {f : Fetched} {h : Nat} (hfree : c.freeHandle = some h) (p : Nat) (start : Chip → Nat → Chip) :
    c.longCommand f (parseSub f.bytes) p start = (start (c.begun f p h) h).heads 0 := by
  unfold Chip.longCommand
  rw [hfree]
  dsimp only
  rw [Chip.begun]

/-- A handle that does not run is queried as it is recorded. -/
theorem Chip.queried_of_ended {c : Chip} {h : Handle} (hs : h.state ≠ 0) : c.queried h = (h, c) := if_neg hs

/-- An opcode that the queue of an ACTIVE unit does not know is the first thing found wrong. -/
theorem Chip.checkSub_of_unknown {c : Chip} {q : Nat} {s : Sub} (hu : c.cqi.unitState = 1) (hh : c.pair.handover = false)
    (hop : opcodeAllowed q s.opcode = false) : c.checkSub q s = some (0x0101, 0) := by
  simp only [Chip.checkSub, hu, hh, hop]
  rfl

/-- Settles O30: the entry is run, and its answer is the branch the conditions choose. -/
theorem shortCommandsAnswer : Obligations.ShortCommandsAnswer := by
  refine ⟨fun s cid f hh hfind => s.effect_eq_left ?_, fun s cid f x hh hfind hend => s.effect_eq_left ?_,
    fun s cid f x hh hfind hend => s.effect_eq_left ?_, fun s cid f hh => s.effect_eq_left (Chip.admin_of_heads hh _),
    fun s cid f b hh hread => s.effect_eq_left ?_, fun s cid f o hh hobj hpass hwait => ?_,
    fun s cid f hh hv hval hst => s.effect_eq_left ?_, fun s cid f hh hno => s.effect_eq_left ?_,
    fun s cid f hh hno => s.effect_eq_left ?_, fun s cid f hh hv hval hst hkind => s.effect_eq_left ?_,
    fun s cid f hh hv hval hst hc hkind => s.effect_eq_left ?_, fun s q f hhead hq hu hho hop => s.effect_eq_left ?_⟩
  · rw [Chip.abort, Chip.admin_of_heads hh]
    simp only [hfind]
  · rw [Chip.abort, Chip.admin_of_heads hh]
    simp only [hfind, hend, if_true]
  · rw [Chip.abort, Chip.admin_of_heads hh]
    simp only [hfind, hend, Bool.false_eq_true, if_false]
  · rw [Chip.dictRead, Chip.admin_of_heads hh]
    simp only [hread, Option.getD_some]
  · have hdict : s.dictWrite cid = _ := Chip.admin_of_heads hh _
    simp only [hobj, hpass, hwait, List.any_nil, Bool.false_and, Bool.false_eq_true, if_false] at hdict
    refine (s.resetEffect_left _).trans ?_
    rw [hdict]
  · rw [Chip.handleQuery, Chip.admin_of_heads hh]
    simp only [if_pos (And.intro hv hval), Chip.queried_of_ended hst]
  · rw [Chip.handleQuery, Chip.admin_of_heads hh]
    exact if_neg (by tauto)
  · rw [Chip.handleCancel, Chip.admin_of_heads hh]
    exact if_pos hno
  · rw [Chip.handleCancel, Chip.admin_of_heads hh]
    refine (if_neg (by tauto)).trans (if_pos ?_)
    simp only [List.mem_cons, List.not_mem_nil] at hkind
    simp only [Bool.not_eq_true', decide_eq_false_iff_not]
    tauto
  · rw [Chip.handleCancel, Chip.admin_of_heads hh]
    refine (if_neg (by tauto)).trans ((if_neg ?_).trans (if_neg (by rw [hc]; decide)))
    simp only [List.mem_cons, List.not_mem_nil] at hkind
    simp only [Bool.not_eq_true', decide_eq_false_iff_not]
    tauto
  · rw [Chip.undefinedOpcode, hhead]
    simp only [Chip.checkSub_of_unknown hu hho hop]
    exact if_neg (by simp [hop, hq])

/-! ### Descriptors whose checks pass -/

/-- A creation in this unit alone whose numbered checks pass is begun. -/
theorem Chip.finishCreate_of_passed {c : Chip} {f : Fetched} {h : Nat} (hspan : (parseDesc f.host).spanning = false)
    (hmine : firstFailed [c.check4 (decide ((parseDesc f.host).ty = 1)) false (stripBlocks (parseDesc f.host).strip) 0 (parseDesc f.host).list,
      c.check5 (parseDesc f.host), (c.chooseExtentFor (parseDesc f.host)).2.failed] = none)
    (h7 : c.check7 (parseDesc f.host) = none) (hfree : (c.chooseExtentFor (parseDesc f.host)).1.freeHandle = some h) :
    c.finishCreate f (parseSub f.bytes) 0 = (((c.chooseExtentFor (parseDesc f.host)).1.begun f 0xFF h).createPiste (parseDesc f.host)
      (c.chooseExtentFor (parseDesc f.host)).2 h).heads 0 := by
  simp only [Chip.finishCreate, Chip.finishCreateWith, hspan, hmine, if_true, lowerFailed, h7, Chip.longCommand_of_free hfree]

/-- A reshape whose numbered checks pass is begun. -/
theorem Chip.finishReshape_of_passed {c : Chip} {f : Fetched} {h p : Nat} {d : ReshapeDesc} (hp : (parseSub f.bytes).piste = p)
    (hd : parseReshape f.host (c.piste p) = d) (hmine : firstFailed [c.reshapeChecks (c.piste p) d, (c.reshapeExtent (c.piste p) d).2.2] = none)
    (hfree : (c.reshapeExtent (c.piste p) d).1.freeHandle = some h) :
    c.finishReshape f (parseSub f.bytes) 0 =
      (((c.reshapeExtent (c.piste p) d).1.begun f p h).beginReshape p d (c.reshapeExtent (c.piste p) d).2.1 h).heads 0 := by
  simp only [Chip.finishReshape, hp, hd, hmine, if_true, lowerFailed, Chip.longCommand_of_free hfree]

/-- Settles O31: the entry is run, its checks pass, and the long command takes the free handle. -/
theorem longCommandsTakeAHandle : Obligations.LongCommandsTakeAHandle := by
  refine ⟨fun s cid h f hh _ hres h123 hspan hchecks hmine h7 hfree => s.effect_eq_left ?_,
    fun s cid h f hh hfree => s.effect_eq_left ?_,
    fun s cid h f hh hres hrest hspan hchecks hmine hfree => s.effect_eq_left ?_,
    fun s cid h f hh hfree heven hsome => s.effect_eq_left ?_, fun s cid h f hh hfree => s.effect_eq_left ?_,
    fun s cid h f hh hfree => s.effect_eq_left ?_, fun s cid h f hh hfree hdrain => s.effect_eq_left ?_,
    fun s cid h f hh hfree hadd => s.effect_eq_left ?_, fun s cid h f hh hfree hsup hup himg => s.effect_eq_left ?_⟩
  · rw [Chip.pisteCreate, Chip.admin_of_heads hh]
    simp only [hres, h123, hchecks, hspan, List.any_nil, Bool.false_eq_true, if_false, false_and]
    exact Chip.finishCreate_of_passed hspan hmine h7 hfree
  · rw [Chip.pisteDelete, Chip.admin_of_heads hh, Chip.longCommand_of_free hfree]
  · rw [Chip.pisteReshape, Chip.admin_of_heads hh]
    simp only [hres, hrest, hchecks, hspan, List.any_nil, Bool.false_eq_true, if_false, false_and, and_false, Bool.not_true]
    exact Chip.finishReshape_of_passed rfl rfl hmine hfree
  · rw [Chip.rebuildStart, Chip.admin_of_heads hh]
    simp only [hsome, heven, Bool.false_eq_true, if_false, Nat.zero_ne_one, Chip.longCommand_of_free hfree]
  · rw [Chip.beginSweep, Chip.admin_of_heads hh, Chip.longCommand_of_free hfree]
  · rw [Chip.groomForce, Chip.admin_of_heads hh]
    exact Chip.longCommand_of_free hfree _ _
  · rw [Chip.memberRemove, Chip.admin_of_heads hh]
    simp only [hdrain, Bool.not_true, Bool.false_eq_true, if_false, Chip.longCommand_of_free hfree]
  · rw [Chip.memberAdd, Chip.admin_of_heads hh]
    simp only [hadd, Bool.not_true, Bool.false_eq_true, if_false, Chip.longCommand_of_free hfree]
  · rw [Chip.vaultTest, Chip.admin_of_heads hh]
    simp only [hsup, hup, himg, ne_eq, not_true_eq_false, Bool.not_true, Bool.false_eq_true, or_self, if_false, Chip.longCommand_of_free hfree]

end Sys2Proof.Machine
end

section
/-! Doorbells and enables (O32), register writes and the ends of host reads (O33). -/

namespace Sys2Proof.Machine

/-! ### Writes of BAR0 -/

theorem Chip.barWrite_of_open {c : Chip} (h : c.barOpen = true) (f : Chip → Chip) : c.barWrite f = f c := if_pos h

/-- A closed BAR of a ready port answers with an error that is counted (R235, R240). -/
theorem Chip.barWrite_of_closed {c : Chip} (h : c.barOpen = false) (hr : c.host.ready = true) (f : Chip → Chip) :
    c.barWrite f = c.bump 0x1853 := by
  rw [Chip.barWrite, if_neg (by rw [h]; decide), if_pos hr]

/-- Settles O32: each write of an open BAR is one branch of its definition. -/
theorem doorbellsAndEnablesMoveTheQueues : Obligations.DoorbellsAndEnablesMoveTheQueues := by
  refine ⟨fun s q v r hopen hq he hv => s.effect_eq_left ((Chip.barWrite_of_open hopen _).trans ?_),
    fun s q v r hopen hq he hv => s.effect_eq_left ((Chip.barWrite_of_open hopen _).trans ?_),
    fun s q v r hclosed hready => ⟨s.effect_eq_left (Chip.barWrite_of_closed hclosed hready _),
      s.effect_eq_left (Chip.barWrite_of_closed hclosed hready _), s.effect_eq_left (Chip.barWrite_of_closed hclosed hready _),
      s.effect_eq_left (Chip.barWrite_of_closed hclosed hready _)⟩,
    fun s q v hopen hpos hq he hv hpass => s.effect_eq_left ((Chip.barWrite_of_open hopen _).trans ?_),
    fun s q v hopen hq he h3 hv => s.effect_eq_left ((Chip.barWrite_of_open hopen _).trans ?_),
    fun s q hopen hq he hfit h0 => s.effect_eq_left ((Chip.barWrite_of_open hopen _).trans ?_),
    fun s q hopen hq he hfit => s.effect_eq_left ((Chip.barWrite_of_open hopen _).trans ?_),
    fun s q hopen hpos hq he => s.effect_eq_left ((Chip.barWrite_of_open hopen _).trans ?_),
    fun s q he hcmds hheld => s.effect_eq_left ?_,
    fun s b hopen => ⟨s.effect_eq_left (Chip.barWrite_of_open hopen _), s.effect_eq_left (Chip.barWrite_of_open hopen _)⟩⟩
  · rw [Chip.sqTail, if_neg (by simp [he, hq]), if_neg (Nat.not_le.mpr hv)]
  · rw [Chip.sqTail, if_neg (by simp [he, hq]), if_pos hv]
  · rw [Chip.cqHeadWrite, if_neg (by simp [he, hq]), if_neg (by simp [hv, hpass])]
    simp only [hpos.ne', if_false]
  · rw [Chip.cqHeadWrite, if_neg (by simp [he, hq]), if_pos (by simp [hv]), if_neg h3]
  · rw [Chip.queueEnable, if_neg (by simp [he, hq]), if_pos (by simpa [hfit] using h0)]
  · rw [Chip.queueEnable, if_neg (by simp [he, hq]), if_neg (by simp [hfit])]
  · rw [Chip.queueDisable, if_neg (Nat.not_le.mpr hq), if_neg (fun h => hpos.ne' h.1), if_pos (.inl he)]
    simp only [hpos.ne', false_and, if_false, he, decide_true, Bool.true_or]
  · rw [Chip.queueDrained, if_neg (by simp only [he, hcmds, hheld]; simp)]

/-! ### The base addresses (R219) -/

theorem leNat_append (a b : Bytes) : leNat (a ++ b) = leNat a + 256 ^ a.length * leNat b := by
  induction a with
  | nil => simp [leNat]
  | cons x a ih =>
    simp only [List.cons_append, leNat, ih, List.length_cons, pow_succ]
    ring

/-- A write of all ones leaves the size's complement in a BAR's lower half. -/
theorem barBase_ones (size old : Nat) : ∃ upper, barBase size old 0 (2 ^ 32 - 1) = (2 ^ 32 - 1 + 2 ^ 32 * upper) / size * size := by
  refine ⟨leNat ((leBytes 8 old).drop 4), ?_⟩
  have hlow : leNat (leBytes 4 (2 ^ 32 - 1)) = 2 ^ 32 - 1 := leNat_leBytes 4 _ (by decide)
  rw [barBase, patch, leNat_append, leNat_append, hlow, List.length_append, length_leBytes]
  simp [slice, leNat]

theorem writeBar_ones_bar0 (h : HostPort) : (h.writeBar 0 (2 ^ 32 - 1)).bar0 % 2 ^ 32 = 2 ^ 32 - 2 ^ 27 := by
  obtain ⟨upper, hbase⟩ := barBase_ones (2 ^ 27) h.bar0
  have hbar : (h.writeBar 0 (2 ^ 32 - 1)).bar0 = barBase (2 ^ 27) h.bar0 0 (2 ^ 32 - 1) := rfl
  rw [hbar, hbase]
  omega

theorem writeBar_ones_bar4 (h : HostPort) : (h.writeBar 4 (2 ^ 32 - 1)).bar4 % 2 ^ 32 = 2 ^ 32 - 2 ^ 20 := by
  obtain ⟨upper, hbase⟩ := barBase_ones (2 ^ 20) h.bar4
  have hbar : (h.writeBar 4 (2 ^ 32 - 1)).bar4 = barBase (2 ^ 20) h.bar4 0 (2 ^ 32 - 1) := rfl
  rw [hbar, hbase]
  omega

/-- A write of the function mask's bit sets the mask, or clears it and releases the pending vectors. -/
theorem Chip.registerWrite_functionMask (c : Chip) (size v : Nat) :
    c.registerWrite .msixFunctionMask size (2 * v + 1) = c.onHost (fun h => { h with msixMask := true }) ∧
      c.registerWrite .msixFunctionMask size (2 * v) = c.msixUnmask none := by
  have hodd : (2 * v + 1) % 2 = 1 := by omega
  have heven : ¬ 2 * v % 2 = 1 := by omega
  exact ⟨if_pos hodd, if_neg heven⟩

/-- Settles O33: a register's value is taken by its branch; a read ends by its tag and outcome. -/
theorem hostReadsEnd : Obligations.HostReadsEnd := by
  refine ⟨fun s size v => ⟨s.effect_left _, s.effect_left _, s.effect_left _, s.effect_left _, s.effect_left _, s.effect_left _,
      s.effect_left _, s.effect_left _, s.effect_left _, s.effect_eq_left (s.registerWrite_functionMask size v).1,
      s.effect_eq_left (s.registerWrite_functionMask size v).2, s.effect_left _⟩,
    fun s off size v hopen => ⟨s.effect_eq_left (Chip.barWrite_of_open hopen (fun c => c.bar0Write off size v)),
      s.effect_eq_left (Chip.barWrite_of_open hopen (fun c => c.bar4Write off size v))⟩,
    fun s n size v => ⟨⟨_, s.effect_left _, State.left_host .., ?_⟩, writeBar_ones_bar0 s.host, writeBar_ones_bar4 s.host, rfl, rfl⟩,
    fun s hen hopen => s.effect_eq_left ?_, fun s tag b r hfind => s.effect_eq_left ?_, fun s tag r hfind => s.effect_eq_left ?_,
    fun s tag out hfind => s.effect_eq_left ?_, fun s tag r hfind => s.effect_eq_left ?_, fun s tag => s.effect_left _⟩
  · exact ⟨State.left_members .., State.left_gathers .., State.left_pistes .., State.left_cache .., State.left_journal ..,
      State.left_logs .., State.left_sched .., State.left_dir ..⟩
  · rw [Chip.submissionFetch, hen, hopen]
    rfl
  · rw [Chip.hostReadCompletion, hfind]
    rfl
  · rw [Chip.hostReadCompletion, hfind]
    rfl
  · rw [Chip.hostReadCompletion, hfind]
  · rw [Chip.completionTimeout, hfind]
    rfl

end Sys2Proof.Machine
end

section
/-! The dictionary through the window and the mailbox, MSI-X (O34); the host port closes, opens and resets (O35). -/

namespace Sys2Proof.Machine

/-! ### Shared: what the state a command leaves keeps -/

/-- The parts of the data side stand in the state a command leaves where its effect keeps them. -/
theorem dataStands_left {s : State} {c : Chip} (h : dataStands s { s with toChip := c }) : dataStands s (s.left c) := by
  simpa only [dataStands, State.left_members, State.left_gathers, State.left_pistes, State.left_cache, State.left_journal, State.left_logs,
    State.left_sched, State.left_dir] using h

/-- The state a command that may reset leaves, by the chip its effect comes to. -/
theorem State.resetEffect_eq_left (s : State) {f : Chip → Chip} {c : Chip} (h : f s.toChip = c) :
    s.resetEffect f = Host.Outcome.next (s.resetLeft c) := by rw [s.resetEffect_left, h]

/-- What an effect sends is among what has left the chip. -/
theorem State.mem_left_out {s : State} {c : Chip} {o : Output} (h : o ∈ c.out) : o ∈ (s.left c).out := Chip.afterCommand_mem_out _ _ _ h

@[simp] theorem State.left_queue (s : State) (c : Chip) (q : Nat) : (s.left c).queue q = c.queue q :=
  congrArg (fun k : Cqi => k.queues.getD q QueuePair.reset) (State.left_cqi s c)

@[simp] theorem State.left_msixEntry (s : State) (c : Chip) (v : Nat) : (s.left c).msixEntry v = c.msixEntry v :=
  congrArg (fun h : HostPort => h.msix.getD v MsixEntry.reset) (State.left_host s c)

@[simp] theorem State.left_member (s : State) (c : Chip) (k : Nat) : (s.left c).member k = c.member k :=
  Chip.member_of_members (State.left_members s c) k

@[simp] theorem State.left_piste (s : State) (c : Chip) (p : Nat) : (s.left c).piste p = c.piste p :=
  Chip.piste_of_pistes (State.left_pistes s c) p

/-! ### The mailbox -/

/-- Bytes stored from place 0 on are read back, the places after them stand. -/
theorem KMap.getD_foldl_store {β : Type} [DecidableEq β] (f : Nat → β) (d : β) (n : Nat) (m : KMap β) (i : Nat) :
    ((List.range n).foldl (fun k j => k.store j (f j) d) m).getD i d = if i < n then f i else m.getD i d := by
  induction n with
  | zero => rfl
  | succ n ih =>
    rw [List.range_succ, List.foldl_append, List.foldl_cons, List.foldl_nil]
    by_cases h : i = n
    · subst h
      rw [KMap.getD_store_same, if_pos (Nat.lt_succ_self i)]
    · have hlt : i < n ↔ i < n + 1 := by omega
      rw [KMap.getD_store_other _ _ _ _ _ h, ih]
      simp only [hlt]

/-- A mailbox READ that may start and whose object is there. -/
theorem Chip.mailboxRead_of_found {c : Chip} {b : Bytes} (hop : c.host.mailbox.op = 1) (hst : c.host.mailbox.status ≠ 1)
    (hs : c.served c.host.mailbox.index = true) (hr : c.readObject c.host.mailbox.index c.host.mailbox.sub = some b) :
    c.mailboxRead =
      let m := c.host.mailbox
      let n := c.dict.changes.getD (objKey m.index m.sub) 0
      let l := (b.drop m.offset).take m.length
      if !m.ok ∨ b.length < m.offset then c.mailboxEnd 5 0 b.length 0 n 0
      else (c.onHost (fun h => { h with mailbox := { h.mailbox with
        buffer := (List.range l.length).foldl (fun k i => k.store i (byteAt l i) 0) h.mailbox.buffer } })).mailboxEnd 2 0 b.length l.length n 0 := by
  simp only [Chip.mailboxRead, hop, hst, hs, hr, ne_eq, not_true_eq_false, if_false, if_true]

/-- A mailbox operation that finds an earlier one under way is counted. -/
theorem Chip.mailboxRead_of_busy {c : Chip} (hst : c.host.mailbox.status = 1) (hop : c.host.mailbox.op = 1) :
    c.mailboxRead = c.bump 0x1841 := by
  simp only [Chip.mailboxRead, hop, hst, ne_eq, not_true_eq_false, if_false, if_true]

theorem Chip.mailboxWrite_of_busy {c : Chip} (hst : c.host.mailbox.status = 1) (hop : c.host.mailbox.op = 2) (r : Nat) :
    c.mailboxWrite r = c.bump 0x1841 := by
  simp only [Chip.mailboxWrite, hop, hst, ne_eq, not_true_eq_false, if_false, if_true]

/-! ### MSI-X -/

@[simp] theorem Chip.msixEntry_setMsix_same (c : Chip) (v : Nat) (e : MsixEntry) : (c.setMsix v e).msixEntry v = e := KMap.getD_put_same ..

/-- An unmasked vector that is pending is sent. -/
theorem Chip.msixRelease_of_pending {c : Chip} {v : Nat} (hp : (c.msixEntry v).pending = true) (hm : (c.msixEntry v).mask = false)
    (hf : c.host.msixMask = false) (he : c.host.msixEnable = true) : c.msixRelease v =
      (c.setMsix v { c.msixEntry v with pending := false }).emit (.msix v (c.msixEntry v).address (c.msixEntry v).data) := by
  rw [Chip.msixRelease, if_pos (by rw [hp, hm, hf, he]; rfl)]

theorem Chip.msixRelease_of_idle {c : Chip} {v : Nat} (h : (c.msixEntry v).pending = false ∨ c.host.msixMask = true ∨ c.host.msixEnable = false) :
    c.msixRelease v = c := by
  refine if_neg ?_
  rcases h with h | h | h <;> simp [h]

/-! ### Writes through the window and the mailbox -/

/-- A write through the window, of the bytes `b` that its object takes, goes to the holder or to the dictionary. -/
theorem Chip.windowWrite_of_bytes {c : Chip} {off size v r index sub : Nat} {b : Bytes} (hlo : 0x1000000 ≤ off) (hhi : off < 0x4000000)
    (hindex : index = 0x1000 + (off - 0x1000000) / 0x800) (hsub : sub = off % 0x800 / 8)
    (hb : (c.object index sub).elim [] (fun o => windowValue o off size v) = b) :
    c.windowWrite off size v r =
      let w : Writer := { origin := .host, route := .window, originId := hostId r }
      let t := c.dictTake index sub b (v % 2 ^ 64) w
      if c.passesOn index sub && !b.isEmpty then c.passOn index sub b w 0 none
      else t.act (if t.reason = 0 then t.chip else t.chip.bump 0x1840) := by
  rw [Chip.windowWrite, if_neg (by omega)]
  cases hobj : c.object index sub with
  | none => simp only [← hindex, ← hsub, hobj, ← hb, Option.elim_none]
  | some o => simp only [← hindex, ← hsub, hobj, ← hb, Option.elim_some]

/-- A mailbox WRITE, its object of `len` bytes, is out of range, goes to the holder or to the dictionary. -/
theorem Chip.mailboxWrite_of_length {c : Chip} {r len : Nat} (hop : c.host.mailbox.op = 2) (hst : c.host.mailbox.status ≠ 1)
    (hlen : (c.object c.host.mailbox.index c.host.mailbox.sub).elim 0 Obj.len = len) :
    c.mailboxWrite r =
      let m := c.host.mailbox
      let w : Writer := { origin := .host, route := .mailbox, originId := hostId r }
      let t := c.dictTake m.index m.sub (m.bytes m.length) (leNat ((m.bytes m.length).take 8)) w
      let status := if t.reason = 0 then 2 else if t.reason = 1 then 3 else if t.reason = 4 ∧ m.length ≠ len then 5 else 4
      if m.ok = false then c.mailboxEnd 5 0 len 0 0 0
      else if c.passesOn m.index m.sub then (c.mailboxEnd 1 0 len 0 0 0).passOn m.index m.sub (m.bytes m.length) w 0 none
      else t.act (t.chip.mailboxEnd status (if status = 4 then t.reason else 0) len 0
        (t.chip.dict.changes.getD (objKey m.index m.sub) 0) t.chip.newestLog) := by
  rw [Chip.mailboxWrite]
  refine (if_neg (not_not_intro hop)).trans ((if_neg hst).trans ?_)
  cases hobj : c.object c.host.mailbox.index c.host.mailbox.sub with
  | none => simp only [hobj, ← hlen, Option.elim_none, Bool.not_eq_true']
  | some o => simp only [hobj, ← hlen, Option.elim_some, Bool.not_eq_true']

/-- A mailbox READ of an object that is there, within its value, stores the bytes asked for. -/
theorem Chip.mailboxRead_of_fit {c : Chip} {b : Bytes} (hop : c.host.mailbox.op = 1) (hst : c.host.mailbox.status ≠ 1)
    (hok : c.host.mailbox.ok = true) (hs : c.served c.host.mailbox.index = true)
    (hr : c.readObject c.host.mailbox.index c.host.mailbox.sub = some b) (hoff : c.host.mailbox.offset ≤ b.length) :
    c.mailboxRead =
      let m := c.host.mailbox
      let l := (b.drop m.offset).take m.length
      (c.onHost (fun h => { h with mailbox := { h.mailbox with
        buffer := (List.range l.length).foldl (fun k i => k.store i (byteAt l i) 0) h.mailbox.buffer } })).mailboxEnd 2 0 b.length l.length
        (c.dict.changes.getD (objKey m.index m.sub) 0) 0 := by
  rw [Chip.mailboxRead_of_found hop hst hs hr]
  exact if_neg (by simp [hok, hoff])

theorem Chip.mailboxRead_of_absent {c : Chip} (hop : c.host.mailbox.op = 1) (hst : c.host.mailbox.status ≠ 1)
    (hno : c.served c.host.mailbox.index = false ∨ c.readObject c.host.mailbox.index c.host.mailbox.sub = none) :
    c.mailboxRead = c.mailboxEnd 3 0 0 0 0 0 := by
  have hnone : (if c.served c.host.mailbox.index then c.readObject c.host.mailbox.index c.host.mailbox.sub else none) = none := by
    rcases hno with h | h <;> simp [h]
  simp only [Chip.mailboxRead, hop, hst, hnone, ne_eq, not_true_eq_false, if_false]

/-- The bytes a mailbox READ stores are those of the object from its offset on; the rest of the buffer stands. -/
theorem leads_mailboxRead {s : State} {b : Bytes} (hopen : s.barOpen = true) (hop : s.host.mailbox.op = 1) (hst : s.host.mailbox.status ≠ 1)
    (hok : s.host.mailbox.ok = true) (hs : s.served s.host.mailbox.index = true)
    (hr : s.readObject s.host.mailbox.index s.host.mailbox.sub = some b) (hoff : s.host.mailbox.offset ≤ b.length) :
    let l := (b.drop s.host.mailbox.offset).take s.host.mailbox.length
    Leads .mailboxRead s (fun t => t.host.mailbox.status = 2 ∧ t.host.mailbox.objectLength = b.length ∧ t.host.mailbox.returned = l.length ∧
      t.host.mailbox.reason = 0 ∧ t.host.mailbox.changes = s.dict.changes.getD (objKey s.host.mailbox.index s.host.mailbox.sub) 0 ∧
      (∀ i, i < l.length → t.host.mailbox.buffer.getD i 0 = byteAt l i) ∧
      (∀ i, l.length ≤ i → t.host.mailbox.buffer.getD i 0 = s.host.mailbox.buffer.getD i 0) ∧ dataStands s t) := by
  refine ⟨_, s.effect_eq_left ((Chip.barWrite_of_open hopen _).trans (Chip.mailboxRead_of_fit hop hst hok hs hr hoff)), ?_⟩
  simp only [State.left_host]
  refine ⟨rfl, rfl, rfl, rfl, rfl, fun i hi => ?_, fun i hi => ?_, dataStands_left ⟨rfl, rfl, rfl, rfl, rfl, rfl, rfl, rfl⟩⟩
  · exact (KMap.getD_foldl_store _ _ _ _ _).trans (if_pos hi)
  · exact (KMap.getD_foldl_store _ _ _ _ _).trans (if_neg (Nat.not_lt.mpr hi))

theorem Chip.msixUnmask_of_idle {c : Chip} {v : Nat}
    (h : (c.msixEntry v).pending = false ∨ c.host.msixMask = true ∨ c.host.msixEnable = false) :
    c.msixUnmask (some v) = c.setMsix v { c.msixEntry v with mask := false } := by
  refine Chip.msixRelease_of_idle ?_
  rw [Chip.msixEntry_setMsix_same]
  exact h

theorem Chip.msixUnmask_of_pending {c : Chip} {v : Nat} (hp : (c.msixEntry v).pending = true) (hf : c.host.msixMask = false)
    (he : c.host.msixEnable = true) : c.msixUnmask (some v) =
      ((c.setMsix v { c.msixEntry v with mask := false }).setMsix v { c.msixEntry v with mask := false, pending := false }).emit
        (.msix v (c.msixEntry v).address (c.msixEntry v).data) := by
  refine (Chip.msixRelease_of_pending (c := c.setMsix v { c.msixEntry v with mask := false }) ?_ ?_ hf he).trans ?_
  · rw [Chip.msixEntry_setMsix_same]
    exact hp
  · rw [Chip.msixEntry_setMsix_same]
  · simp only [Chip.msixEntry_setMsix_same]

/-- A pending vector that is unmasked is sent, and pending no more. -/
theorem leads_msixUnmask {s : State} {v : Nat} (hp : (s.msixEntry v).pending = true) (hf : s.host.msixMask = false)
    (he : s.host.msixEnable = true) : Leads (.msixUnmask (some v)) s (fun t => (t.msixEntry v).pending = false ∧
      (t.msixEntry v).mask = false ∧ Output.msix v (s.msixEntry v).address (s.msixEntry v).data ∈ t.out ∧ dataStands s t) := by
  have hentry : ∀ (c : Chip) (o : Output), (s.left (c.emit o)).msixEntry v = c.msixEntry v := fun c o => State.left_msixEntry s _ v
  refine ⟨_, s.effect_eq_left (Chip.msixUnmask_of_pending hp hf he), ?_, ?_,
    State.mem_left_out (List.mem_append_right _ (List.mem_singleton_self _)), ?_⟩
  · rw [hentry, Chip.msixEntry_setMsix_same]
  · rw [hentry, Chip.msixEntry_setMsix_same]
  · simp [dataStands, Chip.setMsix]

/-- Settles O34: each write is one branch of its definition; a mailbox READ stores the bytes one by one. -/
theorem windowAndMailboxReachTheDictionary : Obligations.WindowAndMailboxReachTheDictionary := by
  refine ⟨fun s off size v r index sub hopen hlo hhi hindex hsub => s.resetEffect_eq_left ?_,
    fun s off size v r hready hclosed => ⟨s.resetEffect_eq_left ?_, s.effect_eq_left (Chip.barWrite_of_closed hclosed hready _),
      s.resetEffect_eq_left ?_⟩,
    fun s b hopen hop hst hok hs hr hoff => leads_mailboxRead hopen hop hst hok hs hr hoff,
    fun s hopen hop hst hno => s.effect_eq_left ((Chip.barWrite_of_open hopen _).trans (Chip.mailboxRead_of_absent hop hst hno)),
    fun s b hopen hop hst hs hr hbad => s.effect_eq_left ?_,
    fun s r hopen hst => ⟨fun hop => s.effect_eq_left ?_, fun hop => s.resetEffect_eq_left ?_⟩,
    fun s r hopen hop hst => s.resetEffect_eq_left ?_, fun s v hp hf he => leads_msixUnmask hp hf he,
    fun s v hidle => s.effect_eq_left (Chip.msixUnmask_of_idle hidle), fun s => s.effect_left _⟩
  · rw [Chip.barWrite_of_open hopen]
    refine congrArg Chip.pumpHost (Chip.windowWrite_of_bytes hlo hhi hindex hsub ?_)
    cases s.object index sub with
    | none => rfl
    | some o => rfl
  · rw [Chip.barWrite_of_closed hclosed hready]
  · rw [Chip.barWrite_of_closed hclosed hready]
  · rw [Chip.barWrite_of_open hopen, Chip.mailboxRead_of_found hop hst hs hr]
    exact if_pos (by simpa using hbad)
  · rw [Chip.barWrite_of_open hopen, Chip.mailboxRead_of_busy hst hop]
  · rw [Chip.barWrite_of_open hopen, Chip.mailboxWrite_of_busy hst hop]
  · rw [Chip.barWrite_of_open hopen]
    refine congrArg Chip.pumpHost (Chip.mailboxWrite_of_length hop hst ?_)
    cases s.object s.host.mailbox.index s.host.mailbox.sub with
    | none => rfl
    | some o => rfl

/-! ### The host port (R233 to R241) -/

theorem Chip.clearHostCounters_keeps {β : Type} (g : Chip → β) (h : ∀ c i n v, g (Chip.setVal c i n v) = g c) (c : Chip) :
    g c.clearHostCounters = g c := Chip.each_keeps g _ (fun c i => h c i 0 0) _ c

/-- A reset of the port forgets its reads and its training, and leaves the configuration at its reset values. -/
theorem Chip.portReset_host (c : Chip) (cause : Nat) : ∃ h : HostPort, (c.portReset cause).host = { h.resetConfig with
    ready := false, flr := none, reads := [], toRead := [], quarantine := [], speed := 0, width := 0, flit := false } :=
  ⟨_, Chip.record_host _ _ _ _⟩

/-- A reset of the link ends with the port in training again. -/
theorem leads_linkDown {s : State} {i : Instr} {lost : Bool} (hp : s.host.perst = false)
    (hi : exec i s = .next (s.left (s.linkDown lost))) : Leads i s (fun t => t.host.ready = false ∧ t.host.reads = [] ∧
      t.host.toRead = [] ∧ t.host.quarantine = [] ∧ t.host.speed = 0 ∧ t.host.width = 0 ∧ t.host.releaseNs = some s.clk.opNs ∧
      Output.hostTrain ∈ t.out) := by
  have hdown : s.linkDown lost = (((if lost then s.bump 0x1805 else s.toChip).portReset 5).onHost
      (fun h => { h with releaseNs := some (if lost then s.bump 0x1805 else s.toChip).clk.opNs })).emit .hostTrain :=
    if_neg (by rw [hp]; decide)
  have hclk : (if lost then s.bump 0x1805 else s.toChip).clk.opNs = s.clk.opNs := by cases lost <;> rfl
  obtain ⟨h, hhost⟩ := Chip.portReset_host (if lost then s.bump 0x1805 else s.toChip) 5
  rw [hclk] at hdown
  refine ⟨_, hi, ?_⟩
  rw [hdown]
  have hleft := State.left_host s (((if lost then s.bump 0x1805 else s.toChip).portReset 5).onHost
    (fun h => { h with releaseNs := some s.clk.opNs }) |>.emit .hostTrain)
  rw [Chip.emit_host, Chip.onHost_host, hhost] at hleft
  beta_reduce
  rw [hleft]
  exact ⟨rfl, rfl, rfl, rfl, rfl, rfl, rfl, State.mem_left_out (List.mem_append_right _ (List.mem_singleton_self _))⟩

/-- Every queue pair after a reset of the queues. -/
theorem Chip.resetQueues_queue (c : Chip) (q : Nat) : (c.resetQueues.queue q).qstate = 0 ∧ (c.resetQueues.queue q).enable = false := by
  have hqueue : c.resetQueues.queue q = ((c.passEnds (fun _ => true)).cqi.queues.mapVal (fun _ x =>
    { QueuePair.reset with accepted := x.accepted, errors := x.errors })).getD q QueuePair.reset := rfl
  rw [hqueue, KMap.getD, KMap.find_mapVal]
  cases (c.passEnds (fun _ => true)).cqi.queues.find q <;> exact ⟨rfl, rfl⟩

/-- Settles O35: each event is one branch; resets of the port leave the configuration and the queues at their reset values. -/
theorem hostPortClosesOpensAndResets : Obligations.HostPortClosesOpensAndResets := by
  refine ⟨fun s hb => s.effect_eq_left (if_pos hb), fun s hb => s.effect_eq_left (if_neg (by rw [hb]; decide)),
    fun s hd hb => s.effect_eq_left ?_, fun s hd => s.effect_eq_left (if_pos hd),
    fun s t0 hsince hshut hover => s.effect_eq_left ?_, fun s hready hflr => s.effect_eq_left ?_,
    fun s t0 hflr hreads => ⟨_, s.effect_left _, ?_⟩, fun s hp => leads_linkDown hp (s.effect_left _),
    fun s hp => leads_linkDown hp (s.effect_left _), fun s hp => ⟨_, s.effect_left _, ?_⟩, fun s hp => s.effect_eq_left (if_pos hp),
    fun s speed width flit hp hready hlo hhi hw => ⟨_, s.effect_left _, ?_⟩⟩
  · exact (if_neg (by rw [hd]; decide)).trans (if_neg (by rw [hb]; decide))
  · have hclosed : (s.host.busMaster && !s.host.d3) = false := by rcases hshut with h | h <;> simp [h]
    rw [Chip.bmeLimit, hsince]
    simp only [hclosed, hover]
    rfl
  · rw [Chip.flrBegin, if_neg (by simp [hready, hflr])]
    rfl
  · rw [Chip.flrDone, hflr]
    simp only [hreads, List.isEmpty_nil, Bool.not_true, Bool.false_eq_true, if_false, State.left_host]
    refine ⟨rfl, rfl, rfl, rfl, rfl, rfl, ?_, fun q => ?_⟩
    · simp
    · rw [State.left_queue]
      exact s.resetQueues_queue q
  · simp only [hp, Bool.false_eq_true, if_false, State.left_host]
    obtain ⟨h, hhost⟩ := Chip.portReset_host s.toChip 4
    rw [Chip.onHost_host, Chip.clearHostCounters_keeps Chip.host (fun _ _ _ _ => rfl), hhost]
    exact ⟨rfl, rfl, rfl, rfl, rfl⟩
  · have hwidth : width = 16 ∨ width = 8 ∨ width = 4 ∨ width = 2 ∨ width = 1 := by
      simp only [List.mem_cons, List.not_mem_nil, or_false] at hw
      omega
    rw [Chip.linkReady, if_neg (by simp [hp, hready, hlo, hhi, hwidth])]
    exact ⟨State.left_host .., dataStands_left ⟨rfl, rfl, rfl, rfl, rfl, rfl, rfl, rfl⟩⟩

end Sys2Proof.Machine
end

section
/-! Timeouts, containment and release of a member port (O36). -/

namespace Sys2Proof.Machine

/-- A release that would succeed still does once the attempt is counted. -/
theorem Chip.releasable_of_attempt {c : Chip} {slot n : Nat} (hslot : (c.member slot).slot = .contained)
    (hlog : c.logs.any (fun l => l.open_ && decide (l.slot = slot)) = true) :
    (c.setMember slot { c.member slot with contAttempts := n }).releasable slot true true = true := by
  rw [Chip.releasable, Chip.member_setMember_same, hslot, Chip.setMember_logs, hlog]
  rfl

/-- Within the window a drive that is back is released by the device itself, at most three times. -/
theorem Chip.autoRelease_of_window {c : Chip} {slot since : Nat} (hns : (c.member slot).contNs = some since)
    (hslot : (c.member slot).slot = .contained) (hauto : c.val 0x3433 slot ≠ 0) (hpres : (c.member slot).presence = true)
    (hatt : (c.member slot).contAttempts < 3) (hwin : c.elapsedMs since (c.val 0x3434) = false)
    (hlog : c.logs.any (fun l => l.open_ && decide (l.slot = slot)) = true) :
    c.autoRelease slot true true =
      (c.setMember slot { c.member slot with contAttempts := (c.member slot).contAttempts + 1 }).release slot := by
  unfold Chip.autoRelease
  dsimp only
  split
  · next hnone => exact absurd (hns.symm.trans hnone) (by simp)
  · next t ht =>
    obtain rfl : since = t := Option.some.inj (hns.symm.trans ht)
    rw [if_neg (by simp [hslot, hauto, hpres, hatt, hwin]), if_pos (Chip.releasable_of_attempt hslot hlog)]

/-- Settles O36: each event is the branch its conditions choose. -/
theorem memberPortsContainAndRelease : Obligations.MemberPortsContainAndRelease := by
  refine ⟨fun s slot id k hfind hslot hab hasked hover => s.effect_eq_left ?_,
    fun s slot id since k hfind hab hruns hover => s.effect_eq_left (congrArg Chip.pumpHost ?_),
    fun s slot cause hlink hlo hhi => s.effect_eq_left (congrArg Chip.pumpHost ?_),
    fun s slot w h => s.effect_eq_left (Chip.command_of_accepted h 1 _),
    fun s slot since hns hslot hauto hpres hatt hwin hlog => s.effect_eq_left ?_,
    fun s slot since hns hslot hover hserving => s.effect_eq_left (congrArg Chip.pumpHost ?_),
    fun s slot hslot hserving => s.effect_eq_left (congrArg Chip.pumpHost ?_)⟩
  · rw [Chip.commandTimeout, hfind]
    refine (if_neg ?_).trans ?_
    · simp [hslot, hab, hasked, hover]
    · rw [Chip.issueAbort, if_neg (by rw [hasked]; decide)]
  · rw [Chip.abortTimeout, hfind]
    simp only [hab, hruns, hover, and_self, if_true]
  · exact if_pos ⟨hlink, hlo, hhi⟩
  · exact Chip.autoRelease_of_window hns hslot hauto hpres hatt hwin hlog
  · rw [Chip.containmentExpiry, hns]
    exact (if_neg (by simp [hslot, hover])).trans (if_pos hserving)
  · rw [Chip.containedLoss, if_neg (not_not_intro hslot), if_pos hserving]

end Sys2Proof.Machine
end

section
/-! The bays' inputs (O37) and the drives that are inserted (O38). -/

namespace Sys2Proof.Machine

/-! ### Presses of the button -/

/-- The chip once a press is counted. -/
def Chip.pressed (c : Chip) (slot : Nat) : Chip := c.updMember slot (fun m => { m with presses := m.presses + 1 })

/-- What a press does once it is counted. -/
def Chip.heedPress (c : Chip) (slot : Nat) : Chip :=
  let m := c.member slot
  if m.refusedNs.isSome then c
  else match m.slot with
    | .inUse =>
      if !c.leads then (c.setMember slot { m with prevSlot := .inUse }).refuseRemoval slot 1
      else (c.setMember slot { m with slot := .removalPending, prevSlot := .inUse, windowNs := some c.clk.opNs }).memberEvent slot 3 0
    | .removalPending =>
      if !c.leads then c.refuseRemoval slot 1
      else (c.setMember slot { m with slot := m.prevSlot, windowNs := none }).memberEvent slot 4 0
    | .safeToRemove =>
      if !c.leads then (c.setMember slot { m with prevSlot := .safeToRemove }).refuseRemoval slot 1
      else if m.presence then c.joinGroup slot else c
    | _ => c

theorem Chip.buttonPress_of_slot {c : Chip} {slot : Nat} (h : slot < c.slots) : c.buttonPress slot = (c.pressed slot).heedPress slot := by
  rw [Chip.buttonPress, if_pos h]
  rfl

theorem Chip.buttonPress_of_none {c : Chip} {slot : Nat} (h : c.slots ≤ slot) : c.buttonPress slot = c.heedPress slot := by
  rw [Chip.buttonPress, if_neg (Nat.not_lt.mpr h)]
  rfl

/-- Settles O37: each input is one branch of its command. -/
theorem baysFollowTheirInputs : Obligations.BaysFollowTheirInputs := by
  refine ⟨fun s stream l hs => s.effect_eq_left (if_neg (Nat.not_le.mpr hs)), fun s slot hs hr he => s.effect_eq_left ?_,
    fun s slot hs hr hu hl => s.effect_eq_left ?_, fun s slot hs hr hp hl => s.effect_eq_left ?_,
    fun s slot since hw hp hover => s.effect_eq_left (congrArg Chip.pumpHost ?_), fun s slot since hr hover => s.effect_eq_left ?_,
    fun s slot hq hsh => s.effect_eq_left (if_pos ⟨hq, hsh⟩), fun s slot r hq hsh hrep hover => s.effect_eq_left ?_,
    fun s slot hp he hl hu => s.effect_eq_left (congrArg Chip.pumpHost ?_)⟩
  · rw [Chip.buttonPress_of_none hs, Chip.heedPress]
    simp only [hr, he, Option.isSome_none, Bool.false_eq_true, if_false]
  · rw [Chip.buttonPress_of_slot hs, Chip.heedPress, Chip.pressed, Chip.member_updMember_same]
    have hleads : (s.updMember slot (fun m => { m with presses := m.presses + 1 })).leads = true := hl
    simp only [hr, hu, hleads, Option.isSome_none, Bool.false_eq_true, if_false, Bool.not_true]
    rfl
  · rw [Chip.buttonPress_of_slot hs, Chip.heedPress, Chip.pressed, Chip.member_updMember_same]
    have hleads : (s.updMember slot (fun m => { m with presses := m.presses + 1 })).leads = true := hl
    simp only [hr, hp, hleads, Option.isSome_none, Bool.false_eq_true, if_false, Bool.not_true]
  · rw [Chip.removalWindowEnd, hw]
    exact if_neg (by simp [hp, hover])
  · rw [Chip.refusalEnd, hr]
    exact if_pos hover
  · have hcond : (s.member slot).slot = .quiescing ∧ (s.member slot).shutting = true ∧ s.elapsedMs (s.member slot).timerNs
      (match (s.member slot).report with | some r => min 10000 r.rtd3EntryMs | none => 10000) = true := ⟨hq, hsh, by rw [hrep]; exact hover⟩
    exact if_pos hcond
  · rw [Chip.surpriseRemoval, if_neg (by simp [hp, he])]
    simp only [hl, hu, if_true]
    rfl

/-! ### Drives that come up -/

/-- While the clock runs its boundaries tell the time. -/
theorem Chip.groupTime_of_running {c : Chip} (h : c.clk.running = true) : c.groupTime = c := if_neg (by simp [h])

/-- A power group that is due powers its first four slots. -/
theorem Chip.powerGroup_of_due {c : Chip} (hdue : c.start.nextGroupNs ≤ c.clk.opNs) (hp : c.start.powered = true) (h6 : c.start.phase ≠ 6)
    (hsome : c.start.powerOrder ≠ []) : c.powerGroup = Chip.each { c with start := { c.start with
      powerOrder := c.start.powerOrder.drop 4, nextGroupNs := c.clk.opNs + 25000000 } } (c.start.powerOrder.take 4) (fun c slot =>
      c.updMember slot (fun m => { m with powerEnable := true, waitPower := false, slot := .powering, timerNs := c.clk.opNs })) := by
  have htake : (c.start.powerOrder.take 4).isEmpty = false := by
    cases h : c.start.powerOrder with
    | nil => exact absurd h hsome
    | cons a l => rfl
  rw [Chip.powerGroup, if_neg (by simp [hdue, hp, h6])]
  simp only [htake, Bool.false_eq_true, if_false]
  rfl

/-- A write of slot_enable that passes is applied, and has its effect. -/
theorem Chip.slotEnable_of_accepted {c : Chip} {slot v : Nat} {w : Writer} {o : Obj} (ho : c.object 0x3444 slot = some o)
    (hr : c.writeReason 0x3444 slot (leBytes 1 v) w = 0) :
    c.slotEnable slot v w = (c.applyObject o slot (leBytes 1 v) w).slotEnableHook slot (c.val 0x3444 slot) := by
  simp only [Chip.slotEnable, ho, hr, ne_eq, not_true_eq_false, if_false]

/-- Settles O38: each step of an insertion is the branch that its slot's state chooses. -/
theorem insertedDrivesComeUp : Obligations.InsertedDrivesComeUp := by
  refine ⟨fun s slot hs hd hp he => s.effect_eq_left (if_pos ⟨hs, .inr hd, by rw [hp]; rfl, he⟩),
    fun s hrun hdue hp h6 hsome => ?_, fun s slot hp => s.effect_eq_left (if_pos hp),
    fun s slot hp hover => s.effect_eq_left (if_pos ⟨hp, hover⟩), fun s slot ht hover => s.effect_eq_left (if_pos ⟨ht, .inr hover⟩),
    fun s slot speed width hport ht hl hlo hhi hw hfull => s.effect_eq_left ?_,
    fun s slot r ht hl => s.effect_eq_left (congrArg Chip.pumpHost (if_neg (by simp [ht, hl]))),
    fun s slot v w o ho hr => s.effect_eq_left (congrArg Chip.pumpHost (Chip.slotEnable_of_accepted ho hr)),
    fun s slot hp hs => s.effect_eq_left (if_neg (by simp [hp, hs]))⟩
  · refine (s.clockEffect_leaves (fun c => c.groupTime.aside Chip.powerGroup)).trans ?_
    rw [Chip.groupTime_of_running hrun, Chip.aside, Chip.powerGroup_of_due hdue hp h6 hsome]
    rfl
  · have hnobackup : ¬(s.onBackup = true ∧ slot ∉ s.vaultSlots) := by rcases hport with h | h <;> simp [h]
    exact (if_neg hnobackup).trans (if_pos ⟨ht, by rw [hl]; rfl, hlo, hhi, hw, hfull⟩)

end Sys2Proof.Machine
end

section
/-! The pair holds its lease (O39); roles change hands (O40). -/

namespace Sys2Proof.Machine

/-! ### Heartbeats of the partner -/

/-- The chip once a heartbeat of a partner that is no STANDBY is kept. -/
def Chip.heardPartner (c : Chip) (hb : PartnerHb) : Chip :=
  c.onPair (fun p => { p with lastHb := some hb, sinceHb := 0, silent := false, peerSync := 0 })

/-- A heartbeat that counts, at a unit ALONE that it asks nothing of. -/
theorem Chip.partnerHb_of_alone {c : Chip} {hb : PartnerHb} (hp : c.paired = true) (hf : c.pair.formed = true)
    (hl : (c.port 0).pstate = 2) (he : c.pair.epoch ≤ hb.epoch) (hr : c.pair.role = .alone) (hg : hb.endorseGrant = false)
    (h2 : hb.role ≠ 2) (hv : hb.leaving = false) : c.partnerHb hb = c.heardPartner hb := by
  have hleads : (c.heardPartner hb).leads = true := by simp [Chip.leads, Chip.heardPartner, hr]
  rw [Chip.partnerHb, if_neg (by simp [hp, hf, hl, he])]
  simp only [h2, if_false]
  refine (if_pos hleads).trans ?_
  simp only [hg, hv, hr, Bool.false_and, Bool.false_eq_true, false_and, if_false, reduceCtorEq, or_self]
  rfl

/-- A holder's heartbeat that asks an endorsement of a synchronized STANDBY which still waits for what the holder has told. -/
theorem Chip.partnerHb_of_standby {c : Chip} {hb : PartnerHb} (hp : c.paired = true) (hf : c.pair.formed = true)
    (hl : (c.port 0).pstate = 2) (he : c.pair.epoch ≤ hb.epoch) (hr : c.pair.role = .standby) (h1 : hb.role ≤ 1) (hs : c.pair.sync = 2)
    (hval : c.val 0x3816 = 1) (hq : hb.endorseRequest = true) (hseq : c.pair.recvSeq < c.pair.toldSeq) (hv : hb.vaultStart = false)
    (hg : hb.leaving = false) :
    c.partnerHb hb = (c.heardPartner hb).onPair (fun p => { p with
      epoch := max p.epoch hb.epoch, endorsing := true, endorseUntil := c.clk.opNs + ceilDiv (c.leaseNs * 513) 512 + 1000000 }) := by
  have hleads : ¬ (c.heardPartner hb).leads = true := by simp [Chip.leads, Chip.heardPartner, hr]
  have h2 : hb.role ≠ 2 := by omega
  have hholder : (decide (hb.role = 0) || decide (hb.role = 1)) = true := by
    simp only [Bool.or_eq_true, decide_eq_true_eq]
    omega
  rw [Chip.partnerHb, if_neg (by simp [hp, hf, hl, he])]
  simp only [h2, if_false]
  refine (if_neg hleads).trans ((if_pos hholder).trans ?_)
  have hval' : ∀ f g, ((c.onPair f).onPair g).val 0x3816 = 1 := fun _ _ => hval
  simp only [Chip.onPair_pair, hr, hs, hq, hv, hg, hval', reduceCtorEq, false_and, if_false, and_self, if_true, Nat.not_le.mpr hseq, and_false,
    Bool.false_eq_true, or_self]
  rfl

/-! ### Replies and the lease -/

/-- A grant of an operation that takes or renews a lease. -/
theorem Chip.takeGrant_pair {c : Chip} {a : LeaseAnswer} (h : a.op ≤ 5) : (c.takeGrant a).pair = { c.pair with
    epoch := a.epoch, sinceGrant := 0, source := 1, writeStop := false
    leaseNs := some (max (c.pair.leaseNs.getD 0) (c.pair.lastReqNs + c.leaseNs - ceilDiv c.leaseNs 512)) } := by
  rw [Chip.takeGrant, if_neg (by omega)]
  rfl

/-- A RENEW that is granted in time, its reply one that counts. -/
theorem Chip.leaseReply_of_renewed {c : Chip} {src : Nat} {a : LeaseAnswer} (hc : c.replyCounts src a = true) (hr : a.result = 0)
    (h1 : a.op = 1) (hrtt : (c.clk.opNs - c.pair.lastReqNs) / 1000 * 1000 ≤ c.lapNs) : c.leaseReply src a =
      let d : Chip := { c with
        pair := { c.pair with answered := true, sinceReply := 0, judgeAge := a.partnerAge }
        adp := { c.adp with rtts := c.adp.rtts.filter (fun t => decide (c.lap < t.1 + 64)) ++ [(c.lap, (c.clk.opNs - c.pair.lastReqNs) / 1000)] } }
      ((d.takeGrant a).bump 0x3813).onPair (fun p => { p with pursue := if p.pursue = 1 then 0 else p.pursue }) := by
  rw [Chip.leaseReply, if_neg (by rw [hc]; decide)]
  have hintime : ∀ f g, ¬ ((c.onPair f).onAdp g).lapNs < (c.clk.opNs - c.pair.lastReqNs) / 1000 * 1000 := fun _ _ => Nat.not_lt.mpr hrtt
  simp only [hintime, hr, h1, if_false, ne_eq, not_true_eq_false, false_and, OfNat.one_ne_ofNat, and_false, if_true]
  rfl

/-- Eight laps before its lease ends a leader stops writing. -/
theorem Chip.leaseWriteStop_of_near {c : Chip} {ns : Nat} (hns : c.pair.leaseNs = some ns) (hp : c.paired = true) (hl : c.leads = true)
    (hle : ns ≤ c.clk.opNs + 8 * c.lapNs) : c.leaseWriteStop = c.onPair (fun p => { p with writeStop := true }) := by
  rw [Chip.leaseWriteStop, hns]
  exact if_pos ⟨hp, hl, hle⟩

/-- Settles O39: each event of the lease is one branch of its command. -/
theorem thePairHoldsItsLease : Obligations.ThePairHoldsItsLease := by
  refine ⟨fun s hb hp hf hl he hr hg h2 hv => s.effect_eq_left (congrArg Chip.pumpHost (Chip.partnerHb_of_alone hp hf hl he hr hg h2 hv)),
    fun s hb hp hf hl he hr h1 hs hval hq hseq hv hg =>
      s.effect_eq_left (congrArg Chip.pumpHost (Chip.partnerHb_of_standby hp hf hl he hr h1 hs hval hq hseq hv hg)),
    fun s hf hsince => s.effect_eq_left (if_pos ⟨hf, .inl hsince⟩), fun s src a hadp hc hr h1 hrtt => s.effect_eq_left ?_,
    fun s a ha => ?_, fun s ns hns hp hl hle => s.effect_eq_left ?_,
    fun s ns hns hp hl hle => s.effect_eq_left (congrArg Chip.pumpHost ?_),
    fun s ns hns hl hsv => s.effect_eq_left (congrArg Chip.pumpHost ?_), fun s ns hns hover => s.effect_eq_left ?_⟩
  · rw [if_neg (not_not_intro hadp), Chip.leaseReply_of_renewed hc hr h1 hrtt]
  · rw [Chip.takeGrant_pair ha]
    exact ⟨rfl, rfl, rfl⟩
  · exact Chip.leaseWriteStop_of_near hns hp hl hle
  · rw [Chip.leaseExpiry, hns]
    exact if_pos ⟨hp, hl, hle⟩
  · rw [Chip.takeoverServing, hns]
    exact if_neg (by simp [hl, hsv])
  · rw [Chip.fenceHoldEnd, hns]
    exact if_pos hover

/-- Settles O40: a command object that passes acts; each of the others is one branch of its command. -/
theorem rolesChangeHands : Obligations.RolesChangeHands := by
  refine ⟨fun s w h => s.effect_eq_left (Chip.command_of_accepted h 1 _), fun s hh hw => s.effect_eq_left (congrArg Chip.pumpHost ?_),
    fun s hr hs hb hseq => s.effect_eq_left (if_pos ⟨hr, hs, hb, hseq⟩), fun s hr hp hf hs h0 => s.effect_eq_left ?_,
    fun s w h => s.effect_eq_left (Chip.command_of_accepted h 1 _), fun s hw hover => s.effect_eq_left (if_pos ⟨hw, hover⟩),
    fun s ns hw hns hover => s.effect_eq_left ?_⟩
  · rw [Chip.handoverDrained, if_pos (by rw [hh, hw]; rfl)]
  · rw [Chip.syncComplete, if_neg (by simp [hr]), if_pos ⟨hr, hp, hf, hs, h0⟩]
  · rw [Chip.watchDeadline, hns]
    exact if_pos ⟨hw, hover⟩

end Sys2Proof.Machine
end

section
/-! Utofer links (O43), their hop delay (O44), the mirror stream (O45) and the ring's members (O46). -/

namespace Sys2Proof.Machine

/-- A ring command whose effect on the chip is `c` leaves `c`, the ring settled. -/
theorem State.ringEffect_eq_left {s : State} {f : Chip → Chip} {c : Chip} (h : f s.toChip = c) : s.ringEffect f = .next (s.ringLeft c) :=
  h ▸ s.ringEffect_left f

/-! ### Links that train -/

/-- A down link that trains is LINK_UP with an empty port. -/
theorem Chip.linkUp_of_down {c : Chip} {p n : Nat} (hon : c.portOn p = true) (hw : portWidth p n ≠ 0) (hdown : (c.port p).pstate < 2) :
    c.linkUp p n =
      let d := (c.setPort p { Port.reset with pstate := 2, lanes := portWidth p n }).sendLink p 5 1
        (c.setPort p { Port.reset with pstate := 2, lanes := portWidth p n }).helloBytes
      if p = 0 then d else Chip.ringChanged (forN 16 (fun c _ => c.sendEcho p) d) := by
  rw [Chip.linkUp, if_neg (by simp [hon, hw]; omega), if_neg (by omega)]

/-- A link that returns from RECOVERY keeps its retry buffer and sends it again. -/
theorem Chip.linkUp_of_recovery {c : Chip} {p n : Nat} (hon : c.portOn p = true) (hw : portWidth p n ≠ 0) (hrec : (c.port p).pstate = 3) :
    c.linkUp p n = (c.setPort p { c.port p with pstate := 2, lanes := portWidth p n, nakRun := 0, nakSent := false }).resend p := by
  rw [Chip.linkUp, if_neg (by simp [hon, hw, hrec]), if_pos hrec]

theorem Chip.linkUp_of_idle {c : Chip} {p n : Nat} (h : c.portOn p = false ∨ portWidth p n = 0 ∨ (c.port p).pstate = 2) :
    c.linkUp p n = c := by
  rw [Chip.linkUp, if_pos (by simpa using h)]

/-- The width a link trains at is the widest of its port's that fits. -/
theorem portWidth_widest {p n w : Nat} (hw : w ∈ portWidths p) (hn : w ≤ n) :
    w ≤ portWidth p n ∧ portWidth p n ≤ n ∧ portWidth p n ∈ portWidths p := by
  unfold portWidth portWidths at *
  split at hw
  case isTrue hp =>
    simp only [List.mem_cons, List.not_mem_nil, or_false] at hw
    rw [if_pos hp]
    by_cases h16 : 16 ≤ n
    · simp [h16]; omega
    by_cases h8 : 8 ≤ n
    · simp [h16, h8]; omega
    have h4 : 4 ≤ n := by omega
    simp [h16, h8, h4]; omega
  case isFalse hp =>
    simp only [List.mem_cons, List.not_mem_nil, or_false] at hw
    rw [if_neg hp]
    by_cases h8 : 8 ≤ n
    · simp [h8]; omega
    have h4 : 4 ≤ n := by omega
    simp [h8, h4]; omega

/-! ### Flits that arrive -/

/-- What a port makes of a flit whose CRC holds, once its header is taken. -/
def Chip.flitSorted (c : Chip) (p : Nat) (f : TxFlit) (fsn : Nat) : Chip :=
  if f.cls = 0 then c
  else if !sequenced f.cls then (if portCarries p f.cls then c.takeFlit p f else c.bump 0x3C15 p)
  else if fsn = c.wanted p then
    let d := c.updPort p (fun x => { x with
      delivered := some fsn, nakSent := false, rxUsed := x.rxUsed.put f.cls (x.rxUsed.getD f.cls 0 + 1) })
    let d := if portCarries p f.cls then d.takeFlit p f else d.bump 0x3C15 p
    if (d.port p).txq.isEmpty ∧ (d.port p).pstate = 2 then d.linkFlit p false else d
  else if (c.wanted p + 4096 - fsn) % 4096 ≤ 2048 then c
  else if (c.port p).nakSent then c
  else c.nakPeer p

/-- A flit whose CRC holds is heard, then sorted by its class and number. -/
theorem Chip.flitReceive_of_good {c : Chip} {p : Nat} {raw : Bytes} (hup : (c.port p).pstate = 2) (hlen : raw.length = 256)
    (hcrc : flitCrcGood raw = true) : c.flitReceive p raw = (c.flitHeard p raw).flitSorted p (flitOf raw) (fsnOf raw) := by
  rw [Chip.flitReceive, if_neg (by simp [hup, hlen])]
  exact if_neg (not_not_intro (of_decide_eq_true hcrc))

/-- A flit whose CRC fails is counted, and asked for again where it is no marker. -/
theorem Chip.flitReceive_of_bad {c : Chip} {p : Nat} {raw : Bytes} (hup : (c.port p).pstate = 2) (hlen : raw.length = 256)
    (hcrc : flitCrcGood raw = false) : c.flitReceive p raw =
      if (flitOf raw).cls = 4 then ((c.corrected p raw).bump 0x3C15 p).bump 0x3C32 else ((c.corrected p raw).bump 0x3C15 p).nakPeer p := by
  rw [Chip.flitReceive, if_neg (by simp [hup, hlen])]
  exact if_pos (of_decide_eq_false hcrc)

theorem Chip.flitSorted_of_link {c : Chip} {p fsn : Nat} {f : TxFlit} (h : f.cls = 0) : c.flitSorted p f fsn = c := if_pos h

theorem Chip.flitSorted_of_unsequenced {c : Chip} {p fsn : Nat} {f : TxFlit} (h0 : f.cls ≠ 0) (hs : sequenced f.cls = false) :
    c.flitSorted p f fsn = if portCarries p f.cls then c.takeFlit p f else c.bump 0x3C15 p := by
  rw [Chip.flitSorted, if_neg h0, if_pos (by rw [hs]; rfl)]

/-- A sequenced flit is told apart by its number against the one wanted. -/
theorem Chip.flitSorted_of_sequenced {c : Chip} {p fsn : Nat} {f : TxFlit} (hs : sequenced f.cls = true) :
    c.flitSorted p f fsn =
      if fsn = c.wanted p then
        let d := c.updPort p (fun x => { x with
          delivered := some fsn, nakSent := false, rxUsed := x.rxUsed.put f.cls (x.rxUsed.getD f.cls 0 + 1) })
        let d := if portCarries p f.cls then d.takeFlit p f else d.bump 0x3C15 p
        if (d.port p).txq.isEmpty ∧ (d.port p).pstate = 2 then d.linkFlit p false else d
      else if (c.wanted p + 4096 - fsn) % 4096 ≤ 2048 then c
      else if (c.port p).nakSent then c
      else c.nakPeer p := by
  have h0 : f.cls ≠ 0 := by
    intro h
    rw [h] at hs
    exact absurd hs (by decide)
  rw [Chip.flitSorted, if_neg h0, if_neg (by rw [hs]; decide)]

/-- A flit too far ahead asks once for the one missing. -/
theorem Chip.flitSorted_of_ahead {c : Chip} {p fsn : Nat} {f : TxFlit} (hs : sequenced f.cls = true)
    (hfar : 2048 < (c.wanted p + 4096 - fsn) % 4096) : c.flitSorted p f fsn = if (c.port p).nakSent then c else c.nakPeer p := by
  have hne : fsn ≠ c.wanted p := by
    rintro rfl
    rw [Nat.add_sub_cancel_left] at hfar
    exact absurd hfar (by decide)
  rw [Chip.flitSorted_of_sequenced hs, if_neg hne, if_neg (Nat.not_le.mpr hfar)]

/-- A whole message of one flit for this node is delivered. -/
theorem Chip.takeFlit_of_whole {c : Chip} {p : Nat} {f : TxFlit} (hf : f.first = true) (hl : f.last = true) (hb : f.broadcast = false)
    (hd : f.dst = c.straps.nodeId) (hv : leAt f.payload 1 1 = 1) (ht : definedType f.cls (leAt f.payload 0 1) = true) :
    c.takeFlit p f = (c.updPort p (fun x => { x with partial_ := x.partial_.drop f.cls })).emit
      (.delivered p f.src f.cls (leAt f.payload 0 1) (slice f.payload 16 (leAt f.payload 2 3))) := by
  have hmine : f.dst = (c.updPort p (fun x => { x with partial_ := x.partial_.drop f.cls })).straps.nodeId := hd
  simp [Chip.takeFlit, hf, hl, hb, hmine, Chip.handUp, hv, ht]

/-! ### The pair's link and HELLO -/

/-- The partner's link once its width and its peer are kept. -/
def Chip.pairLinked (c : Chip) (h : HelloMsg) (n : Nat) : Chip :=
  let d := (c.updPort 0 (fun x => { x with lanes := portWidth 0 n })).updPort 0 (fun x => { x with peer := h.nodeId })
  if portWidth 0 n < 16 then d.pairRecord 9 else d

/-- The chip whose partner agrees with it. -/
def Chip.pairFormed (c : Chip) (h : HelloMsg) : Chip :=
  c.onPair (fun p => { p with
    formed := true, refused := false, partnerSerial := h.serial, pairId := c.pairIdentity h, sinceHb := 0, silent := false })

/-- The chip that refuses its partner. -/
def Chip.pairRefused (c : Chip) : Chip :=
  (c.onPair (fun p => { p with formed := false, refused := true, peerSync := 0 })).pairRecord 8

/-- On a link that is up already the partner's HELLO forms the pair, is refused, or is kept without one. -/
theorem Chip.pLinkUp_of_up {c : Chip} {h : HelloMsg} {n : Nat} (hon : c.portOn 0 = true) (hup : (c.port 0).pstate = 2)
    (hw : portWidth 0 n ≠ 0) : c.pLinkUp h n =
      let d := c.pairLinked h n
      if !d.paired then d
      else if d.pairAgrees h then (if decide (d.pair.partnerSerial ≠ h.serial) then (d.pairFormed h).discoverPartner else d.pairFormed h)
      else if d.pairRefused.leads then d.pairRefused.onPair (fun p => { p with role := .alone })
      else if d.pairRefused.pair.role = .fenced then d.pairRefused else d.pairRefused.fence := by
  rw [Chip.pLinkUp, if_neg (by simp [hon, hw]), if_pos hup]
  rfl

theorem Chip.pLinkUp_of_agreed {c : Chip} {h : HelloMsg} {n : Nat} (hon : c.portOn 0 = true) (hup : (c.port 0).pstate = 2)
    (hw : portWidth 0 n ≠ 0) (ha : (c.pairLinked h n).pairAgrees h = true) : c.pLinkUp h n =
      let d := c.pairLinked h n
      if d.pair.partnerSerial = h.serial then d.pairFormed h else (d.pairFormed h).discoverPartner := by
  have hp : (c.pairLinked h n).paired = true := by
    simp only [Chip.pairAgrees, Bool.and_eq_true] at ha
    tauto
  rw [Chip.pLinkUp_of_up hon hup hw]
  refine (if_neg (by rw [hp]; decide)).trans ((if_pos ha).trans ?_)
  by_cases hs : (c.pairLinked h n).pair.partnerSerial = h.serial
  · exact (if_neg (by simp [hs])).trans (if_pos hs).symm
  · exact (if_pos (by simp [hs])).trans (if_neg hs).symm

theorem Chip.pLinkUp_of_refused {c : Chip} {h : HelloMsg} {n : Nat} (hon : c.portOn 0 = true) (hup : (c.port 0).pstate = 2)
    (hw : portWidth 0 n ≠ 0) (hp : (c.pairLinked h n).paired = true) (ha : (c.pairLinked h n).pairAgrees h = false) : c.pLinkUp h n =
      let d := (c.pairLinked h n).pairRefused
      if d.leads then d.onPair (fun p => { p with role := .alone }) else if d.pair.role = .fenced then d else d.fence := by
  rw [Chip.pLinkUp_of_up hon hup hw]
  exact (if_neg (by rw [hp]; decide)).trans (if_neg (by rw [ha]; decide))

/-- Settles O43: each event of a link is one branch of its command. -/
theorem linksComeUpAndRecover : Obligations.LinksComeUpAndRecover := by
  refine ⟨fun s p n hon hw hdown => s.ringEffect_eq_left (Chip.linkUp_of_down hon hw hdown),
    fun s p n hon hw hrec => s.ringEffect_eq_left (Chip.linkUp_of_recovery hon hw hrec),
    fun s p n h => s.ringEffect_eq_left (Chip.linkUp_of_idle h), fun p n w hw hn => portWidth_widest hw hn,
    fun s p raw hup hlen hcrc => s.effect_eq_left (Chip.flitReceive_of_bad hup hlen hcrc),
    fun s p raw hup hlen hcrc h0 => s.effect_eq_left ((Chip.flitReceive_of_good hup hlen hcrc).trans (Chip.flitSorted_of_link h0)),
    fun s p raw hup hlen hcrc h0 hs =>
      s.effect_eq_left ((Chip.flitReceive_of_good hup hlen hcrc).trans (Chip.flitSorted_of_unsequenced h0 hs)),
    fun s p raw hup hlen hcrc hs hw => s.effect_eq_left ((Chip.flitReceive_of_good hup hlen hcrc).trans ?_),
    fun s p raw hup hlen hcrc hs hw hle => s.effect_eq_left ((Chip.flitReceive_of_good hup hlen hcrc).trans ?_),
    fun s p raw hup hlen hcrc hs hfar =>
      s.effect_eq_left ((Chip.flitReceive_of_good hup hlen hcrc).trans (Chip.flitSorted_of_ahead hs hfar)),
    fun s p raw h => s.effect_eq_left (if_pos h), fun s p f hf hl hb hd hv ht => Chip.takeFlit_of_whole hf hl hb hd hv ht,
    fun s p hup hr => s.effect_eq_left (if_pos ⟨hup, hr⟩), fun s p hrec => s.ringEffect_eq_left (if_pos hrec),
    fun s h n hon hup hw ha => s.ringEffect_eq_left (Chip.pLinkUp_of_agreed hon hup hw ha),
    fun s h n hon hup hw hp ha => s.ringEffect_eq_left (Chip.pLinkUp_of_refused hon hup hw hp ha),
    fun s port h hup hon hp => s.ringEffect_eq_left ?_, fun s port h hup hoff => s.ringEffect_eq_left ?_,
    fun s port t1 t2 t3 hp hup => s.effect_eq_left (if_pos ⟨hp, hup⟩)⟩
  · exact (Chip.flitSorted_of_sequenced hs).trans (if_pos hw)
  · exact (Chip.flitSorted_of_sequenced hs).trans ((if_neg hw).trans (if_pos hle))
  · rw [Chip.hello, if_neg (Nat.not_lt.mpr hup)]
    have hon' : ∀ f, (s.updPort port f).ringOn = true := fun _ => hon
    exact if_neg (by simp [hp, hon'])
  · rw [Chip.hello, if_neg (Nat.not_lt.mpr hup)]
    have hoff' : ∀ f, (s.updPort port f).ringOn = false ∨ port = 0 := fun _ => hoff
    exact if_pos (by simpa [or_comm] using hoff' _)

/-- A hop delay that has its 16 samples moves by an eighth of the way to a new one. -/
theorem Chip.echoReply_of_measured {c : Chip} {p t1 turn t4 : Nat} (hp : p ≠ 0) (hup : (c.port p).pstate = 2)
    (hn : 16 ≤ (c.port p).samples.length) : c.echoReply p t1 turn t4 =
      let delay := (((c.port p).delayPs : Int) + ((((t4 - t1 - turn) * 125 / 4 : Nat) : Int) - ((c.port p).delayPs : Int)) / 8).toNat
      let d := c.setPort p { c.port p with delayPs := delay }
      if delay ≠ (c.port p).delayPs then (d.onRing (fun r => { r with rosterDue := true })).ringChanged else d := by
  rw [Chip.echoReply, if_neg (by simp [hp, hup])]
  simp only [Nat.not_lt.mpr hn, if_false, decide_eq_true_eq]

/-- Settles O44: a delay that moves is kept, and the roster tells it. -/
theorem echoesMeasureTheHop : Obligations.EchoesMeasureTheHop := fun s _ _ _ _ hp hup hn hne =>
  s.ringEffect_eq_left ((Chip.echoReply_of_measured hp hup hn).trans (if_pos hne.symm))

/-! ### The mirror stream -/

/-- The next numbered message of the mirror is taken. -/
theorem Chip.mirrorNumbered_of_next {c : Chip} (i : BulkItem) (hr : c.receiving = true) :
    c.mirrorNumbered (c.pair.recvSeq + 1) i = (c.mirrorTake (c.pair.recvSeq + 1) i).onPair (fun q => { q with
      recvSeq := c.pair.recvSeq + 1, toldSeq := max q.toldSeq (c.pair.recvSeq + 1) }) :=
  if_pos (by simp [hr])

/-- A message out of its order is dropped. -/
theorem Chip.mirrorNumbered_of_other {c : Chip} {seq : Nat} (i : BulkItem) (h : seq ≠ c.pair.recvSeq + 1) : c.mirrorNumbered seq i = c :=
  if_neg (by simp [h])

/-- Settles O45: each message of the mirror is one branch of its command. -/
theorem theMirrorIsTakenInOrder : Obligations.TheMirrorIsTakenInOrder := by
  refine ⟨fun s p b state data hr => s.effect_eq_left (Chip.mirrorNumbered_of_next _ hr),
    fun s r hr => s.effect_eq_left (Chip.mirrorNumbered_of_next _ hr),
    fun s seq p b state data r h =>
      ⟨s.effect_eq_left (Chip.mirrorNumbered_of_other _ h), s.effect_eq_left (Chip.mirrorNumbered_of_other _ h)⟩,
    fun s n seq hr => s.effect_eq_left (if_pos hr),
    fun s seq hm hle => s.effect_eq_left (congrArg Chip.pumpHost (if_pos (by simp [hm, hle]))),
    fun s i hr => s.effect_eq_left (if_pos hr), fun s hr => s.effect_eq_left (if_pos hr)⟩

/-! ### The members of the ring -/

/-- A heartbeat of the ring at a unit that is not paired. -/
theorem Chip.ringHeartbeat_of_unpaired {c : Chip} {src : Nat} {h : RingHbMsg} (hon : c.ringOn = true) (hsrc : h.nodeId = src) :
    let d := c.hearNode src h.serial (fun x => { x with
      role := h.role, sync := h.syncState, timeValid := h.timeValid, aliases := h.aliases, pairId := h.pairId, epoch := h.epoch,
      partner := h.partnerNode, hbLaps := 0 })
    d.paired = false →
    c.ringHeartbeat src h = (d.onRing (fun r => { r with claims := claimsShown src h.aliases h.epoch r.claims })).ringChanged := by
  intro d hp
  rw [Chip.ringHeartbeat, if_neg (by simp [hon, hsrc])]
  exact congrArg (fun e : Chip => (e.onRing (fun r => { r with claims := claimsShown src h.aliases h.epoch r.claims })).ringChanged)
    (if_neg (by rw [hp]; simp))

/-- Nobody claims the node and no claim of the unit's own stands against it: the claim is kept. -/
theorem Chip.nodeAlias_of_claimed {c : Chip} {n who epoch : Nat} (hon : c.ringOn = true) (hwho : who ≠ c.straps.nodeId)
    (hfree : c.ring.claims.find n = none) (hmine : c.ring.aliases.any (fun a => decide (a.1 = n) && decide (epoch ≤ a.2)) = false) :
    c.nodeAlias who n who epoch true = (c.onRing (fun r => { r with
      claims := r.claims.put n (who, epoch), aliases := r.aliases.filter (fun a => decide (a.1 ≠ n)) })).ringChanged := by
  rw [Chip.nodeAlias, if_neg (by simp [hon, hwho]), if_pos rfl, hfree]
  exact if_neg (by rw [hmine]; simp)

/-- The claimant gives its claim back. -/
theorem Chip.nodeAlias_of_returned {c : Chip} {n who epoch e : Nat} (hon : c.ringOn = true) (hwho : who ≠ c.straps.nodeId)
    (hclaim : c.ring.claims.find n = some (who, e)) :
    c.nodeAlias who n who epoch false = (c.onRing (fun r => { r with claims := r.claims.drop n })).ringChanged := by
  rw [Chip.nodeAlias, if_neg (by simp [hon, hwho]), if_neg Bool.false_ne_true, hclaim]
  exact if_pos rfl

/-- Settles O46: each message of the ring is one branch of its command. -/
theorem ringMembersAreHeard : Obligations.RingMembersAreHeard := by
  refine ⟨fun s src h hon hsrc hp => s.ringEffect_eq_left (Chip.ringHeartbeat_of_unpaired hon hsrc hp),
    fun s n hmem hown hlaps => s.ringEffect_eq_left (if_pos ⟨hmem, hown, hlaps⟩), fun s src l e hon hfind => s.ringEffect_eq_left ?_,
    fun s n who epoch hon hwho hfree hmine => s.ringEffect_eq_left (Chip.nodeAlias_of_claimed hon hwho hfree hmine),
    fun s n who epoch e hon hwho hclaim => s.ringEffect_eq_left (Chip.nodeAlias_of_returned hon hwho hclaim),
    fun s src target n hon hown hoff => s.resetEffect_eq_left ?_, fun s src target n hon hown hset => s.resetEffect_eq_left ?_,
    fun s n w h => s.effect_eq_left (Chip.command_of_accepted h n _)⟩
  · rw [Chip.roster, if_neg (by simp [hon]), hfind]
  · rw [Chip.unitResetMsg, if_neg (by simp [hon, hown])]
    exact if_neg hoff
  · rw [Chip.unitResetMsg, if_neg (by simp [hon, hown])]
    exact if_pos hset

end Sys2Proof.Machine
end

section
/-! The messages of spanning stripes (O47). -/

namespace Sys2Proof.Machine

/-! ### The source of a message -/

theorem Chip.fromSource_of_barred {c : Chip} {src : Nat} (f : Chip → Chip) (h : c.sourceBarred src = true) :
    c.fromSource src f = c.bump 0x3C26 := if_pos h

theorem Chip.fromSource_of_free {c : Chip} {src : Nat} (f : Chip → Chip) (h : c.sourceBarred src = false) : c.fromSource src f = f c :=
  if_neg (by rw [h]; decide)

/-- A message of a source that is not barred leaves what it does to the chip. -/
theorem State.effect_fromSource {s : State} {src : Nat} {f : Chip → Chip} {c : Chip} (hsrc : s.sourceBarred src = false)
    (h : f s.toChip = c) : s.effect (fun c => c.fromSource src f) = .next (s.left c) :=
  s.effect_eq_left ((Chip.fromSource_of_free f hsrc).trans h)

/-- A piste that is no offer of its home stands as it is when it is heard of. -/
theorem Chip.homeHeard_of_kept {c : Chip} {src p : Nat} (h : (c.piste p).offer = false) : c.homeHeard src p = c :=
  if_neg (by simp [h])

/-! ### Checks and strips -/

theorem Chip.pisteCheck_of_create {c : Chip} {src tag : Nat} {b : Bytes} (h : (leAt b 7 1).testBit 0 = true) :
    c.pisteCheck src tag b =
      let d := c.dropOffer src (parseDesc b).number
      let r := d.checkFor (parseDesc b)
      (if r = 0 then d.recordOffer (parseDesc b) else d).send src 5 6 (leBytes 4 tag ++ leBytes 1 r) := by
  rw [Chip.pisteCheck, h]
  rfl

theorem Chip.pisteCheck_of_reshape {c : Chip} {src tag : Nat} {b : Bytes} (h : (leAt b 7 1).testBit 0 = false) :
    c.pisteCheck src tag b = c.send src 5 6 (leBytes 4 tag ++ leBytes 1 (c.checkReshapeFor b)) := by
  rw [Chip.pisteCheck, h]
  rfl

/-- A good reply to a check that still waits for others. -/
theorem Chip.checkReply_of_waiting {c : Chip} {src tag : Nat} {k : SpanCheck}
    (hk : c.ring.checks.find? (fun k => decide (k.tag = tag) && decide (src ∈ k.waiting)) = some k)
    (hw : k.waiting.filter (fun n => decide (n ≠ src)) ≠ []) :
    c.checkReply src tag 0 = c.onRing (fun r => { r with checks := r.checks.map (fun y =>
      if y.tag = tag then { k with waiting := k.waiting.filter (fun n => decide (n ≠ src)) } else y) }) := by
  rw [Chip.checkReply, hk]
  exact if_neg (by simpa using hw)

/-- A strip of a piste that is not here is failed. -/
theorem Chip.stripRead_of_absent {c : Chip} {src first count cls tag : Nat} {ref : StripeRef} (hj : c.joinedMember = true)
    (ho : (c.piste ref.piste).offer = false) (ha : (c.piste ref.piste).state = .absent) :
    c.stripRead src ref first count cls tag = c.emit (.stripe src 4 ref (leBytes 4 tag ++ leBytes 1 1)) := by
  rw [Chip.stripRead, if_neg (by rw [hj]; decide), Chip.homeHeard_of_kept ho]
  exact if_pos ha

/-- A known strip of a member of this unit that serves is read. -/
theorem Chip.stripRead_of_own {c : Chip} {src first count cls tag : Nat} {ref : StripeRef} {h : Spot} (hj : c.joinedMember = true) :
    let d := c.homeHeard src ref.piste
    let i : StripeId := ⟨ref.piste, false, (areaOf ref.stripe).1, (areaOf ref.stripe).2⟩
    let col := (bitsOf 32 ref.columnMask).headD 0
    (d.piste ref.piste).state ≠ .absent → d.stripHome i col = some h → d.ownNode h.node = true →
    (d.member h.slot).slot ≠ .contained → (d.known i col).isNone = false →
    c.stripRead src ref first count cls tag = d.issueRead h.slot cls h.zoned (d.physical h first count).1 (d.physical h first count).2
      (.remoteStrip src tag ref first count) none 0 := by
  intro d i col hs hh hown hmem hk
  rw [Chip.stripRead, if_neg (by rw [hj]; decide)]
  refine (if_neg hs).trans ?_
  rw [hh]
  exact (if_neg (by rw [hown]; decide)).trans ((if_neg hmem).trans (if_neg (by rw [hk]; decide)))

/-- A strip that was read, or failed, goes to the gather it was read for. -/
theorem Chip.endRead_of_found {c : Chip} {tag : Nat} {r : Nat × Nat × Nat × Option Nat} {g : Gather} (f : Chip → Nat → Nat → Chip)
    (hr : c.ring.reads.find? (fun r => decide (r.1 = tag)) = some r) (hg : c.gather r.2.1 = some g) :
    c.endRead tag f = f (c.onRing (fun k => { k with reads := k.reads.filter (fun y => decide (y.1 ≠ tag)) })) g.id r.2.2.1 := by
  have hg' : ∀ h, (c.onRing h).gather r.2.1 = some g := fun _ => hg
  rw [Chip.endRead, hr]
  dsimp only
  rw [hg']

/-! ### The commit of an entry -/

section
variable {c : Chip} {src slot : Nat} {ref : StripeRef} {e : Entry}

theorem Chip.written_of_home (h : c.entryOfRef ref = some (slot, e)) (hh : c.isHome e = true) :
    c.written src ref = (c.updEntry slot (fun e => { e with
      degraded := e.degraded || ref.degraded, round := { e.round with writtenFrom := addNew e.round.writtenFrom src } })).tryCall slot := by
  rw [Chip.written, h]
  exact if_neg (by rw [hh]; decide)

theorem Chip.called_of_away (h : c.entryOfRef ref = some (slot, e)) (hh : c.isHome e = false)
    (hsrc : c.unitOf (c.piste e.piste).home = src) : c.called src ref = c.onRound slot (fun r => { r with
      callStride := some ref.atStride, reports := [], reported := false, lockedAt1 := false, missedSent := false }) := by
  rw [Chip.called, h]
  exact if_neg (by simp [hh, hsrc])

theorem Chip.reported_of_call (h : c.entryOfRef ref = some (slot, e)) (ho : ref.outcome = 1)
    (hc : e.round.callStride = some ref.atStride) :
    c.reported src ref = c.onRound slot (fun r => { r with reports := addNew r.reports src }) := by
  rw [Chip.reported, h]
  exact if_pos ⟨ho, hc⟩

theorem Chip.recalled_of_away (h : c.entryOfRef ref = some (slot, e)) (hh : c.isHome e = false) :
    c.recalled src ref = (c.onRound slot (fun r => { r with recalling := true, callStride := none })).answerRecall slot := by
  rw [Chip.recalled, h]
  exact if_neg (by rw [hh]; decide)

/-- A state that leaves others to be heard is kept. -/
theorem Chip.stateAnswer_of_waiting (h : c.entryOfRef ref = some (slot, e)) (hh : c.isHome e = true) (hr : e.round.recalling = true) :
    let d := c.onRound slot (fun r => { r with states := e.round.states.put src ref.outcome })
    ((d.participants e).filter (fun n => decide (n ≠ d.straps.nodeId))).all
      (fun n => ((e.round.states.put src ref.outcome).find n).isSome) = false →
    c.stateAnswer src ref = d := by
  intro d hall
  rw [Chip.stateAnswer, h]
  exact (if_neg (by simp [hh, hr])).trans (if_pos (by rw [hall]; rfl))

theorem Chip.missedBy_of_own (hown : c.ownNode (c.piste ref.piste).home = true) (h : c.entryOfRef ref = some (slot, e)) :
    c.missedBy ref = if e.state = .committed then c.emit (.commit 32 7 { ref with outcome := 0 }) else c.resolveEntry slot := by
  rw [Chip.missedBy]
  refine (if_neg (by rw [hown]; decide)).trans ?_
  rw [h]

theorem Chip.resolved_of_away (h : c.entryOfRef ref = some (slot, e)) (hh : c.isHome e = false) (hs : e.state ≠ .committed)
    (hsrc : c.unitOf (c.piste e.piste).home = src) : c.resolved src ref = c.commitSpanning slot 0x3C23 := by
  rw [Chip.resolved, h]
  exact if_neg (by simp [hh, hs, hsrc])

theorem Chip.retryExpiry_of_due {p q g lap : Nat} (h : c.entryOfRef { c.stripeRef ⟨p, false, 0, 0⟩ 0 g with stripe := q } = some (slot, e))
    (hlap : e.round.retryLap = some lap) (hh : c.isHome e = true) (hs : e.state ≠ .committed) (hdue : lap ≤ c.lap) :
    c.retryExpiry p q g = c.resolveEntry slot := by
  rw [Chip.retryExpiry, h]
  dsimp only
  rw [hlap]
  exact if_pos ⟨hh, hs, hdue⟩

theorem Chip.missedAgain_of_due {p q g : Nat} (h : c.entryOfRef { c.stripeRef ⟨p, false, 0, 0⟩ 0 g with stripe := q } = some (slot, e))
    (hsp : e.spanning = true) (hh : c.isHome e = false) (hs : e.state = .parityDurable) (hcall : e.round.callStride = none)
    (hdue : e.round.sinceLap + 64 ≤ c.lap) : c.missedAgain p q g = c.sendMissed slot := by
  rw [Chip.missedAgain, h]
  exact if_pos ⟨hsp, by rw [hh]; rfl, hs, by rw [hcall]; rfl, hdue⟩

/-- A spanning write that has no entry yet, on a conventional piste of its home, becomes an OPEN one. -/
theorem Chip.stripWrite_of_new {pc first count : Nat} {m : Bytes} {l : List (List Bytes)} (hj : c.joinedMember = true)
    (ho : (c.piste ref.piste).offer = false) (ha : (c.piste ref.piste).state ≠ .absent) (hcr : (c.piste ref.piste).state ≠ .creating)
    (hu : c.unitOf (c.piste ref.piste).home = src) (hg : (c.piste ref.piste).groomed = false) (hnone : c.entryOfRef ref = none)
    (hfree : c.freeJournalSlot = some slot) :
    c.stripWrite src ref m pc first count l =
      let cols := bitsOf 32 ref.columnMask
      ((c.setEntry slot { Entry.reset with
        state := .open_, piste := ref.piste, kind := ref.kind, acked := ref.acked, spanning := true, degraded := ref.degraded
        stripMask := ref.columnMask, stripe := ref.stripe, generation := ref.generation, stride := c.clk.stride, parityCheck := pc
        first, count, memberSet := parseMemberSet m, newGeom := c.inNewGeom ref.piste ref.kind ref.stripe, computed := true
        columns := (List.range cols.length).foldl (fun m j => KMap.put m (atD cols j 0) (atD l j [])) []
        touched := true, round := { CommitRound.reset with sinceLap := c.lap } }).updPiste ref.piste (fun x => { x with
          generation := max x.generation (ref.generation + 1) })).pumpEntry slot := by
  rw [Chip.stripWrite, Chip.homeHeard_of_kept ho]
  refine (if_neg (by simp [hj, ha, hcr, hu])).trans ?_
  simp only [hnone, hfree, hg, Bool.false_eq_true, false_and, if_false]
  rfl

end

/-- Settles O47: each message acts on the entry, the gather or the check it names; a barred source is counted. -/
theorem spanningStripesCommit : Obligations.SpanningStripesCommit := by
  have barred : ∀ (s : State) (src : Nat) (f : Chip → Chip), s.sourceBarred src = true →
      s.effect (fun c => c.fromSource src f) = .next (s.left (s.bump 0x3C26)) := fun s src f h =>
    s.effect_eq_left (Chip.fromSource_of_barred f h)
  refine ⟨fun s src ref h => ⟨barred s src _ h, barred s src _ h, barred s src _ h, barred s src _ h, barred s src _ h, barred s src _ h,
      barred s src _ h⟩,
    fun s src tag b h => s.effect_eq_left (Chip.pisteCheck_of_create h), fun s src tag b h => s.effect_eq_left (Chip.pisteCheck_of_reshape h),
    fun s src tag k hk hw => ⟨_, s.effect_eq_left (Chip.checkReply_of_waiting hk hw), ?_, ?_⟩,
    fun s src first count cls tag ref hsrc hj ho ha => State.effect_fromSource hsrc (Chip.stripRead_of_absent hj ho ha),
    fun s src first count cls tag ref h hsrc hj hs hh hown hmem hk =>
      State.effect_fromSource hsrc (Chip.stripRead_of_own hj hs hh hown hmem hk),
    fun s src tag ref l r g hsrc hr hg => ⟨State.effect_fromSource hsrc (Chip.endRead_of_found _ hr hg),
      State.effect_fromSource hsrc (Chip.endRead_of_found _ hr hg), State.effect_fromSource hsrc (Chip.endRead_of_found _ hr hg)⟩,
    fun s src slot ref e hsrc h hh => State.effect_fromSource hsrc (Chip.written_of_home h hh),
    fun s src slot ref e hsrc h hh hu => State.effect_fromSource hsrc (Chip.called_of_away h hh hu),
    fun s src slot ref e hsrc h ho hc => State.effect_fromSource hsrc (Chip.reported_of_call h ho hc),
    fun s src slot ref e hsrc h hh => State.effect_fromSource hsrc (Chip.recalled_of_away h hh),
    fun s src slot ref e hsrc h hh hr hall =>
      State.effect_fromSource hsrc (congrArg Chip.pumpEntries (Chip.stateAnswer_of_waiting h hh hr hall)),
    fun s src slot ref e hsrc hown h => State.effect_fromSource hsrc (Chip.missedBy_of_own hown h),
    fun s src slot ref e hsrc h hh hs hu => State.effect_fromSource hsrc (Chip.resolved_of_away h hh hs hu),
    fun s p q g slot lap e h hlap hh hs hdue => s.effect_eq_left (Chip.retryExpiry_of_due h hlap hh hs hdue),
    fun s p q g slot e h hsp hh hs hcall hdue => s.effect_eq_left (Chip.missedAgain_of_due h hsp hh hs hcall hdue),
    fun s src pc first count slot ref m l hsrc hj ho ha hcr hu hg hnone hfree =>
      State.effect_fromSource hsrc (Chip.stripWrite_of_new hj ho ha hcr hu hg hnone hfree)⟩
  · exact dataStands_left ⟨rfl, rfl, rfl, rfl, rfl, rfl, rfl, rfl⟩
  · simp

end Sys2Proof.Machine
end

section
/-! The management network (O48, O49, O50) and the writes of the dictionary (O51). -/

namespace Sys2Proof.Machine

/-! ### Frames -/

section
variable {c : Chip} {f : AdpFrame} {act : Chip → Chip}

/-- A frame whose tag is its own reaches what it asks for, counted. -/
theorem Chip.takeFrame_of_arrives (h : Arrives c f) : c.takeFrame f act = act (c.bump 0x4030) := by
  obtain ⟨hup, hmac, key, hkey, htag⟩ := h
  rw [Chip.takeFrame, if_neg (by simp [hup, hmac])]
  have hkey' : (c.bump 0x4030).dict.keys.find f.keySlot = some key := hkey
  have hup' : (c.bump 0x4030).adp.astate = 2 := hup
  dsimp only
  rw [hkey']
  exact if_neg (not_or.mpr ⟨not_not_intro htag, not_not_intro hup'⟩)

/-- A frame whose tag is not its own is discarded and counted. -/
theorem Chip.takeFrame_of_bad {key : Bytes} (hup : c.adp.astate = 2) (hmac : c.macTakes f = true)
    (hkey : c.dict.keys.find f.keySlot = some key) (htag : hmacTag key (frameBytes f) ≠ f.tag) :
    c.takeFrame f act = (c.bump 0x4030).bump 0x4032 := by
  rw [Chip.takeFrame, if_neg (by simp [hup, hmac])]
  have hkey' : (c.bump 0x4030).dict.keys.find f.keySlot = some key := hkey
  dsimp only
  rw [hkey']
  exact if_pos (.inl htag)

/-! ### Requests of a session -/

/-- A request of no session is told so. -/
theorem Chip.inSession_of_none (h : Arrives c f) (hr : f.reply = false) (hv : f.version = 1) (hs : c.session f.session = none) :
    c.inSession f act = (c.bump 0x4030).sendFrame (replyTo f 5 []) := by
  have hs' : (c.bump 0x4030).session f.session = none := hs
  rw [Chip.inSession, Chip.takeFrame_of_arrives h, if_neg (by rw [hr]; decide), if_neg (not_not_intro hv), hs']

/-- A request of a session is told apart by its number. -/
theorem Chip.inSession_of_requests {x : Session} (h : Requests c f x) : c.inSession f act =
    if x.highest < f.seq then act (c.opened f)
    else if f.seq = x.highest then (match x.stored with | some r => (c.heard f).sendFrame r | none => c.heard f)
    else (c.heard f).bump 0x4033 := by
  obtain ⟨harr, hr, hv, hs⟩ := h
  have hs' : (c.bump 0x4030).session f.session = some x := hs
  rw [Chip.inSession, Chip.takeFrame_of_arrives harr, if_neg (by rw [hr]; decide), if_neg (not_not_intro hv), hs']
  rfl

/-- A new request of a session is acted upon. -/
theorem Chip.inSession_of_new {x : Session} (h : Requests c f x) (hseq : x.highest < f.seq) : c.inSession f act = act (c.opened f) :=
  (Chip.inSession_of_requests h).trans (if_pos hseq)

/-- The request processed last gets its stored reply again. -/
theorem Chip.inSession_of_repeat {x : Session} {r : AdpFrame} (h : Requests c f x) (hseq : f.seq = x.highest) (hr : x.stored = some r) :
    c.inSession f act = (c.heard f).sendFrame r := by
  rw [Chip.inSession_of_requests h, if_neg (by omega), if_pos hseq, hr]

/-- An older request is discarded and counted. -/
theorem Chip.inSession_of_old {x : Session} (h : Requests c f x) (hseq : f.seq < x.highest) :
    c.inSession f act = (c.heard f).bump 0x4033 := by
  rw [Chip.inSession_of_requests h, if_neg (by omega), if_neg (by omega)]

end

/-- Settles O48: a frame is discarded, answered, or acted upon as its tag, its version, its session and its number say. -/
theorem framesAndSessionsAreKept : Obligations.FramesAndSessionsAreKept := by
  refine ⟨fun s f key hup hmac hkey htag => ?_, fun s f harr hr => s.effect_eq_left ?_,
    fun s f harr hr hv hfilter => s.effect_eq_left ?_, fun s f harr hr hv => ⟨fun hroom => s.effect_eq_left ?_,
      fun o hfull ho => s.effect_eq_left ?_⟩,
    fun s f harr hr hv hs => s.effect_eq_left (Chip.inSession_of_none harr hr hv hs),
    fun s f x r h hseq hr => s.effect_eq_left (Chip.inSession_of_repeat h hseq hr),
    fun s f x h hseq => s.effect_eq_left (Chip.inSession_of_old h hseq)⟩
  · have hbad : ∀ act, s.effect (fun c => c.takeFrame f act) = .next (s.left ((s.bump 0x4030).bump 0x4032)) := fun act =>
      s.effect_eq_left (Chip.takeFrame_of_bad hup hmac hkey htag)
    exact ⟨hbad _, hbad _, hbad _, hbad _⟩
  · rw [Chip.takeFrame_of_arrives harr, if_neg (by rw [hr]; decide)]
  · rw [Chip.takeFrame_of_arrives harr]
    exact (if_neg (by rw [hr]; decide)).trans ((if_neg (not_not_intro hv)).trans (if_neg (by tauto)))
  · rw [Chip.takeFrame_of_arrives harr]
    refine (if_neg (by rw [hr]; decide)).trans ((if_neg (not_not_intro hv)).trans ?_)
    simp only [hroom, if_true]
  · rw [Chip.takeFrame_of_arrives harr]
    refine (if_neg (by rw [hr]; decide)).trans ((if_neg (not_not_intro hv)).trans ?_)
    simp only [Nat.not_lt.mpr hfull, if_false, ho]

/-! ### READ, WRITE and PAIR_WRITE -/

section
variable {c : Chip} {f : AdpFrame} {act : Chip → Chip}

theorem Chip.whenServed_of_serving (h : c.adpServes = true) (hq : c.adpQueueFull = false) : c.whenServed f act = act c := by
  rw [Chip.whenServed, if_neg (by rw [h]; decide), if_neg (by rw [hq]; decide)]

theorem Chip.whenServed_of_unready (h : c.adpServes = false) : c.whenServed f act = c.answerBusy f := if_pos (by rw [h]; rfl)

theorem Chip.whenServed_of_full (h : c.adpServes = true) (hq : c.adpQueueFull = true) :
    c.whenServed f act = (c.bump 0x4034).answerFrame f 1 (leBytes 2 1) := by
  rw [Chip.whenServed, if_neg (by rw [h]; decide), if_pos hq]

/-- A READ within its object and its reply is answered with the bytes asked for. -/
theorem Chip.adpRead_of_found {b : Bytes} (h : c.adpServes = true) (hq : c.adpQueueFull = false)
    (hb : c.readObject (leAt f.body 0 2) (leAt f.body 2 1) = some b) (hoff : leAt f.body 4 4 ≤ b.length)
    (hn : leAt f.body 8 2 ≤ c.val 0x4003 - 8) :
    c.adpRead f = c.answerFrame f 0 (leBytes 4 b.length ++
      leBytes 4 (c.dict.changes.getD (objKey (leAt f.body 0 2) (leAt f.body 2 1)) 0) ++
      (b.drop (leAt f.body 4 4)).take (leAt f.body 8 2)) := by
  rw [Chip.adpRead, Chip.whenServed_of_serving h hq]
  dsimp only
  rw [hb]
  exact if_neg (by rw [not_or]; exact ⟨Nat.not_lt.mpr hoff, Nat.not_lt.mpr hn⟩)

/-- A write by the network that the dictionary takes is answered with its log number. -/
theorem Chip.netWrite_of_taken {x : Nat × Nat × Bytes} {w : Writer} {o : Obj} (ho : c.object x.1 x.2.1 = some o) (hs : o.secret = false)
    (hr : (c.dictTake x.1 x.2.1 x.2.2 (leNat (x.2.2.take 8)) w).reason = 0) :
    c.netWrite f x w =
      let t := c.dictTake x.1 x.2.1 x.2.2 (leNat (x.2.2.take 8)) w
      t.act (t.chip.answerFrame f 0 (leBytes 8 t.chip.newestLog)) := by
  simp only [Chip.netWrite, ho, hs, hr, Bool.false_eq_true, if_false, writeReply, if_true]

end

/-- Settles O49: a request that is served acts and is answered; one that is not is answered BUSY. -/
theorem requestsOfTheNetworkAreServed : Obligations.RequestsOfTheNetworkAreServed := by
  refine ⟨fun s f x b h hseq hup hq hb hoff hn => s.effect_eq_left ?_,
    fun s f x h hseq hun => ⟨s.effect_eq_left ?_, s.resetEffect_eq_left (congrArg Chip.pumpHost ?_),
      s.resetEffect_eq_left (congrArg Chip.pumpHost ?_)⟩,
    fun s f x o h hseq hup hq hpass ho hs hr => s.resetEffect_eq_left (congrArg Chip.pumpHost ?_),
    fun s f x o h hseq hup hq hl hf hmac ho hw hs hr => s.resetEffect_eq_left (congrArg Chip.pumpHost ?_),
    fun s f x h hseq => ⟨fun hpair hwatch => s.effect_eq_left ?_, s.effect_eq_left (Chip.inSession_of_new h hseq),
      s.effect_eq_left (Chip.inSession_of_new h hseq)⟩,
    fun s f x h hseq hup hq => ⟨s.effect_eq_left ?_, s.resetEffect_eq_left (congrArg Chip.pumpHost ?_),
      s.resetEffect_eq_left (congrArg Chip.pumpHost ?_)⟩⟩
  · rw [Chip.inSession_of_new h hseq, Chip.adpRead_of_found hup hq hb hoff hn]
  · exact (Chip.inSession_of_new h hseq).trans (Chip.whenServed_of_unready hun)
  · exact (Chip.inSession_of_new h hseq).trans (Chip.whenServed_of_unready hun)
  · exact (Chip.inSession_of_new h hseq).trans (Chip.whenServed_of_unready hun)
  · rw [Chip.inSession_of_new h hseq, Chip.adpWrite, Chip.whenServed_of_serving hup hq]
    exact (if_neg (by rw [hpass]; simp)).trans (Chip.netWrite_of_taken ho hs hr)
  · rw [Chip.inSession_of_new h hseq, Chip.pairWrite, Chip.whenServed_of_serving hup hq]
    exact (if_pos ⟨hl, hf, hmac, by rw [ho]; exact hw⟩).trans (Chip.netWrite_of_taken ho hs hr)
  · rw [Chip.inSession_of_new h hseq, if_pos ⟨hpair, hwatch⟩]
  · exact (Chip.inSession_of_new h hseq).trans (Chip.whenServed_of_full hup hq)
  · exact (Chip.inSession_of_new h hseq).trans (Chip.whenServed_of_full hup hq)
  · exact (Chip.inSession_of_new h hseq).trans (Chip.whenServed_of_full hup hq)

/-! ### The unit's own requests -/

/-- A reply in the partner's session goes to the request it answers. -/
theorem Chip.adpReply_of_partner {c : Chip} {f : AdpFrame} (hr : f.reply = true) (h1 : f.op ≠ 0x01) (h2 : f.op ≠ 0x02)
    (h0 : f.session ≠ 0) (hs : f.session = c.adp.toPartner.id) (hmac : f.srcMac = c.adp.partnerMac) :
    c.adpReply f = c.sessionReply f false := by
  rw [Chip.adpReply, if_neg (by rw [hr]; decide), if_neg h1, if_neg h2, if_pos ⟨h0, hs, hmac⟩]

/-- The reply to the request that is out ends it, makes it wait, or opens a new session. -/
theorem Chip.sessionReply_of_request {c : Chip} {f r : AdpFrame} {judge : Bool} (hop : f.op ≠ 0x20)
    (hout : (c.requester judge).outstanding = some r) (hseq : r.seq = f.seq) (hsame : r.op = f.op)
    (hretry : (c.requester judge).retryLap = none) : c.sessionReply f judge =
      if f.status = 5 then c.sessionGone judge
      else if f.status = 1 then c.setRequester judge { c.requester judge with retryLap := some (c.lap + leAt f.body 0 2) }
      else c.requestEnded judge f.op (replyReason f) (if f.status = 3 then leAt f.body 8 8 else leAt f.body 0 8) := by
  rw [Chip.sessionReply, if_neg (by simp [hop])]
  dsimp only
  rw [hout]
  exact if_neg (by simp [hseq, hsame, hretry])

/-- An unanswered request is sent again, or given up after its last retry. -/
theorem Chip.requestTimeout_of_due {c : Chip} {judge : Bool} {f : AdpFrame} (hout : (c.requester judge).outstanding = some f)
    (hretry : (c.requester judge).retryLap = none) (hdue : (c.requester judge).sentLap + c.val 0x4004 ≤ c.lap) :
    c.requestTimeout judge =
      if (c.requester judge).tries < c.val 0x4005 then
        (c.setRequester judge { c.requester judge with tries := (c.requester judge).tries + 1, sentLap := c.lap }).sendFrame f
      else
        let d := (c.setRequester judge { c.requester judge with id := 0, outstanding := none, tries := 0 }).pairRecord 13
        (if f.op = 0x12 then d.pairOutcome 5 0 else d).openSession judge := by
  unfold Chip.requestTimeout
  dsimp only
  rw [hout]
  exact if_neg (by simp [hretry, hdue])

/-- Settles O50: a reply or a timeout takes the branch its status, or the tries left, choose. -/
theorem requestsOfTheUnitEnd : Obligations.RequestsOfTheUnitEnd := by
  refine ⟨fun s f r harr hr h1 h2 h0 hs hmac hop hout hseq hsame hretry => ?_, fun s judge f hout hretry hdue =>
    ⟨fun htries => s.effect_eq_left (congrArg Chip.pumpHost ((Chip.requestTimeout_of_due hout hretry hdue).trans (if_pos htries))),
      fun htries hop => s.effect_eq_left (congrArg Chip.pumpHost ?_)⟩⟩
  · have hreply : s.takeFrame f (fun c => c.adpReply f) = _ :=
      (Chip.takeFrame_of_arrives harr).trans ((Chip.adpReply_of_partner (c := s.bump 0x4030) hr h1 h2 h0 hs hmac).trans
        (Chip.sessionReply_of_request hop hout hseq hsame hretry))
    refine ⟨fun hst => ?_, fun hst => ?_, fun hst => ?_⟩ <;> refine s.effect_eq_left (congrArg Chip.pumpHost (hreply.trans ?_))
    · simp only [hst, replyReason, OfNat.zero_ne_ofNat, if_false, if_true, zero_ne_one]
    · rw [if_neg (by omega), if_pos hst]
      rfl
    · exact if_pos hst
  · refine (Chip.requestTimeout_of_due hout hretry hdue).trans ((if_neg (Nat.not_lt.mpr htries)).trans ?_)
    exact congrArg (fun d : Chip => d.openSession judge) (if_neg hop)

/-! ### Writes of the dictionary -/

/-- Settles O51: a write that is taken acts; the settings held are committed; the PHY is set up again. -/
theorem dictionaryWritesTakeEffect : Obligations.DictionaryWritesTakeEffect := by
  refine ⟨fun s index sub b w _ => s.resetEffect_left _, fun s v w h => s.effect_eq_left (Chip.command_of_accepted h v _),
    fun s slot key w h => s.effect_eq_left (Chip.command_of_accepted h 0 _),
    fun s h => s.effect_eq_left (if_neg (by rw [List.isEmpty_iff]; exact h)),
    fun s bad hval hrun => ⟨s.effect_eq_left ?_, s.effect_eq_left ?_⟩⟩
  · exact if_neg (by simp [hval, hrun])
  · exact if_neg (by simp [hval, hrun])

end Sys2Proof.Machine
end

section
/-! The supply and the pack (O52, O53). -/

namespace Sys2Proof.Machine

/-! ### What the supply's and the pack's events leave of the data -/

/-- The members, the pistes and what is held of them are the same in both chips. -/
def Chip.SameData (c d : Chip) : Prop :=
  d.members = c.members ∧ d.gathers = c.gathers ∧ d.pistes = c.pistes ∧ d.cache = c.cache ∧ d.journal = c.journal ∧ d.logs = c.logs ∧
    d.sched = c.sched ∧ d.dir = c.dir

section
variable {c d e : Chip}

theorem Chip.SameData.of_eq (h : d = c) : c.SameData d := by
  subst h
  exact ⟨rfl, rfl, rfl, rfl, rfl, rfl, rfl, rfl⟩

theorem Chip.SameData.trans (h : c.SameData d) (h' : d.SameData e) : c.SameData e := by
  obtain ⟨h1, h2, h3, h4, h5, h6, h7, h8⟩ := h
  obtain ⟨g1, g2, g3, g4, g5, g6, g7, g8⟩ := h'
  exact ⟨g1.trans h1, g2.trans h2, g3.trans h3, g4.trans h4, g5.trans h5, g6.trans h6, g7.trans h7, g8.trans h8⟩

/-- A command leaves the data of its state that its effect leaves. -/
theorem Chip.SameData.left {s : State} (h : s.toChip.SameData c) : dataStands s (s.left c) := dataStands_left h

theorem Chip.SameData.onPower (c : Chip) (f : Power → Power) : c.SameData (c.onPower f) := ⟨rfl, rfl, rfl, rfl, rfl, rfl, rfl, rfl⟩

theorem Chip.SameData.emit (c : Chip) (o : Output) : c.SameData (c.emit o) := ⟨rfl, rfl, rfl, rfl, rfl, rfl, rfl, rfl⟩

theorem Chip.SameData.setCharger (c : Chip) (v : Nat) : c.SameData (c.setCharger v) := Chip.SameData.onPower c _

theorem Chip.SameData.record (c : Chip) (code : Nat) (named : Option Nat) (body : Bytes) : c.SameData (c.record code named body) := by
  simp [Chip.SameData]

theorem Chip.SameData.supplyRecord (c : Chip) (detail : Nat) : c.SameData (c.supplyRecord detail) := Chip.SameData.record c _ _ _

theorem Chip.SameData.logChange (c : Chip) (index sub : Nat) (w : Writer) (reason detail old new : Nat) (secret : Bool) :
    c.SameData (c.logChange index sub w reason detail old new secret) := by
  simp [Chip.SameData]

end

/-- The charger stays in its state, or is put into one. -/
theorem Chip.chargerLap_eq (c : Chip) : c.chargerLap = c ∨ ∃ v, c.chargerLap = c.setCharger v := by
  unfold Chip.chargerLap
  dsimp only
  split
  · exact .inr ⟨_, rfl⟩
  split
  · exact .inl rfl
  split
  · split
    · exact .inr ⟨_, rfl⟩
    · exact .inl rfl
  split
  · exact .inr ⟨_, rfl⟩
  split
  · exact .inl rfl
  · exact .inr ⟨_, rfl⟩

theorem Chip.SameData.chargerLap (c : Chip) : c.SameData c.chargerLap := by
  rcases c.chargerLap_eq with h | ⟨v, h⟩ <;> rw [h]
  · exact .of_eq rfl
  · exact .setCharger c v

/-- What setting the charger leaves of the power's state, the charger leaves. -/
theorem Chip.chargerLap_keeps {β : Type} (g : Power → β) (h : ∀ (c : Chip) v, g (c.setCharger v).power = g c.power) (c : Chip) :
    g c.chargerLap.power = g c.power := by
  rcases c.chargerLap_eq with h' | ⟨v, h'⟩ <;> rw [h']
  exact h c v

/-- An LTR message leaves the power and the data. -/
theorem Chip.ltrCheck_stands (c : Chip) : c.ltrCheck.power = c.power ∧ c.SameData c.ltrCheck := by
  unfold Chip.ltrCheck
  dsimp only
  split
  · exact ⟨rfl, rfl, rfl, rfl, rfl, rfl, rfl, rfl, rfl⟩
  generalize (if c.ltrShort = true then 2
    else if c.host.ltrState = 2 ∧ (!decide (c.dirtyBytes * 100 ≤ c.cache.ceiling * c.val 0x1823)) = true then 2 else 1 : Nat) = new
  split
  · exact ⟨rfl, .of_eq rfl⟩
  · exact ⟨rfl, rfl, rfl, rfl, rfl, rfl, rfl, rfl, rfl⟩

theorem Chip.endBrace_of_other {c : Chip} (h : c.power.supply ≠ .brace) : c.endBrace = c := if_neg h

theorem Chip.SameData.endBrace (c : Chip) : c.SameData c.endBrace := by
  unfold Chip.endBrace
  split
  · exact (show c.SameData (c.setVal 0x4407 0 c.power.braceMin) from ⟨rfl, rfl, rfl, rfl, rfl, rfl, rfl, rfl⟩).trans (.record ..)
  · exact .of_eq rfl

theorem Chip.stirPause_of_other {c : Chip} (h : c.power.pause ≠ 2) : c.stirPause = c := if_neg h

/-! ### Brace, exposure and backup -/

theorem Chip.vinWarn_of_low {c : Chip} {mv : Nat} (hr : c.clk.running = true) (hs : c.power.supply = .normal) (hmv : mv ≤ c.val 0x4400) :
    c.vinWarn mv = Chip.supplyRecord (Chip.ltrCheck (Chip.chargerLap (Chip.stirPause (Chip.bump
      (c.onPower (fun p => { p with supply := .brace, vinNow := mv, goodLaps := 0, braceLaps := 0, braceMin := mv })) 0x4406)))) 9 :=
  if_neg (by simp [hr, hs, hmv])

/-- After 4 good laps brace, or exposure, is over. -/
theorem Chip.braceExit_of_good {c : Chip} (hs : c.power.supply = .brace ∨ c.power.supply = .exposed) (hgood : 4 ≤ c.power.goodLaps) :
    c.braceExit = ((c.endBrace.onPower (fun p => { p with supply := .normal })).chargerLap).ltrCheck :=
  if_pos ⟨by simpa [Chip.braced] using hs, hgood⟩

/-- In brace a unit without a usable pack is exposed at the switch level. -/
theorem Chip.vinSwitch_of_exposed {c : Chip} {mv : Nat} (hr : c.clk.running = true) (hs : c.power.supply = .brace)
    (hmv : mv ≤ c.val 0x4401) (hp : c.power.packState ≠ 1) :
    c.vinSwitch mv = Chip.supplyRecord (Chip.ltrCheck (Chip.chargerLap (Chip.stirPause
      ((c.onPower (fun p => { p with vinNow := mv, goodLaps := 0, braceMin := min c.power.braceMin mv })).endBrace.onPower
        (fun p => { p with supply := .exposed }))))) 13 := by
  have hb : c.braced = true := by simp [Chip.braced, hs]
  rw [Chip.vinSwitch, if_neg (by simp [hr, Chip.onBackup, hs, hmv])]
  refine (if_neg hp).trans ((if_neg (by simp [hs])).trans ?_)
  simp only [hb, if_true]
  rfl

/-- In NORMAL a unit with a usable pack turns on its hold-up and moves to it. -/
theorem Chip.vinSwitch_of_backup {c : Chip} {mv : Nat} (hr : c.clk.running = true) (hs : c.power.supply = .normal)
    (hmv : mv ≤ c.val 0x4401) (hp : c.power.packState = 1) (hpause : c.power.pause ≠ 2) :
    c.vinSwitch mv = Chip.toBackup (c.onPower (fun p => { p with
      vinNow := mv, goodLaps := 0, braceMin := mv, holdup := true, chgEn := false, charger := 5, test := none, recovered := false
      restNs := c.clk.opNs })) := by
  have hb : c.braced = false := by simp [Chip.braced, hs]
  rw [Chip.vinSwitch, if_neg (by simp [hr, Chip.onBackup, hs, hmv])]
  refine (if_pos hp).trans ?_
  rw [Chip.endBrace_of_other (by simp [hs]), Chip.stirPause_of_other (by simpa using hpause)]
  simp only [hb, Bool.false_eq_true, if_false]
  rfl

/-! ### Resets -/

theorem Chip.ringSettle_of_fresh {c : Chip} (h : c.ring.stale = false) : c.ringSettle = c := if_neg (by rw [h]; decide)

/-- Where the ring is not to be settled, a reset command leaves what its reset does. -/
theorem State.resetLeft_of_fresh {s : State} {c : Chip} (h : c.ring.stale = false) :
    s.resetLeft c = s.leaves (Chip.resetSettle { c with clk := s.clk, straps := s.straps }) := by
  rw [State.resetLeft, Chip.ringSettle_of_fresh (by exact h)]

/-- A unit that is held stops its clock and keeps the rest of it, and its straps. -/
theorem State.resetLeft_held {s : State} {c : Chip} (h : c.ring.stale = false) :
    (s.resetLeft (c.leadsTo .held)).clk = { s.clk with running := false } ∧ (s.resetLeft (c.leadsTo .held)).straps = s.straps := by
  rw [State.resetLeft_of_fresh (c := c.leadsTo .held) h, State.leaves_clk, State.leaves_straps]
  exact ⟨rfl, rfl⟩

theorem Chip.startDirectory_clk (c : Chip) : c.startDirectory.clk = c.clk := by
  unfold Chip.startDirectory
  split <;> rfl

theorem Chip.startDirectory_recorder (c : Chip) : c.startDirectory.recorder = c.recorder := by
  unfold Chip.startDirectory
  split <;> rfl

theorem Clock.restarted_of_warm {k : Clock} {kind : Nat} (h : kind ≠ 0) (ms : Nat) : k.restarted kind ms =
    { Clock.reset with opNs := k.opNs, cycles := k.cycles, startNs := k.opNs, missed := k.missed } := by
  simp only [Clock.restarted, if_neg h]
  rfl

/-- A cold start goes on from the time that was saved. -/
theorem Chip.restart_clk_of_cold (c : Chip) (i : StartInputs) : (c.restart 0 i).clk = c.clk.restarted 0 c.recorder.savedMs := by
  show Clock.restarted c.startDirectory.clk 0 c.startDirectory.recorder.savedMs = _
  rw [Chip.startDirectory_clk, Chip.startDirectory_recorder]

/-- A start of another kind keeps the operating time and the cycle count. -/
theorem Chip.restart_clk_of_warm {c : Chip} {kind : Nat} (h : kind ≠ 0) (i : StartInputs) : (c.restart kind i).clk =
    { Clock.reset with opNs := c.clk.opNs, cycles := c.clk.cycles, startNs := c.clk.opNs, missed := c.clk.missed } := by
  refine (Clock.restarted_of_warm h _).trans ?_
  rw [Chip.startDirectory_clk, if_neg h, Chip.aside_clk]

theorem Chip.restart_straps (c : Chip) (kind : Nat) (i : StartInputs) : (c.restart kind i).straps = c.straps.restarted kind i := by
  refine (congrArg (fun t : Straps => t.restarted kind i) (Chip.startDirectory_straps _)).trans ?_
  split
  · rfl
  · rfl

/-- A unit that starts again, its supply kept, keeps the operating time and the cycle count. -/
theorem State.resetLeft_warm {s : State} {c : Chip} {kind : Nat} (h : c.ring.stale = false) (hk : kind ≠ 0) (i : StartInputs) :
    (s.resetLeft (c.leadsTo (.restart kind i))).clk =
      { Clock.reset with opNs := s.clk.opNs, cycles := s.clk.cycles, startNs := s.clk.opNs, missed := s.clk.missed } ∧
    (s.resetLeft (c.leadsTo (.restart kind i))).straps = s.straps.restarted kind i := by
  rw [State.resetLeft_of_fresh (c := c.leadsTo (.restart kind i)) h, State.leaves_clk, State.leaves_straps]
  exact ⟨Chip.restart_clk_of_warm hk i, Chip.restart_straps _ kind i⟩

/-- Settles O52: each level of the input is one branch of its command; what a reset does follows from the reset it leads to. -/
theorem supplyStateFollowsTheInput : Obligations.SupplyStateFollowsTheInput := by
  refine ⟨fun s mv hr hs hmv => s.effect_eq_left (Chip.vinWarn_of_low hr hs hmv),
    fun s hs hgood => ⟨_, s.effect_eq_left (Chip.braceExit_of_good hs hgood), ?_, ?_⟩,
    fun s mv hr hs hmv hp => s.effect_eq_left (Chip.vinSwitch_of_exposed hr hs hmv hp),
    fun s mv hr hs hmv hp hpause => s.effect_eq_left (Chip.vinSwitch_of_backup hr hs hmv hp hpause),
    fun s mv hs hh hmv hring => ⟨_, s.resetEffect_eq_left (if_pos ⟨hs, by rw [hh]; rfl, hmv⟩), ?_⟩,
    fun s hv hring => ⟨_, s.resetEffect_eq_left (if_pos hv), ?_⟩, fun s hs hgood => s.resetEffect_eq_left ?_⟩
  · rw [State.left_power, (Chip.ltrCheck_stands _).1]
    exact Chip.chargerLap_keeps Power.supply (fun _ _ => rfl) _
  · exact Chip.SameData.left ((((Chip.SameData.endBrace _).trans (.onPower _ _)).trans (.chargerLap _)).trans (Chip.ltrCheck_stands _).2)
  · exact congrArg Clock.running (State.resetLeft_held (c := s.onPower _) hring).1
  · exact (State.resetLeft_warm hring one_ne_zero _).1
  · have hdown : s.power.supply ≠ .down := by
      rintro h
      simp [h] at hs
    rw [Chip.inputRecovered, if_neg hdown]
    exact if_pos ⟨hs, hgood⟩

/-! ### The pack -/

theorem Chip.packLeaves_of_connected {c : Chip} {cause : Nat} (hp : c.power.packState = 1) (hc : cause = 0 ∨ cause = 3 ∨ cause = 4) :
    c.packLeaves cause = (((c.onPower (fun p => { p with packState := cause })).onCache (fun k =>
      { k with gateClosed := true })).supplyRecord 5).chargerLap := if_pos ⟨hp, hc⟩

/-- A first pack that reads as usable takes its first estimate. -/
theorem Chip.packConnected_of_first {c : Chip} {mv : Nat} {dc : Int} (hp : c.power.packState = 0 ∨ c.power.packState = 3)
    (hread : c.packReading (mv * 1000) dc = 1) (hfirst : c.power.first = true) :
    c.packConnected mv dc = ((((c.onPower (fun p => { p with packState := 1 })).onCache (fun k =>
      { k with gateClosed := c.power.shipPending })).firstEstimate (mv * 1000) dc).supplyRecord 6).chargerLap := by
  rw [Chip.packConnected, if_pos ⟨hp, hread⟩]
  exact congrArg (fun d : Chip => (d.supplyRecord 6).chargerLap) (if_pos hfirst)

theorem Chip.shipOpen_of_clean {c : Chip} (hship : c.power.shipPending = true) (hd : c.dirtyBytes = 0) (hs : c.power.supply = .normal) :
    c.shipOpen = (((c.setCharger 5).onPower (fun p => { p with
      packState := 2, packSw := true, packSwNs := c.clk.opNs })).emit (.flashWrite 4)).supplyRecord 8 := if_pos ⟨hship, hd, hs⟩

/-- Settles O53: each event of the pack is one branch of its command. -/
theorem packStateOpensAndClosesTheGate : Obligations.PackStateOpensAndClosesTheGate := by
  refine ⟨fun s cause hp hc => s.effect_eq_left (Chip.packLeaves_of_connected hp hc),
    fun s mv dc hp hread hfirst => s.effect_eq_left (Chip.packConnected_of_first hp hread hfirst),
    fun s w h => ⟨_, s.effect_eq_left (Chip.command_of_accepted h 0x50494853 _), ?_, ?_, ?_, ?_, ?_⟩,
    fun s hship hd hs => ⟨_, s.effect_eq_left (Chip.shipOpen_of_clean hship hd hs), ?_, ?_, ?_, ?_, ?_⟩,
    fun s uv dc hp harm hlo hhi => s.effect_eq_left (if_pos ⟨hp, harm, hlo, hhi⟩)⟩
  · simp [Chip.shipAct]
  · simp [Chip.shipAct]
  · simp [Chip.shipAct]
  · simp [Chip.shipAct]
  · simp [Chip.shipAct]
  · simp [Chip.supplyRecord]
  · simp [Chip.supplyRecord]
  · simp [Chip.supplyRecord, Chip.setCharger]
  · simp [Chip.supplyRecord, Chip.setCharger]
  · exact Chip.SameData.left ((((Chip.SameData.setCharger _ _).trans (.onPower _ _)).trans (.emit _ _)).trans (.supplyRecord _ _))

end Sys2Proof.Machine
end

section
/-! The charger and the pack's estimator (O54). -/

namespace Sys2Proof.Machine

section
variable {c : Chip} {uv moved t0 : Nat} {dc : Int}

theorem Chip.setCharger_of_cc (h : c.power.charger = 1) :
    c.setCharger 2 = { c with power := { c.power with charger := 2, chgEn := true, restNs := c.clk.opNs } } :=
  congrArg (fun n => { c with power := { c.power with charger := 2, chgEn := true, restNs := n } }) (if_pos (.inl h))

/-- The rest at a start is over. -/
theorem Chip.startRestEnd_of_over (h : c.power.startRest = some t0) (hover : t0 + 120000 * 1000000 ≤ c.clk.opNs) :
    c.startRestEnd uv dc moved =
      let ship := decide (c.power.packState = 2)
      let d := c.onPower (fun p => { p with startRest := none, shipArmed := ship })
      let zv := packOcvInv c.pack dc ((uv : Rat) / 1000000 + packIdle c.pack * c.power.k * packRs c.pack dc + c.power.vrc)
      (if moved ≤ 2000 ∧ !ship ∧ !c.power.first then (d.onPower (fun p => { p with packUv := uv, tempDc := dc })).restPoint zv
        else d).chargerLap := by
  rw [Chip.startRestEnd, h]
  exact if_neg (by simpa [Chip.elapsedMs] using hover)

theorem Chip.startRestEnd_of_early (h : ∀ t0, c.power.startRest = some t0 → c.clk.opNs < t0 + 120000 * 1000000) :
    c.startRestEnd uv dc moved = c := by
  unfold Chip.startRestEnd
  split
  · rfl
  · next t ht => exact if_pos (by simpa [Chip.elapsedMs] using h t ht)

/-- A pause whose time is over ends at a rest point, or fails. -/
theorem Chip.pauseEnd_of_over (hp : c.power.pause = 2) (h : c.power.pauseNs = some t0) (hover : t0 + 1800000 * 1000000 ≤ c.clk.opNs) :
    c.pauseEnd uv dc =
      if c.atRest then ((c.onPower (fun p => { p with pause := 0, pauseNs := none, tempDc := dc })).restPoint
        (packOcvInv c.pack dc ((uv : Rat) / 1000000 + packIdle c.pack * c.power.k * packRs c.pack dc + c.power.vrc))).chargerLap
      else c.pauseFails.chargerLap := by
  rw [Chip.pauseEnd, h]
  exact if_neg (by simpa [Chip.elapsedMs, hp] using hover)

/-- While a pause is under way the charger is held. -/
theorem Chip.chargerLap_of_pause (h : c.power.pauseNs = some t0) : c.chargerLap = c.setCharger 4 := by
  rw [Chip.chargerLap, if_pos (by simp [Chip.mayCharge, h])]
  rw [Power.heldState, if_pos (by simp [h])]

/-- Within its bounds a measured resistance moves k by an eighth of the way, which is kept. -/
theorem Chip.resistanceStep_of_good (hl : c.power.learn ≠ 3)
    (hlo : (1 : Rat) / 2 ≤ ratio ((uv : Rat) / 1000000) (packIchg c.pack * packRs c.pack dc))
    (hhi : ratio ((uv : Rat) / 1000000) (packIchg c.pack * packRs c.pack dc) ≤ 4) :
    c.resistanceStep uv dc = (c.onPower (fun p => { p with
      k := p.k + (ratio ((uv : Rat) / 1000000) (packIchg c.pack * packRs c.pack dc) - p.k) / 8 })).keepLearned := if_pos ⟨hl, hlo, hhi⟩

theorem Chip.pauseWindowFail_of_late (hp : c.power.pause = 1) (hl : c.power.learn ≠ 3)
    (hover : c.power.pauseDueNs + 86400000 * 1000000 ≤ c.clk.opNs) : c.pauseWindowFail = c.pauseFails := by
  rw [Chip.pauseWindowFail, if_neg (by simp [hp]), if_pos ⟨hp, hl, by simpa [Chip.elapsedMs] using hover⟩]

theorem Chip.SameData.pauseFails (c : Chip) : c.SameData c.pauseFails := (Chip.SameData.onPower c _).trans (.supplyRecord _ _)

theorem Chip.SameData.keepLearned (c : Chip) : c.SameData c.keepLearned := .emit c _

end

theorem Chip.record_octets (c : Chip) (code : Nat) (named : Option Nat) (body : Bytes) :
    (c.record code named body).dict.octets = c.dict.octets := by
  unfold Chip.record
  dsimp only
  split_ifs <;> rfl

theorem Chip.logNew_octets (c : Chip) (x : ChangeRec) : (c.logNew x).dict.octets = c.dict.octets := by
  rw [Chip.logNew, Chip.record_octets, Chip.onDict_dict]

theorem Chip.logAgain_octets (c : Chip) (r : ChangeRec) : (c.logAgain r).dict.octets = c.dict.octets := by
  rw [Chip.logAgain, Chip.onDict_dict]

theorem Chip.logChange_octets (c : Chip) (index sub : Nat) (w : Writer) (reason detail old new : Nat) (secret : Bool) :
    (c.logChange index sub w reason detail old new secret).dict.octets = c.dict.octets := by
  have h : (if reason = 0 then c else c.onDict (fun d => { d with refused := d.refused + 1 })).dict.octets = c.dict.octets := by
    split <;> rfl
  rw [← h]
  unfold Chip.logChange
  dsimp only
  split
  · simp only [apply_ite (fun d : Chip => d.dict.octets), Chip.logNew_octets, Chip.logAgain_octets, ite_self]
  · rw [Chip.logNew_octets]

theorem Chip.logChange_pack (c : Chip) (index sub : Nat) (w : Writer) (reason detail old new : Nat) (secret : Bool) :
    (c.logChange index sub w reason detail old new secret).pack = c.pack := by
  rw [Chip.pack, Chip.octets, Chip.logChange_octets]
  rfl

/-- A new pack ends what has been learned; the charger follows its state. -/
theorem Chip.newPack_power {β : Type} (g : Power → β) (h : ∀ (c : Chip) v, g (c.setCharger v).power = g c.power) (c : Chip) :
    g c.newPack.power = g { c.power with q := packQnom c.pack, k := 1, learn := 0, learnBefore := 0, lastRest := none } :=
  Chip.chargerLap_keeps g h _

/-- Settles O54: each event of the charger and the estimator is one branch of its command. -/
theorem chargerAndEstimatorAnswerTheirEvents : Obligations.ChargerAndEstimatorAnswerTheirEvents := by
  refine ⟨fun s h => s.effect_eq_left ((if_pos h).trans (Chip.setCharger_of_cc h)), fun s h => s.effect_eq_left (if_neg h),
    fun s uv dc moved t0 h hover hp hm => s.effect_eq_left ((Chip.startRestEnd_of_over h hover).trans ?_),
    fun s uv dc moved t0 h hover hp hf hm => s.effect_eq_left ((Chip.startRestEnd_of_over h hover).trans ?_),
    fun s uv dc moved t0 h hover hp => s.effect_eq_left ((Chip.startRestEnd_of_over h hover).trans ?_),
    fun s uv dc moved h => s.effect_eq_left (Chip.startRestEnd_of_early h),
    fun s uv dc hl hlo hhi => ⟨_, s.effect_eq_left (Chip.resistanceStep_of_good hl hlo hhi), ?_, ?_⟩,
    fun s uv dc h => s.effect_eq_left (if_neg ?_), fun s hp hval hs => ⟨_, s.effect_eq_left (if_pos ⟨hp, hval, hs⟩), ?_⟩,
    fun s uv dc t0 hp h hover => ⟨fun hrest => s.effect_eq_left ((Chip.pauseEnd_of_over hp h hover).trans (if_pos hrest)),
      fun hrest => s.effect_eq_left ((Chip.pauseEnd_of_over hp h hover).trans (if_neg (by rw [hrest]; decide)))⟩,
    fun s hp hval => s.effect_eq_left (if_pos ⟨hp, hval⟩),
    fun s hp hl hover => ⟨_, s.effect_eq_left (Chip.pauseWindowFail_of_late hp hl hover), ?_, Chip.SameData.left (.pauseFails _)⟩,
    fun s w h => ⟨_, s.effect_eq_left (Chip.command_of_accepted h 1 _), ?_⟩⟩
  · rw [decide_eq_false hp]
    exact congrArg Chip.chargerLap (if_neg (by omega))
  · rw [decide_eq_false hp]
    exact congrArg Chip.chargerLap (if_pos ⟨hm, rfl, by rw [hf]; rfl⟩)
  · rw [decide_eq_true hp]
    exact congrArg Chip.chargerLap (if_neg (by simp))
  · simp [Chip.keepLearned]
  · exact Chip.SameData.left ((Chip.SameData.onPower _ _).trans (.keepLearned _))
  · rintro ⟨hl, hlo, hhi⟩
    rcases h with h | h | h
    · exact hl h
    · exact absurd hlo (not_le.mpr h)
    · exact absurd hhi (not_le.mpr h)
  · have hheld := Chip.chargerLap_of_pause (c := s.onPower (fun p => { p with pause := 2, pauseNs := some s.clk.opNs })) rfl
    rw [hheld]
    exact ⟨State.left_power _ _, Chip.SameData.left ((Chip.SameData.onPower _ _).trans (.setCharger _ _))⟩
  · simp [Chip.pauseFails, Chip.supplyRecord, hl]
  · have hpower : ∀ {β : Type} (g : Power → β), (∀ (c : Chip) v, g (c.setCharger v).power = g c.power) →
        g (s.left (s.logChange 0x4431 0 w 0 0 0 1 false).newPack).power =
          g { s.power with q := packQnom s.pack, k := 1, learn := 0, learnBefore := 0, lastRest := none } := fun g hg => by
      rw [State.left_power, Chip.newPack_power g hg, Chip.logChange_power, Chip.logChange_pack]
    exact ⟨hpower Power.q fun _ _ => rfl, hpower Power.k fun _ _ => rfl, hpower Power.learn fun _ _ => rfl,
      hpower Power.lastRest fun _ _ => rfl,
      Chip.SameData.left ((((Chip.SameData.logChange _ _ _ _ _ _ _ _ _).trans (.onPower _ _)).trans (.keepLearned _)).trans
        (.chargerLap _))⟩

end Sys2Proof.Machine
end

section
/-! The recorder's flushes (O59), the starts and the resets (O60). -/

namespace Sys2Proof.Machine

/-- Settles O59: a flush and a checkpoint are what their commands do. -/
theorem recorderFlushesAndCheckpoints : Obligations.RecorderFlushesAndCheckpoints :=
  ⟨fun s _ h => s.effect_eq_left (Chip.command_of_accepted h 1 _),
    fun s hu hlap => s.effect_eq_left (if_pos ⟨decide_eq_true hu, hlap⟩), fun s => s.effect_left _⟩

/-! ### Starts -/

/-- A cold start sets the clock from the time that was saved and reads the straps. -/
theorem State.resetLeft_cold {s : State} {c : Chip} (h : c.ring.stale = false) (i : StartInputs) :
    (s.resetLeft (c.leadsTo (.restart 0 i))).clk = s.clk.restarted 0 c.recorder.savedMs ∧
    (s.resetLeft (c.leadsTo (.restart 0 i))).straps = s.straps.restarted 0 i := by
  rw [State.resetLeft_of_fresh (c := c.leadsTo (.restart 0 i)) h, State.leaves_clk, State.leaves_straps]
  exact ⟨Chip.restart_clk_of_cold _ i, Chip.restart_straps _ 0 i⟩

/-- A unit whose rails are lost stops its clock and keeps the rest of it, and its straps. -/
theorem State.resetLeft_lost {s : State} {c : Chip} (h : c.ring.stale = false) :
    (s.resetLeft (c.leadsTo .lost)).clk = { s.clk with running := false } ∧ (s.resetLeft (c.leadsTo .lost)).straps = s.straps := by
  rw [State.resetLeft_of_fresh (c := c.leadsTo .lost) h, State.leaves_clk, State.leaves_straps]
  exact ⟨rfl, rfl⟩

/-- A reset of the unit starts it again. -/
theorem State.resetLeft_unit {s : State} {c : Chip} {kind : Nat} (h : c.ring.stale = false) (hk : kind ≠ 0) :
    (s.resetLeft (c.leadsTo (.unit kind))).clk =
      { Clock.reset with opNs := s.clk.opNs, cycles := s.clk.cycles, startNs := s.clk.opNs, missed := s.clk.missed } := by
  rw [State.resetLeft_of_fresh (c := c.leadsTo (.unit kind)) h, State.leaves_clk]
  exact Chip.restart_clk_of_warm hk _

theorem Chip.coldPowerOn_of_good {c : Chip} {i : StartInputs} (hp : c.start.powered = false) (hr : i.railsOk = true)
    (href : i.referenceOk = true) : c.coldPowerOn i = c.leadsTo (.restart 0 i) := if_neg (by simp [hp, hr, href])

theorem Chip.resetNAssert_of_running {c : Chip} {us : Nat} (hus : 10 ≤ us) (hp : c.start.powered = true) (hv : c.power.supply ≠ .vault)
    (hw : c.power.supply ≠ .watch) : c.resetNAssert us = (c.onStart (fun k => { k with resetN := true })).leadsTo .held := by
  rw [Chip.resetNAssert, if_neg (by simp [hp, hus])]
  exact if_neg (by simp [hv, hw])

/-- A vault under way is not cut: the reset waits for its end. -/
theorem Chip.resetNAssert_of_vault {c : Chip} {us : Nat} (hus : 10 ≤ us) (hp : c.start.powered = true)
    (hv : c.power.supply = .vault ∨ c.power.supply = .watch) : c.resetNAssert us =
      (c.onStart (fun k => { k with resetN := true })).onPower (fun p => { p with resetHeld := true }) := by
  rw [Chip.resetNAssert, if_neg (by simp [hp, hus])]
  exact if_pos hv

theorem Chip.resetNRelease_of_held {c : Chip} {i : StartInputs} (hr : c.start.resetN = true) (hh : c.power.resetHeld = false)
    (hp : c.start.powered = true) : c.resetNRelease i = (c.onStart (fun k => { k with resetN := false })).leadsTo (.restart 1 i) := by
  rw [Chip.resetNRelease, if_neg (by simp [hr])]
  exact if_neg (by simp [hh, hp])

/-- The firmware starts the clock at the selected stride. -/
theorem Chip.firmwareStart_clk {c : Chip} (hp : c.start.powered = true) (hphase : c.start.phase = 0) (hrun : c.clk.running = false)
    (hr : c.start.resetN = false) (hv : c.power.vinReset = false) : c.firmwareStart.clk = { c.clk with
      running := true, ticks := 2048 * 2 ^ c.val 0x1200, stride := 0, opNs := max c.clk.opNs (c.clk.startNs + 150000000) } := by
  rw [Chip.firmwareStart, if_neg (by simp [hp, hphase, hrun, hr, hv]), Chip.aside_clk]
  rfl

/-- An unpaired unit whose members are there, and whose own state is to be replayed, goes on to its replay. -/
theorem Chip.memberWaitEnd_of_retained {c : Chip} (hphase : c.start.phase = 2) (hover : c.membersOver = true)
    (hsource : c.chooseSource = .retained) (hp : c.paired = false) :
    c.memberWaitEnd = c.onStart (fun k => { k with phase := 4 }) := by
  rw [Chip.memberWaitEnd, if_neg (by simp [hphase, hover])]
  simp only [hsource, if_true, hp, Bool.not_false]

/-! ### Images -/

theorem Chip.pisteChange_start (c : Chip) (p : Nat) : (c.pisteChange p).start = c.start :=
  Chip.directoryChange_keeps Chip.start (fun _ _ _ => rfl) (fun _ _ => rfl) (fun _ _ => rfl) _

/-- A write of an object's value leaves the start. -/
theorem Chip.applyObject_start (c : Chip) (o : Obj) (sub : Nat) (b : Bytes) (w : Writer) : (c.applyObject o sub b w).start = c.start := by
  have hput : ∀ d : Chip, (d.putObject o sub b).start = d.start := fun d => by
    unfold Chip.putObject
    dsimp only
    split <;> rfl
  have hkeep : ∀ d : Chip, (d.keepWrite o sub b).start = d.start := fun d => by
    unfold Chip.keepWrite
    dsimp only
    split <;> rfl
  have hmirror : ∀ (d : Chip) i, (d.mirrorItem i).start = d.start := fun d i => by
    unfold Chip.mirrorItem
    split <;> rfl
  simp only [Chip.applyObject, apply_ite Chip.start, hmirror, hkeep, hput, Chip.pisteChange_start, Chip.updPiste_start,
    Chip.logChange_start, ite_self]

theorem Chip.commitImage_start (c : Chip) (found : FlashImage) : (c.commitImage found).start = { c.start with
    images := c.start.images.put (1 - c.start.running) found, written := [] } := by
  unfold Chip.commitImage
  dsimp only
  split
  · rw [Chip.applyObject_start]
    rfl
  · rfl

/-- Settles O60: a start or a reset sets the clock and the straps by the reset it leads to; the others are one branch of their command. -/
theorem startsAndResetsSetTheClock : Obligations.StartsAndResetsSetTheClock := by
  refine ⟨fun s i hp hr href hring => ⟨_, s.resetEffect_eq_left (Chip.coldPowerOn_of_good hp hr href), State.resetLeft_cold hring i⟩,
    fun s us hus hp hv hw hring => ⟨_, s.resetEffect_eq_left (Chip.resetNAssert_of_running hus hp hv hw),
      State.resetLeft_held (c := s.onStart _) hring⟩,
    fun s us hus hp hv => s.resetEffect_eq_left (Chip.resetNAssert_of_vault hus hp hv),
    fun s i hr hh hp hring => ⟨_, s.resetEffect_eq_left (Chip.resetNRelease_of_held hr hh hp),
      State.resetLeft_warm (c := s.onStart _) hring one_ne_zero i⟩,
    fun s hp hphase hrun hr hv => ⟨_, s.clockEffect_leaves _, (State.leaves_clk ..).trans (Chip.firmwareStart_clk hp hphase hrun hr hv)⟩,
    fun s hphase hover hsource hp => s.effect_eq_left (Chip.memberWaitEnd_of_retained hphase hover hsource hp),
    fun s w h hring => ⟨_, s.resetEffect_eq_left (Chip.command_of_accepted h 0x52540001 _), ?_⟩,
    fun s hp hring => ⟨_, s.resetEffect_eq_left (if_pos hp), State.resetLeft_lost hring⟩,
    fun s b w h => ⟨_, s.effect_eq_left (Chip.command_of_accepted h (leAt b 0 8) _), ?_, ?_⟩,
    fun s found w h => ⟨_, s.effect_eq_left (Chip.command_of_accepted h 1 _), ?_⟩⟩
  · have hclk := State.resetLeft_unit (s := s) (c := s.logChange 0x5430 0 w 0 0 0 0x52540001 false)
      (by rw [Chip.logChange_ring]; exact hring) two_ne_zero
    exact ⟨(congrArg Clock.running hclk :), (congrArg Clock.cycles hclk :)⟩
  · simp [Chip.takeChunk]
  · exact Chip.SameData.left ((Chip.SameData.logChange _ _ _ _ _ _ _ _ _).trans ⟨rfl, rfl, rfl, rfl, rfl, rfl, rfl, rfl⟩)
  · refine (State.left_start _ _).trans ((Chip.commitImage_start _ _).trans ?_)
    rw [Chip.logChange_start]

end Sys2Proof.Machine
end
